-- ==== Sys2Proof/Word.lean ====
section
/-! DEFINITION. The word types of the LZ260 model: what the manual treats as bits (bytes on the bench line, the wrapping
32-bit counters and time stamps, the 16-bit event sets). Everything the manual treats as a count is a Nat, and every
error value an Int. -/

namespace Sys2Proof

/-- One character's data on the bench line (R87) and one content byte of a record (R154). -/
abbrev Byte := BitVec 8

/-- A 16-bit field: run numbers, event sets (R101), frame checks (R89). -/
abbrev Half := BitVec 16

/-- A 32-bit field: the reference counters (R8), the mains cycle count (R15) and the 1 µs time counter (R16) wrap at 2^32. -/
abbrev Word := BitVec 32

end Sys2Proof
end

