-- ==== Sys2Proof/Syntax.lean ====
section
/-! DEFINITION. The commands the LZ260 takes, one constructor of Instr per row of spec/opcode_table.json, each with the
operands its rule names. Pins, line events, timer expiries and the frames that owners take all stand in one type, because
the table lists them all as steps of the part. -/

namespace Sys2Proof

/-- A measuring channel: A is input MA with engine GA, B is input MB with engine GB (00_scope.md, Conventions). -/
inductive Channel where
  | a | b
deriving DecidableEq, Repr, Inhabited

/-- A reference input, RF0 or RF1 (R8). -/
inductive RefName where
  | rf0 | rf1
deriving DecidableEq, Repr, Inhabited

/-- The three ways a frame in reception ends with an error (R94). -/
inductive RxError where
  | framing | shortFrame | checkError
deriving DecidableEq, Repr, Inhabited

/-- A change of the bench line (R87): the level it went to, and the µs from it to the command that shows it. -/
structure LineEdge where
  dominant : Bool
  ago : Nat
deriving DecidableEq, Repr, Inhabited

/-- A frame in reception that ended with an error (R94), with the changes of the line, oldest first, since the last command that showed
any: a frame in error leaves no characters to tell them from. -/
structure BadFrame where
  error : RxError
  line : List LineEdge
deriving DecidableEq, Repr, Inhabited

/-- What the receive stage took off the line during start-up, before the station reached IDLE (R99, R165): the characters of
a frame, with the changes of the line before it and the µs since its end, or a frame that ended with an error. -/
inductive Heard where
  | frame (bytes : List Byte) (line : List LineEdge) (ago : Nat)
  | error (bad : BadFrame)
deriving DecidableEq, Repr, Inhabited

/-- The 24 payload bytes of RUN OPEN, field by field (R102). -/
structure RunOpenFields where
  run : Half
  head : Byte
  tail : Byte
  flags : Byte
  loops : Byte
  s0 : Word
  s1 : Word
  window : Byte
  maEdge : Byte
  maWg : Byte
  maWd : Byte
  mbEdge : Byte
  mbWg : Byte
  mbWd : Byte
  tq : Byte
  td : Byte
  stroke : Byte
deriving DecidableEq, Repr, Inhabited

/-- A reception: the characters from the sender byte to the high check byte (R94, R95), the changes of the line before it (those of a
frame received correctly are told by its characters, those of one in error stand here), and the level MPRES shows at its end, for a
RUN OPEN that is taken at its entry (R96, R107). -/
structure Reception where
  bytes : List Byte
  line : List LineEdge
  meterPresent : Bool
  deriving DecidableEq, Repr

/-- The commands. A frame's own command stands for its taking by its owner (section 6.6), FRAME_RECEIVED for its way from the line to
that owner (R95, R96); a station frame carries the sender's address. -/
inductive Instr where
  /-- METER_ACTIVE_EDGE: an active edge at MA or MB (R3). -/
  | meterActiveEdge (ch : Channel)
  /-- GLITCH: the input returns to its earlier level before Wg µs (R3). -/
  | glitch (ch : Channel)
  /-- PULSE_ACCEPTED: the pending pulse reaches Wg µs (R3). -/
  | pulseAccepted (ch : Channel)
  /-- REFERENCE_EDGE: a raw rising edge at RF0 or RF1 (R8). -/
  | referenceEdge (input : RefName)
  /-- ZC_EDGE: a rising edge at ZC (R12). -/
  | zcEdge
  /-- SILENCE_TIMER_EXPIRY (R14). -/
  | silenceTimerExpiry
  /-- MPRES_FALL (R124). -/
  | mpresFall
  /-- STROKE_INACTIVE: the STROKE input is seen inactive (R149). -/
  | strokeInactive
  /-- STROKE_END: the STROKE input becomes active (R149). -/
  | strokeEnd
  /-- POWER_ON_RESET (R164). -/
  | powerOnReset
  /-- SUPPLY_DIP_RESET (R164). -/
  | supplyDipReset
  /-- RESET_PIN (R164). -/
  | resetPin
  /-- RESET_END: the reset ends, with the levels of the address and rate straps, and what the line brought before IDLE (R165). -/
  | resetEnd (addr : BitVec 6) (rate : BitVec 2) (heard : List Heard)
  /-- ENROL_WINDOW_EXPIRY (R111). -/
  | enrolWindowExpiry
  /-- LATE_ENROL_ALLOWANCE_END (R110). -/
  | lateEnrolAllowanceEnd
  /-- BARRIER_TIMER_EXPIRY (R119). -/
  | barrierTimerExpiry
  /-- DELAY_TIMER_EXPIRY (R134). -/
  | delayTimerExpiry
  /-- CONFIRM_TIMER_EXPIRY (R145). -/
  | confirmTimerExpiry
  /-- STROKE_TIMER_EXPIRY (R149). -/
  | strokeTimerExpiry
  /-- REJECT_PULSE_END (R67). -/
  | rejectPulseEnd
  /-- LAMP_FLASH_TOGGLE (R66). -/
  | lampFlashToggle
  /-- LINE_STUCK: the line has been dominant without a break since the time stamp given (R97). -/
  | lineStuck (since : Word)
  /-- STUCK_LINE_RELEASED (R97). -/
  | stuckLineReleased
  /-- SEND_ATTEMPT_START: the wait is over, unless a change of the line since the last command that showed any says otherwise; another
  station's dominant bit that is taken first is the last of them (R91, R93). -/
  | sendAttemptStart (line : List LineEdge)
  /-- FRAME_SENT (R93). -/
  | frameSent
  /-- LINE_LOST (R92). -/
  | lineLost
  /-- LINE_NOT_FOLLOWING (R92). -/
  | lineNotFollowing
  /-- FRAME_RECEIVE_ERROR: a frame in reception ends with an error, with the changes of the line (R91, R94). -/
  | frameReceiveError (bad : BadFrame)
  /-- FRAME_RECEIVED, with what came off the line (R94 to R96). -/
  | frameReceived (reception : Reception)
  /-- PLAN_PUT, with its payload as sent: its form is judged by the plan table (R70). -/
  | planPut (payload : List Byte)
  /-- PLAN_TAIL (R84). -/
  | planTail (run : Half) (tail : Byte)
  /-- PLAN_CLEAR (R73). -/
  | planClear
  /-- RUN_OPEN, with the level MPRES shows at this moment (R106, R107). -/
  | runOpen (fields : RunOpenFields) (meterPresent : Bool)
  /-- LOAD_READY (R112, R113). -/
  | loadReady (run seq : Half) (desc : Byte)
  /-- RUN_ABORT (R126). -/
  | runAbort (run : Half)
  /-- RUN_CLOSE (R128). -/
  | runClose (run : Half)
  /-- HOLD_SET (R168). -/
  | holdSet (holds : Byte)
  /-- EVENT_CLEAR (R136). -/
  | eventClear (clear mask : Half)
  /-- STATUS_ASK (R137). -/
  | statusAsk
  /-- RECORD_ASK (R160). -/
  | recordAsk (selector : Byte)
  /-- RECORD_MARK (R161). -/
  | recordMark (slot : Byte) (number : Half)
  /-- STORE_WIPE (R162). -/
  | storeWipe
  /-- STORE_SUM_ASK (R163). -/
  | storeSumAsk (count : Byte)
  /-- RESTART (R166). -/
  | restart
  /-- ENROL heard from a peer (R110). -/
  | enrol (sender : BitVec 6) (run : Half)
  /-- DONE heard from a peer: mask code and the figure F, absent when the frame shows it absent (R114). -/
  | done (sender : BitVec 6) (run seq : Half) (mask : Byte) (figure : Option Word)
  /-- LAPSE heard from a peer (R120). -/
  | lapse (sender : BitVec 6) (run seq : Half) (addrs : BitVec 64)
  /-- WITHDRAW heard from a peer (R122). -/
  | withdraw (sender : BitVec 6) (run seq : Half) (reason : Byte)
  /-- SEAL_CLAIM heard from a peer (R141). -/
  | sealClaim (sender : BitVec 6) (run : Half) (serial : Word)
  /-- SEAL_VOID heard from a peer (R142). -/
  | sealVoid (sender : BitVec 6) (run : Half) (claimer : Byte) (serial : Word) (watermark : Word)
  /-- ERASE_END (R157). -/
  | eraseEnd
  /-- CONTENT_STEP_END (R157). -/
  | contentStepEnd
  /-- LEVEL_STEP_END (R157). -/
  | levelStepEnd
  /-- MARK_END (R158). -/
  | markEnd
  /-- WIPE_SLOT_ERASED (R162). -/
  | wipeSlotErased
  /-- WIPE_END (R162). -/
  | wipeEnd
  /-- METER_INPUT_RETURN (R3). -/
  | meterInputReturn (ch : Channel)
deriving DecidableEq, Repr

end Sys2Proof
end

