-- ==== Sys2Proof/Decode.lean ====
section
/-! DEFINITION. Decoding. The LZ260 fetches nothing and decodes no instruction words, and spec/opcode_table.json gives no row any
bits: no word spells a command. The frames of the bench line are read in Sys2Proof/Machine/Receive.lean (R94) and
Sys2Proof/Machine/Operands.lean (R100 to R103). -/

namespace Sys2Proof

/-- The command that a table word spells: none, because no row of the table has bits. -/
def decodeTableWord (_nbits _w : Nat) : Option Instr := none

end Sys2Proof
end

