-- ==== Sys2Proof/Config.lean ====
section
/-! DEFINITION. What the manual leaves open: the free values. Each is an opaque constant, so that nothing can be proved of its
value; the model applies it to State's counter freeIndex, which moves on each time values are taken. -/

namespace Sys2Proof.Config

/-- Which of the cells of a slot had been reached when a reset cut an operation short (the table after R159 leaves this to the
instant of the cut). One bit per content or check cell: a cell keeps its value where the bit is set. Log entry 5. -/
opaque cutCells : Nat → BitVec 240

/-- How far a cut level step, mark or second phase of an erase had come (the table after R159). Log entry 5. -/
opaque cutPhase : Nat → BitVec 2

/-- The level bits that a RECORD frame carries for a slot in which only the second level cell is programmed (R153 reads the
level from the pair and names no level for this one). Log entry 7. -/
opaque secondCellLevel : BitVec 2

/-- The changes of the line that have not yet shown when the wait of an own frame is over by those that have, the dominant bit of
another station that is taken first among them (R91). Log entry 1. -/
opaque lineSeen : Nat → List LineEdge

end Sys2Proof.Config
end

