-- ==== Sys2Proof/Machine/Bytes.lean ====
section
/-! DEFINITION. Byte order and check (R88, R89, R101): multi-byte fields least significant byte first, signed fields in two's
complement, the address bits of the sender byte in reverse order, and the 16-bit frame check. -/

namespace Sys2Proof.Machine

/-- The `n` low bytes of a number, least significant first (R88). -/
def leBytes : Nat → Nat → List Byte
  | 0, _ => []
  | n + 1, v => BitVec.ofNat 8 v :: leBytes n (v / 256)

/-- A signed field of `n` bytes, in two's complement (R88). -/
def leSigned (n : Nat) (v : Int) : List Byte :=
  leBytes n (v % (2 ^ (8 * n) : Nat)).toNat

/-- The number that bytes hold, least significant first. -/
def fromLe : List Byte → Nat
  | [] => 0
  | b :: bs => b.toNat + 256 * fromLe bs

/-- A field of `len` bytes at an offset of a payload. -/
def field (p : List Byte) (off len : Nat) : Nat := fromLe ((p.drop off).take len)

/-- A signed field of `len` bytes at an offset of a payload. -/
def signedField (p : List Byte) (off len : Nat) : Int :=
  let v := field p off len
  if v < 2 ^ (8 * len - 1) then (v : Int) else (v : Int) - (2 ^ (8 * len) : Nat)

/-- One bit into the check register (R89): compare, shift towards the low end, and combine with 8408 hex if they differed. -/
def checkBit (reg : Half) (bit : Bool) : Half :=
  if (reg.getLsbD 0 != bit) then (reg >>> 1) ^^^ 0x8408#16 else reg >>> 1

/-- One byte, its bits least significant first (R89). -/
def checkByte (reg : Half) (b : Byte) : Half :=
  [0, 1, 2, 3, 4, 5, 6, 7].foldl (fun r i => checkBit r (b.getLsbD i)) reg

/-- The check over bytes, from a register of all ones, with no final inversion (R89). -/
def frameCheck (bytes : List Byte) : Half := bytes.foldl checkByte 0xFFFF#16

/-- The six address bits in reverse order, as the sender byte carries them (R101). -/
def reverse6 (a : BitVec 6) : BitVec 6 :=
  [0, 1, 2, 3, 4, 5].foldl (fun r i => if a.getLsbD i then r ||| (1#6 <<< (5 - i)) else r) 0#6

/-- A sender byte: the reversed address, high bits 0 (R101). -/
def senderByte (addr : Nat) : Byte := (reverse6 (BitVec.ofNat 6 addr)).setWidth 8

/-- A whole frame as it goes on the line: header, payload, check low byte first (R88, R101). -/
def frameBytes (sender kind target : Nat) (payload : List Byte) : List Byte :=
  let body := senderByte sender :: BitVec.ofNat 8 kind :: BitVec.ofNat 8 target :: BitVec.ofNat 8 payload.length :: payload
  body ++ leBytes 2 (frameCheck body).toNat

end Sys2Proof.Machine
end

