-- ==== Sys2Proof/Machine/State.lean ====
section
/-! DEFINITION. Everything the manual gives one LZ260 to hold, block by block (00_scope.md, Blocks), as plain data; the queue of
commands that wait; the reasons to stop; and the state right after a power-on reset. -/

namespace Sys2Proof.Machine

/-- Who stops with a fault: no command of the LZ260 does. The manual gives every step of the table an effect. -/
inductive Fault where
deriving DecidableEq, Repr

/-- Who refuses: no meaning does. The requests that the part itself refuses (R138) are effects on State.
`notModelled` is raised by exec's arm of a command that has no meaning yet; safe. -/
inductive Refusal where
  | notModelled (mnemonic : String)
deriving DecidableEq, Repr

/-- One item for each of the two channels (or of the inputs MA and MB, or of the engines GA and GB). -/
structure PerChan (α : Type) where
  a : α
  b : α
deriving DecidableEq, Repr

/-- The item of one channel. -/
def PerChan.get {α : Type} (p : PerChan α) : Channel → α
  | .a => p.a
  | .b => p.b

/-- The pair with one channel's item replaced. -/
def PerChan.set {α : Type} (p : PerChan α) (ch : Channel) (x : α) : PerChan α :=
  match ch with
  | .a => { p with a := x }
  | .b => { p with b := x }

/-! ### Chapter 1: pulse front end and timebase -/

/-- The active edge of a meter input (R1). -/
inductive EdgeKind where
  | rising | falling
deriving DecidableEq, Repr

/-- A reference counter's value with the prescaler in force at its input (R6, R10). -/
structure Snapshot where
  count : Word
  prescaler : Nat
deriving DecidableEq, Repr

/-- A pending pulse: the active edge's time stamp and snapshot (R3). -/
structure Pulse where
  stamp : Word
  snap : Snapshot
deriving DecidableEq, Repr

/-- One meter input, MA or MB: the settings of R1 and the working state of R2 to R5. `active` says that an accepted pulse has
not yet returned to its earlier level (R3, last sentences but one). -/
structure MeterInput where
  edge : EdgeKind
  wg : Nat
  wd : Nat
  pulse : Option Pulse
  active : Bool
  lastEdge : Option Word
  glitches : Nat
deriving DecidableEq, Repr

/-- One reference input (R8, R9, R11). `sinceAdvance` and `sinceRaw` are the time of the last counter advance and of the last
raw edge, held as CLK8 periods passed since, up to 4 (500 ns) and 1 (125 ns), past which R11 no longer looks. -/
structure RefInput where
  counter : Word
  prescaler : Nat
  divider : Nat
  sinceAdvance : Nat
  sinceRaw : Nat
deriving DecidableEq, Repr

/-- The mains timing at ZC (R12 to R15); `silence` counts down 1 µs ticks, none when stopped. -/
structure Zc where
  lastEdge : Option Word
  goodRun : Nat
  present : Bool
  cycles : Word
  silence : Option Nat
deriving DecidableEq, Repr

/-- The pulse front end. -/
structure Pfe where
  meters : PerChan MeterInput
  rf0 : RefInput
  rf1 : RefInput
  zc : Zc
deriving DecidableEq, Repr

/-- The timebase (R16): the CLK8 periods into the present 1 µs, the 1 µs time counter and the 10 ms phase. -/
structure Timebase where
  clk : Nat
  counter : Word
  phase : Nat
deriving DecidableEq, Repr

/-! ### Chapter 2: gate engines -/

/-- The states of a gate engine (R18). -/
inductive GateState where
  | off | armed | open | doneCh
deriving DecidableEq, Repr

/-- How a channel's measurement ended (chapter 2, first table). -/
inductive Ending where
  | none | timeout | noref | mains | held
deriving DecidableEq, Repr

/-- The point parameters an engine copies at entry to ARMED (R19). -/
structure GateParams where
  nm : Nat
  repeats : Nat
  discard : Nat
  tg : Nat
  input : RefName
deriving DecidableEq, Repr

/-- One gate engine; `held` is the time stamp of a held mains cycle (R28). -/
structure GateEngine where
  state : GateState
  ending : Ending
  gate : Nat
  latch : Snapshot
  start : Word
  edges : Nat
  double : Bool
  timeout : Nat
  held : Option Word
  params : GateParams
deriving DecidableEq, Repr

/-- The record an engine hands over when a gate closes (R25). -/
structure GateSample where
  channel : Channel
  gate : Nat
  nm : Nat
  mp : Nat
  prescaler : Nat
  duration : Nat
  glitches : Nat
  double : Bool
deriving DecidableEq, Repr

/-! ### Chapters 3 and 4: error computer, points and verdicts -/

/-- The twelve channel outcomes (R43, section 4.4). -/
inductive ChanOutcome where
  | pass | failLow | failHigh | failSpread | failCreep | failStart
  | invalidTimeout | invalidNoref | invalidMains | invalidHeld | invalidDouble | invalidRefDisagree
deriving DecidableEq, Repr

/-- A set of channels: a descriptor's channel mask. -/
structure Mask where
  a : Bool
  b : Bool
deriving DecidableEq, Repr

/-- Is the channel in the mask? -/
def Mask.has (m : Mask) : Channel → Bool
  | .a => m.a
  | .b => m.b

/-- The kinds of descriptor (R69). -/
inductive Kind where
  | none | accuracy | creep | start
deriving DecidableEq, Repr

/-- The point copy the ECU takes at entry to MEASURING (R35). -/
structure PointCopy where
  seq : Nat
  desc : Nat
  kind : Kind
  mask : Mask
  discard : Nat
  repeats : Nat
  k : PerChan Nat
  lower : Int
  upper : Int
  spreadLimit : Nat
  tolerance : Nat
deriving DecidableEq, Repr

/-- One channel's accumulator (R35, R40). -/
structure Accumulator where
  n : Nat
  sum : Int
  min : Option Int
  max : Option Int
  saturated : Bool
  doubleSeen : Bool
  glitchTotal : Nat
deriving DecidableEq, Repr

/-- One channel's outcome record (R44, R58). -/
structure OutcomeRecord where
  outcome : ChanOutcome
  mean : Option Int
  spread : Option Nat
  kept : Nat
  glitchTotal : Nat
deriving DecidableEq, Repr

/-- The states of a dwell count (R53). -/
inductive DwellState where
  | off | counting | ended
deriving DecidableEq, Repr

/-- One channel's dwell count (R53 to R58). -/
structure Dwell where
  state : DwellState
  edges : Nat
  cycles : Nat
  held : Option Word
  kind : Kind
  length : Nat
  number : Nat
deriving DecidableEq, Repr

/-- The error computer. -/
structure Ecu where
  copy : PointCopy
  acc : PerChan Accumulator
  outcomes : PerChan (Option OutcomeRecord)
  dwell : PerChan Dwell
deriving DecidableEq, Repr

/-- A point verdict (R62). -/
inductive PointVerdict where
  | pass | fail | invalid
deriving DecidableEq, Repr

/-- A meter verdict once formed (R64); none before. -/
inductive MeterVerdict where
  | pass | fail | invalid | incomplete
deriving DecidableEq, Repr

/-- The deviation record of a point (R48): median and dev stand with AGREE and DISAGREE only. -/
inductive Deviation where
  | unchecked
  | agree (median dev : Nat)
  | disagree (median dev : Nat)
deriving DecidableEq, Repr

/-- The worst accuracy point of a run (R63). -/
structure Worst where
  desc : Nat
  channel : Channel
  mean : Int
deriving DecidableEq, Repr

/-- The meter tally (R63). -/
structure Tally where
  run : Nat
  passed : Nat
  failed : Nat
  invalid : Nat
  disagree : Nat
  worst : Option Worst
  firstFail : Option Nat
deriving DecidableEq, Repr

/-! ### Chapter 8: entries, events -/

/-- A gate entry (R41). -/
structure GateEntry where
  channel : Channel
  seq : Nat
  gate : Nat
  error : Option Int
  discarded : Bool
  saturated : Bool
  double : Bool
  glitches : Nat
  duration : Nat
deriving DecidableEq, Repr

/-- A point entry (R49); a channel outside the mask has no record. -/
structure PointEntry where
  seq : Nat
  desc : Nat
  verdict : PointVerdict
  mask : Mask
  figure : Option Nat
  deviation : Deviation
  chans : PerChan (Option OutcomeRecord)
deriving DecidableEq, Repr

/-- An entry of the result queue. -/
inductive Entry where
  | gate (e : GateEntry)
  | point (e : PointEntry)
deriving DecidableEq, Repr

/-- The sixteen events (section 8.3). -/
inductive Event where
  | lineError | rxOverrun | lineStuck | addressClash | planFault | planRefused | mainsLost | outOfStep
  | lapsed | reportDropped | sealConflict | lateVoid | sealFailed | pressFault | storeFull | storeDamaged
deriving DecidableEq, Repr

/-- The causes of a refused request (R101). -/
inductive RefusalCause where
  | busy | inRun | mismatch | notExported | inProgress
deriving DecidableEq, Repr

/-- The last refusal: the frame kind code of the request and the cause (R138). -/
structure RefusedRequest where
  kind : Nat
  cause : RefusalCause
deriving DecidableEq, Repr

/-- The result reporter. `call` is the delay timer's expired-pending: it has called for a frame not yet formed (R134).
`delay` counts down 10 ms ticks, none when stopped. -/
structure Rrp where
  queue : List Entry
  tq : Nat
  td : Nat
  delay : Option Nat
  call : Bool
  drops : Nat
  flags : Half
  mask : Half
  statusDue : Bool
  lastRefusal : Option RefusedRequest
deriving DecidableEq, Repr

/-! ### Chapter 5: plan table -/

/-- One channel's reference input (its code as stored) and prescaler (R69). -/
structure ChanInput where
  input : Nat
  prescaler : Nat
deriving DecidableEq, Repr

/-- The fields of every kind but NONE (R69); a channel outside the mask has no input. -/
structure PointFields where
  mask : Mask
  settle : Nat
  window : Nat
  tolerance : Nat
  barrier : Nat
  inputs : PerChan (Option ChanInput)
deriving DecidableEq, Repr

/-- Nm and K of one channel (R69). -/
structure GateChan where
  nm : Nat
  k : Nat
deriving DecidableEq, Repr

/-- The fields of kind ACCURACY alone (R69). -/
structure AccuracyFields where
  tg : Nat
  repeats : Nat
  discard : Nat
  lower : Int
  upper : Int
  spread : Nat
  chans : PerChan (Option GateChan)
deriving DecidableEq, Repr

/-- The fields of kinds CREEP and START alone (R69). -/
structure DwellFields where
  length : Nat
  number : Nat
deriving DecidableEq, Repr

/-- A test-point descriptor (R69): the fields its kind does not have are absent. -/
structure Descriptor where
  kind : Kind
  next : Nat
  last : Bool
  completed : Bool
  completion : Option PointVerdict
  point : Option PointFields
  accuracy : Option AccuracyFields
  dwell : Option DwellFields
deriving DecidableEq, Repr

/-- The causes of a plan fault (R76). -/
inductive PlanCause where
  | empty | stale | zeroGate | discard | limits | range
deriving DecidableEq, Repr

/-- The plan fault record (R77). -/
structure PlanFault where
  cause : PlanCause
  desc : Nat
  seq : Nat
  completion : Option PointVerdict
deriving DecidableEq, Repr

/-- The plan table (chapter 5). -/
structure Plt where
  plan : List Descriptor
  head : Nat
  tail : Nat
  cyclic : Bool
  loops : Nat
  loop : Nat
  fault : Option PlanFault
deriving DecidableEq, Repr

/-! ### Chapter 7: run sequencer -/

/-- The fourteen run states. -/
inductive RunState where
  | starting | idle | enrolling | waitLoad | settling | measuring | barrier | paused | sealing | finished
  | withdrawn | faulted | clashed | strapError
deriving DecidableEq, Repr

/-- The point phase (chapter 4). -/
inductive Phase where
  | none | settling | measuring | ended
deriving DecidableEq, Repr

/-- The states of the reference figure window (R60). -/
inductive WindowState where
  | none | waiting | running | complete | absent
deriving DecidableEq, Repr

/-- The reference figure window (R59, R60). -/
structure Window where
  state : WindowState
  start : Snapshot
  cycles : Nat
  input : RefName
deriving DecidableEq, Repr

/-- The status of a roster entry (R109). -/
inductive PeerStatus where
  | absent | enrolled | lapsed | withdrawn
deriving DecidableEq, Repr

/-- A roster entry (R109). -/
structure RosterEntry where
  status : PeerStatus
  lastDone : Option Nat
  figure : Option Nat
  unheard : Nat
deriving DecidableEq, Repr

/-- The barrier timer, in 10 ms ticks to go (R116, R119). -/
inductive BarrierTimer where
  | stopped
  | running (left : Nat)
  | expired
deriving DecidableEq, Repr

/-- The reasons for a withdrawal (R123). -/
inductive WithdrawReason where
  | planFault | planMismatch | outOfStep | meterRemoved
deriving DecidableEq, Repr

/-- The run sequencer (chapters 4 and 7). The roster lists addresses 1 to 60 in order. `enrolWindow` counts 10 ms ticks and
`allowance` 1 µs ticks, none when stopped. `enrolSent` keeps that the BLI told of the own ENROL's sending (R111). -/
structure Rsq where
  runState : RunState
  run : Option Half
  seq : Nat
  desc : Nat
  roster : List RosterEntry
  enrolWindow : Option Nat
  allowance : Option Nat
  barrier : BarrierTimer
  enrolSent : Bool
  phase : Phase
  settle : Nat
  received : PerChan (Option OutcomeRecord)
  window : Window
  figure : Option Nat
  tally : Tally
  verdict : Option MeterVerdict
deriving DecidableEq, Repr

/-! ### Chapter 6: bench line interface -/

/-- A frame of the coordination part. LAPSE and SEAL CLAIM form their list and serial at each attempt (R119, R144). -/
inductive CoordFrame where
  | enrol (run : Half)
  | done (run : Half) (seq : Nat) (mask : Mask) (figure : Option Nat) (chans : PerChan (Option OutcomeRecord))
  | lapse (run : Half) (seq : Nat)
  | withdraw (run : Half) (seq : Nat) (reason : WithdrawReason)
  | claim (run : Half)
  | void (run : Half) (claimer serial watermark : Nat)
deriving DecidableEq, Repr

/-- A frame of the reporting part. STATUS forms its contents at each attempt (R137); RECORD is fixed when its request is
taken (R160), as its payload bytes. -/
inductive ReportFrame where
  | hello (cause : Nat) (free damaged lastRecord : Nat)
  | result (drops : Nat) (entries : List Entry)
  | status
  | record (payload : List Byte)
  | storeSum (sum damaged : Nat)
deriving DecidableEq, Repr

/-- The two parts of the transmit queue (R98). -/
inductive TxPart where
  | coordination | reporting
deriving DecidableEq, Repr

/-- The station's own send in progress (R93): the part whose head is on the line, the frame's bytes, the list or serial
formed at the beginning of the attempt, whether the owner has withdrawn the frame meanwhile, and the time stamp and the quiet count of
the beginning, for a line that does not follow (R91, R92). -/
structure Attempt where
  part : TxPart
  bytes : List Byte
  list : List Nat
  serial : Nat
  withdrawn : Bool
  begun : Word
  quietBefore : Nat
deriving DecidableEq, Repr

/-- A good frame waiting in the receive buffer (R96). -/
structure RxFrame where
  sender : BitVec 6
  kind : Byte
  target : BitVec 6
  payload : List Byte
deriving DecidableEq, Repr

/-- The receive stage (R94): in a frame or hunting, with the bytes taken so far and the running check. -/
structure RxStage where
  inFrame : Bool
  bytes : List Byte
  check : Half
deriving DecidableEq, Repr

/-- The bench line interface. `low` holds while the line was dominant when it last showed, and `quiet` is the quiet count of R91, in 1 µs
ticks (R17): the time since the last dominant bit that has shown, and 0 while the line is low. `unseen` is the model's own, for the idle
step: the time since the low line last showed (log entry 1). `waiting` lists the frames the coordination part had no room for, the
earliest refused first: the own frames waiting of the RSQ (R108) and the claim the SEU keeps (R144). `afterStuck` holds from the end of
a stuck stretch; the 1 ms of recessive line that must follow is over when the quiet count shows it (R97). -/
structure Bli where
  stage : RxStage
  low : Bool
  unseen : Nat
  quiet : Nat
  stuck : Bool
  dominantSince : Word
  afterStuck : Bool
  buffer : List RxFrame
  coord : List CoordFrame
  report : List ReportFrame
  waiting : List CoordFrame
  attempt : Option Attempt
  w : BitVec 6
  lineErrors : Nat
  overruns : Nat
  lost : Nat
  strays : Nat
deriving DecidableEq, Repr

/-! ### Chapters 4 and 9: seal unit, lamps, reject marker -/

/-- The seal outcomes once given (R152). -/
inductive SealOutcome where
  | sealed | exhausted | storeFull | sealFailed | pressFault | aborted
deriving DecidableEq, Repr

/-- The states of the own claim. -/
inductive ClaimState where
  | none | claimWait | claimOpen | recording | stroke | sealDone
deriving DecidableEq, Repr

/-- The own claim; `confirm` is the confirm timer in 1 µs ticks to go. -/
structure Claim where
  state : ClaimState
  serial : Option Nat
  confirmed : Bool
  attempts : Nat
  confirm : Option Nat
  slot : Option Nat
deriving DecidableEq, Repr

/-- A lamp's drive (R65). -/
inductive LampDrive where
  | dark | lit | flash1 | flash2
deriving DecidableEq, Repr

/-- The three lamps and the flash phase of the one that flashes (R66). -/
structure Lamps where
  green : LampDrive
  red : LampDrive
  amber : LampDrive
  flashLit : Bool
  flashTimer : Option Nat
deriving DecidableEq, Repr

/-- The seal unit. `aborted` keeps that RUN ABORT has been taken in this SEALING (R127). -/
structure Seu where
  enable : Bool
  block : Option (Nat × Nat)
  watermark : Nat
  strokeTimeout : Nat
  voids : List (Nat × Nat)
  claim : Claim
  press : Bool
  strokeTimer : Option Nat
  seenInactive : Bool
  outcome : Option SealOutcome
  aborted : Bool
  lamps : Lamps
  reject : Bool
  rejectTimer : Option Nat
deriving DecidableEq, Repr

/-! ### Chapter 10: record store -/

/-- One slot: the 28 content bytes and the two check bytes as one list of 30, the level cell pair and the mark cells (R153,
R154). DESIGN CHOICE (log entry 51): the manual gives the content cells no polarity, and here a cleared or unprogrammed one reads 0 and a
programmed one reads 1. -/
structure Slot where
  cells : List Byte
  level1 : Bool
  level2 : Bool
  pressed : Bool
  pressFault : Bool
  exported : Bool
deriving DecidableEq, Repr

/-- The fields of a record fixed at hand-over (R154). -/
structure RunRecord where
  run : Nat
  address : Nat
  verdict : MeterVerdict
  outcome : Option SealOutcome
  serial : Option Nat
  tally : Tally
deriving DecidableEq, Repr

/-- The three marks (R153). -/
inductive Mark where
  | pressed | pressFault | exported
deriving DecidableEq, Repr

/-- A record write: its record, whether at level SEALED, and the reserved slot when the seal unit handed it (R157). -/
structure WriteJob where
  record : RunRecord
  sealed : Bool
  slot : Option Nat
deriving DecidableEq, Repr

/-- A request in the waiting list (R156); `seu` says that the seal unit asked for the mark. -/
inductive StoreRequest where
  | write (job : WriteJob)
  | mark (slot : Nat) (mark : Mark) (seu : Bool)
deriving DecidableEq, Repr

/-- The operation in flight (R156, R157, R162). -/
inductive StoreOp where
  | erase (slot : Nat) (job : WriteJob)
  | content (slot : Nat) (job : WriteJob) (cells : List Byte)
  | level (slot : Nat) (job : WriteJob)
  | mark (slot : Nat) (mark : Mark) (seu : Bool)
  | wipe (slot : Nat)
deriving DecidableEq, Repr

/-- The record store. `opTimer` counts down the operation's 1 µs ticks; `reserveAsked` keeps that a reservation waits for the
end of the operation in flight (R155). -/
structure Rst where
  slots : List Slot
  damaged : List Bool
  lastRecord : Nat
  op : Option StoreOp
  opTimer : Option Nat
  waiting : List StoreRequest
  reservation : Option Nat
  reserveAsked : Bool
deriving DecidableEq, Repr

/-! ### Chapter 11: start-up, identity, holds; pins -/

/-- The reset causes (R164). -/
inductive ResetCause where
  | powerOn | supplyDip | resetPin | restart | restartClashed
deriving DecidableEq, Repr

/-- The line rates (R87). -/
inductive LineRate where
  | r125 | r250 | r500
deriving DecidableEq, Repr

/-- The hold set (R168). -/
structure Holds where
  a : Bool
  b : Bool
  reporting : Bool
  press : Bool
deriving DecidableEq, Repr

/-- What chapter 11 owns; `inReset` holds from a reset until its end (R164). -/
structure Station where
  inReset : Bool
  cause : ResetCause
  address : Nat
  rate : LineRate
  holds : Holds
deriving DecidableEq, Repr

/-- The levels of the sensor pins that the part acts on by level, as last shown: MPRES shows a meter, STROKE is active. -/
structure Pins where
  mpres : Bool
  stroke : Bool
deriving DecidableEq, Repr

/-- The whole station, with the commands that wait, first in first out. `freeIndex` is the model's own: the number of the next
free value (Config). -/
structure State where
  pfe : Pfe
  time : Timebase
  gates : PerChan GateEngine
  ecu : Ecu
  plt : Plt
  rsq : Rsq
  bli : Bli
  rrp : Rrp
  seu : Seu
  rst : Rst
  sys : Station
  pins : Pins
  freeIndex : Nat
  pending : List Instr
deriving DecidableEq, Repr

/-! ### Reset values, each with the rule that states it -/

def Snapshot.reset : Snapshot := ⟨0, 0⟩

/-- R1, R2, R4. -/
def MeterInput.reset : MeterInput := ⟨.rising, 10, 20, none, false, none, 0⟩

/-- R8; no earlier edge limits the first (R11). -/
def RefInput.reset : RefInput := ⟨0, 1, 0, 4, 1⟩

/-- R12. -/
def Zc.reset : Zc := ⟨none, 0, false, 0, none⟩

def Pfe.reset : Pfe := ⟨⟨MeterInput.reset, MeterInput.reset⟩, RefInput.reset, RefInput.reset, Zc.reset⟩

/-- R16. -/
def Timebase.reset : Timebase := ⟨0, 0, 0⟩

/-- R18; point parameters at 0. -/
def GateParams.reset : GateParams := ⟨0, 0, 0, 0, .rf0⟩

/-- R18. -/
def GateEngine.reset : GateEngine := ⟨.off, .none, 0, Snapshot.reset, 0, 0, false, 0, none, GateParams.reset⟩

/-- R35: the point copy is 0. -/
def PointCopy.reset : PointCopy := ⟨0, 0, .none, ⟨false, false⟩, 0, 0, ⟨0, 0⟩, 0, 0, 0, 0⟩

/-- R35. -/
def Accumulator.reset : Accumulator := ⟨0, 0, none, none, false, false, 0⟩

/-- R53. -/
def Dwell.reset : Dwell := ⟨.off, 0, 0, none, .none, 0, 0⟩

/-- R35, R53. -/
def Ecu.reset : Ecu :=
  ⟨PointCopy.reset, ⟨Accumulator.reset, Accumulator.reset⟩, ⟨none, none⟩, ⟨Dwell.reset, Dwell.reset⟩⟩

/-- R68: an empty descriptor. -/
def Descriptor.reset : Descriptor := ⟨.none, 0, false, false, none, none, none, none⟩

/-- R68. -/
def Plt.reset : Plt := ⟨List.replicate 48 Descriptor.reset, 0, 0, false, 1, 0, none⟩

/-- R60. -/
def Window.reset : Window := ⟨.none, Snapshot.reset, 0, .rf0⟩

/-- R104: ABSENT, last-done none, figure absent, unheard count 0. -/
def RosterEntry.reset : RosterEntry := ⟨.absent, none, none, 0⟩

/-- R63. -/
def Tally.reset : Tally := ⟨0, 0, 0, 0, 0, none, none⟩

/-- R50, R60, R63, R64, R104. -/
def Rsq.reset : Rsq where
  runState := .starting
  run := none
  seq := 0
  desc := 0
  roster := List.replicate 60 RosterEntry.reset
  enrolWindow := none
  allowance := none
  barrier := .stopped
  enrolSent := false
  phase := .none
  settle := 0
  received := ⟨none, none⟩
  window := Window.reset
  figure := none
  tally := Tally.reset
  verdict := none

/-- R94, R99: HUNTING. The running check starts at all ones (R89). -/
def RxStage.reset : RxStage := ⟨false, [], 0xFFFF⟩

/-- R90, R97, R98, R99. -/
def Bli.reset : Bli where
  stage := RxStage.reset
  low := false
  unseen := 0
  quiet := 0
  stuck := false
  dominantSince := 0
  afterStuck := false
  buffer := []
  coord := []
  report := []
  waiting := []
  attempt := none
  w := 0
  lineErrors := 0
  overruns := 0
  lost := 0
  strays := 0

/-- R130, R135, R137, R138: the mask holds ADDRESS_CLASH (3), PLAN_FAULT (4), MAINS_LOST (6), PRESS_FAULT (13), STORE_FULL (14)
and STORE_DAMAGED (15). -/
def Rrp.reset : Rrp where
  queue := []
  tq := 4
  td := 10
  delay := none
  call := false
  drops := 0
  flags := 0
  mask := 0xE058
  statusDue := false
  lastRefusal := none

/-- R139. -/
def Claim.reset : Claim := ⟨.none, none, false, 0, none, none⟩

/-- R65: all dark. -/
def Lamps.reset : Lamps := ⟨.dark, .dark, .dark, false, none⟩

/-- R67, R139. -/
def Seu.reset : Seu where
  enable := false
  block := none
  watermark := 0
  strokeTimeout := 1
  voids := []
  claim := Claim.reset
  press := false
  strokeTimer := none
  seenInactive := false
  outcome := none
  aborted := false
  lamps := Lamps.reset
  reject := false
  rejectTimer := none

/-- An erased slot: no cell programmed (R153), so that every content cell reads 0 (log entry 51). -/
def Slot.erased : Slot := ⟨List.replicate 30 0, false, false, false, false, false⟩

/-- R153: what the store does not keep; the cells and the last record number are those given. -/
def Rst.afterReset (slots : List Slot) (lastRecord : Nat) : Rst where
  slots := slots
  damaged := List.replicate 32 false
  lastRecord := lastRecord
  op := none
  opTimer := none
  waiting := []
  reservation := none
  reserveAsked := false

/-- R164; the address and rate stand at 0 and 125 kbit/s until the straps are read (log entry 4). -/
def Station.afterReset (cause : ResetCause) : Station := ⟨true, cause, 0, .r125, ⟨false, false, false, false⟩⟩

/-- A station in reset: every item at its reset value, over what no reset touches (the cells of the store, the pins, the
waiting commands, and the model's own counter of free values). -/
def State.inReset (cause : ResetCause) (slots : List Slot) (lastRecord : Nat) (pins : Pins) (freeIndex : Nat)
    (pending : List Instr) : State where
  pfe := Pfe.reset
  time := Timebase.reset
  gates := ⟨GateEngine.reset, GateEngine.reset⟩
  ecu := Ecu.reset
  plt := Plt.reset
  rsq := Rsq.reset
  bli := Bli.reset
  rrp := Rrp.reset
  seu := Seu.reset
  rst := Rst.afterReset slots lastRecord
  sys := Station.afterReset cause
  pins := pins
  freeIndex := freeIndex
  pending := pending

/-- The machine right after a power-on reset, before the reset ends (R164): a store that has never held a record, no meter
present, STROKE inactive (log entries 2, 3 and 4). -/
def State.reset : State :=
  State.inReset .powerOn (List.replicate 32 Slot.erased) 0 ⟨false, false⟩ 0 []

end Sys2Proof.Machine
end

