-- ==== Sys2Proof/Machine/Operands.lean ====
section
/-! DEFINITION. The forms frames take (chapter 6, sections 6.6 and 6.7): the codes of R101, the layouts of the controller's
payloads (R102) and of the stations' payloads (R103), and the test of a payload's form (R95, R100). -/

namespace Sys2Proof.Machine

/-! ### Codes (R101) -/

def channels : List Channel := [.a, .b]

def Mask.code (m : Mask) : Nat := (if m.a then 1 else 0) + (if m.b then 2 else 0)

/-- The channel mask a code names; none for a code that names no mask. -/
def Mask.ofCode : Nat → Option Mask
  | 1 => some ⟨true, false⟩
  | 2 => some ⟨false, true⟩
  | 3 => some ⟨true, true⟩
  | _ => none

/-- The number of channels in a mask. -/
def Mask.count (m : Mask) : Nat := (if m.a then 1 else 0) + (if m.b then 1 else 0)

/-- The lowest channel of a mask (R59). -/
def Mask.lowest (m : Mask) : Channel := if m.a then .a else .b

/-- The kind a code names; none for a code that names no kind. -/
def Kind.ofCode : Nat → Option Kind
  | 0 => some .none
  | 1 => some .accuracy
  | 2 => some .creep
  | 3 => some .start
  | _ => Option.none

def ChanOutcome.code : ChanOutcome → Nat
  | .pass => 0
  | .failLow => 1
  | .failHigh => 2
  | .failSpread => 3
  | .failCreep => 4
  | .failStart => 5
  | .invalidTimeout => 8
  | .invalidNoref => 9
  | .invalidMains => 10
  | .invalidHeld => 11
  | .invalidDouble => 12
  | .invalidRefDisagree => 13

def PointVerdict.code : PointVerdict → Nat
  | .pass => 1
  | .fail => 2
  | .invalid => 3

/-- Completion verdicts use 0 to 3. -/
def completionCode : Option PointVerdict → Nat
  | none => 0
  | some v => v.code

def meterVerdictCode : Option MeterVerdict → Nat
  | none => 0
  | some .pass => 1
  | some .fail => 2
  | some .invalid => 3
  | some .incomplete => 4

def Deviation.code : Deviation → Nat
  | .unchecked => 0
  | .agree _ _ => 1
  | .disagree _ _ => 2

def WithdrawReason.code : WithdrawReason → Nat
  | .planFault => 1
  | .planMismatch => 2
  | .outOfStep => 3
  | .meterRemoved => 4

def sealOutcomeCode : Option SealOutcome → Nat
  | none => 0
  | some .sealed => 1
  | some .exhausted => 2
  | some .storeFull => 3
  | some .sealFailed => 4
  | some .pressFault => 5
  | some .aborted => 6

def PlanCause.code : PlanCause → Nat
  | .empty => 1
  | .stale => 2
  | .zeroGate => 3
  | .discard => 4
  | .limits => 5
  | .range => 6

def RefusalCause.code : RefusalCause → Nat
  | .busy => 1
  | .inRun => 2
  | .mismatch => 3
  | .notExported => 4
  | .inProgress => 5

/-- R101 numbers the eleven states in which a STATUS can go out; the other three send none, and stand at 0. -/
def RunState.code : RunState → Nat
  | .idle => 1
  | .enrolling => 2
  | .waitLoad => 3
  | .settling => 4
  | .measuring => 5
  | .barrier => 6
  | .paused => 7
  | .sealing => 8
  | .finished => 9
  | .withdrawn => 10
  | .faulted => 11
  | .starting | .clashed | .strapError => 0

def ResetCause.code : ResetCause → Nat
  | .powerOn => 1
  | .supplyDip => 2
  | .resetPin => 3
  | .restart => 4
  | .restartClashed => 5

/-- The bit of an event in an event set. -/
def Event.bit : Event → Nat
  | .lineError => 0
  | .rxOverrun => 1
  | .lineStuck => 2
  | .addressClash => 3
  | .planFault => 4
  | .planRefused => 5
  | .mainsLost => 6
  | .outOfStep => 7
  | .lapsed => 8
  | .reportDropped => 9
  | .sealConflict => 10
  | .lateVoid => 11
  | .sealFailed => 12
  | .pressFault => 13
  | .storeFull => 14
  | .storeDamaged => 15

def Holds.ofByte (b : Byte) : Holds := ⟨b.getLsbD 0, b.getLsbD 1, b.getLsbD 2, b.getLsbD 3⟩

def Holds.code (h : Holds) : Nat :=
  (if h.a then 1 else 0) + (if h.b then 2 else 0) + (if h.reporting then 4 else 0) + (if h.press then 8 else 0)

/-- The hold of a channel. -/
def Holds.chan (h : Holds) : Channel → Bool
  | .a => h.a
  | .b => h.b

/-- The reference input a descriptor's code names; a code that names neither never passes take-up (R76). -/
def refOfCode (n : Nat) : RefName := if n = 1 then .rf1 else .rf0

/-- Frame kind codes (R100) that the model names. -/
def kindPlanPut : Nat := 1
def kindPlanClear : Nat := 3
def kindRunOpen : Nat := 4
def kindRunClose : Nat := 7
def kindStatusAsk : Nat := 10
def kindRecordAsk : Nat := 11
def kindRecordMark : Nat := 12
def kindStoreWipe : Nat := 13
def kindStoreSumAsk : Nat := 14
def kindRestart : Nat := 15

/-- Kinds the controller alone sends (R95, step 5). -/
def isControllerKind (k : Nat) : Bool := 1 ≤ k && k ≤ 15

/-- Kinds stations alone send (R95, step 5). -/
def isStationKind (k : Nat) : Bool := 32 ≤ k && k ≤ 42

/-- Kinds a position does not act on: HELLO, RESULT, STATUS, RECORD, STORE SUM (R95, step 6). -/
def isUnreadKind (k : Nat) : Bool := k = 32 || (39 ≤ k && k ≤ 42)

/-- The requests that each call for a reply frame (R96). -/
def isRequestKind (k : Nat) : Bool := k = kindStatusAsk || k = kindRecordAsk || k = kindStoreSumAsk

/-! ### PLAN PUT (R70, R102) -/

/-- The payload length a kind and mask call for. -/
def planPutLength (kind : Kind) (channelsIn : Nat) : Nat :=
  match kind with
  | .none => 4
  | .creep | .start => 14 + 2 * channelsIn
  | .accuracy => 27 + 8 * channelsIn

/-- The per-channel field at a channel's place: channel A first, then channel B (R102). -/
def perChannel {α : Type} (m : Mask) (read : Nat → α) : PerChan (Option α) :=
  ⟨if m.a then some (read 0) else none, if m.b then some (read (if m.a then 1 else 0)) else none⟩

/-- The descriptor a payload of the right form writes, with completed no and completion verdict none (R70). -/
def readDescriptor (kind : Kind) (m : Mask) (p : List Byte) : Descriptor :=
  let n := m.count
  let base := 11 + 2 * n
  let common : PointFields :=
    { mask := m, settle := field p 5 1, window := field p 6 1, tolerance := field p 7 2, barrier := field p 9 2
      inputs := perChannel m fun j => ⟨field p (11 + 2 * j) 1, field p (12 + 2 * j) 1⟩ }
  let acc : AccuracyFields :=
    { tg := field p base 2, repeats := field p (base + 2) 1, discard := field p (base + 3) 1
      lower := signedField p (base + 4) 4, upper := signedField p (base + 8) 4, spread := field p (base + 12) 4
      chans := perChannel m fun j => ⟨field p (base + 16 + 6 * j) 2, field p (base + 18 + 6 * j) 4⟩ }
  let dw : DwellFields := ⟨field p base 2, field p (base + 2) 1⟩
  { kind := kind, next := field p 2 1, last := (field p 3 1).testBit 0, completed := false, completion := none
    point := if kind = .none then none else some common
    accuracy := if kind = .accuracy then some acc else none
    dwell := if kind = .creep ∨ kind = .start then some dw else none }

/-- The index and descriptor of a PLAN PUT of the right form; none for one of the wrong form (R70). -/
def readPlanPut (p : List Byte) : Option (Nat × Descriptor) :=
  if p.length < 4 then none else
  match Kind.ofCode (field p 1 1) with
  | none => none
  | some .none => if field p 0 1 < 48 ∧ p.length = 4 then some (field p 0 1, readDescriptor .none ⟨false, false⟩ p) else none
  | some k =>
    match (if p.length < 5 then none else Mask.ofCode (field p 4 1)) with
    | none => none
    | some m =>
      if field p 0 1 < 48 ∧ p.length = planPutLength k m.count then some (field p 0 1, readDescriptor k m p) else none

/-! ### The form of the other frames (R95 step 6, R100) -/

/-- An address set of a LAPSE: not empty, and none of 0 and 61 to 63 (R100). -/
def lapseSetOk (s : BitVec 64) : Bool :=
  s ≠ 0 && !s.getLsbD 0 && !s.getLsbD 61 && !s.getLsbD 62 && !s.getLsbD 63

/-- The addresses of a set, in order (R103). -/
def lapseList (s : BitVec 64) : List Nat := (List.range 64).filter fun k => s.getLsbD k

/-- The set of a list of addresses (R103). -/
def lapseSet (l : List Nat) : Nat := l.foldl (fun acc k => acc ||| 2 ^ k) 0

/-- Does the payload's length fit the kind, and do its codes (R84, R100)? PLAN PUT is judged by the plan table (R70). -/
def formFits (kind : Nat) (p : List Byte) : Bool :=
  match kind with
  | 1 => true
  | 2 => p.length = 3 && field p 2 1 < 48
  | 3 | 10 | 13 | 15 => p.length = 0
  | 4 => p.length = 24
  | 5 | 36 => p.length = 5
  | 6 | 7 | 33 => p.length = 2
  | 8 => p.length = 1
  | 9 => p.length = 4
  | 11 => p.length = 1 && (field p 0 1 < 32 || field p 0 1 = 255)
  | 12 => p.length = 3 && field p 0 1 < 32
  | 14 => p.length = 1 && field p 0 1 ≤ 32
  | 34 =>
    match Mask.ofCode (field p 4 1) with
    | some m => p.length = 10 + 10 * m.count
    | none => false
  | 35 => p.length = 12 && lapseSetOk (BitVec.ofNat 64 (field p 4 8))
  | 37 => p.length = 6
  | 38 => p.length = 11
  | _ => true

/-- The fields of a RUN OPEN payload (R102). -/
def readRunOpen (p : List Byte) : RunOpenFields where
  run := BitVec.ofNat 16 (field p 0 2)
  head := BitVec.ofNat 8 (field p 2 1)
  tail := BitVec.ofNat 8 (field p 3 1)
  flags := BitVec.ofNat 8 (field p 4 1)
  loops := BitVec.ofNat 8 (field p 5 1)
  s0 := BitVec.ofNat 32 (field p 6 4)
  s1 := BitVec.ofNat 32 (field p 10 4)
  window := BitVec.ofNat 8 (field p 14 1)
  maEdge := BitVec.ofNat 8 (field p 15 1)
  maWg := BitVec.ofNat 8 (field p 16 1)
  maWd := BitVec.ofNat 8 (field p 17 1)
  mbEdge := BitVec.ofNat 8 (field p 18 1)
  mbWg := BitVec.ofNat 8 (field p 19 1)
  mbWd := BitVec.ofNat 8 (field p 20 1)
  tq := BitVec.ofNat 8 (field p 21 1)
  td := BitVec.ofNat 8 (field p 22 1)
  stroke := BitVec.ofNat 8 (field p 23 1)

/-- The command that a frame brings to its owner (section 6.6). RUN OPEN goes with the level of MPRES given. -/
def frameCommand (meterPresent : Bool) (f : RxFrame) : Option Instr :=
  let p := f.payload
  let run : Half := BitVec.ofNat 16 (field p 0 2)
  let half (off : Nat) : Half := BitVec.ofNat 16 (field p off 2)
  let byte (off : Nat) : Byte := BitVec.ofNat 8 (field p off 1)
  let word (off : Nat) : Word := BitVec.ofNat 32 (field p off 4)
  match f.kind.toNat with
  | 1 => some (.planPut p)
  | 2 => some (.planTail run (byte 2))
  | 3 => some .planClear
  | 4 => some (.runOpen (readRunOpen p) meterPresent)
  | 5 => some (.loadReady run (half 2) (byte 4))
  | 6 => some (.runAbort run)
  | 7 => some (.runClose run)
  | 8 => some (.holdSet (byte 0))
  | 9 => some (.eventClear (half 0) (half 2))
  | 10 => some .statusAsk
  | 11 => some (.recordAsk (byte 0))
  | 12 => some (.recordMark (byte 0) (half 1))
  | 13 => some .storeWipe
  | 14 => some (.storeSumAsk (byte 0))
  | 15 => some .restart
  | 33 => some (.enrol f.sender run)
  | 34 => some (.done f.sender run (half 2) (byte 4) (if (field p 5 1).testBit 0 then some (word 6) else none))
  | 35 => some (.lapse f.sender run (half 2) (BitVec.ofNat 64 (field p 4 8)))
  | 36 => some (.withdraw f.sender run (half 2) (byte 4))
  | 37 => some (.sealClaim f.sender run (word 2))
  | 38 => some (.sealVoid f.sender run (byte 2) (word 3) (word 7))
  | _ => none

/-! ### Payloads the station sends (R103) -/

/-- A gate entry's 11 bytes. -/
def gateEntryBytes (e : GateEntry) : List Byte :=
  let type := (if e.channel = .b then 2 else 0) + (if e.error.isSome then 4 else 0) + (if e.discarded then 8 else 0)
    + (if e.saturated then 16 else 0) + (if e.double then 32 else 0)
  leBytes 1 type ++ leBytes 2 e.seq ++ leBytes 1 e.gate ++ leSigned 3 (e.error.getD 0) ++ leBytes 1 e.glitches
    ++ leBytes 3 e.duration

/-- One channel of a point entry. -/
def pointChannelBytes : Option OutcomeRecord → List Byte
  | none => []
  | some r => leBytes 1 r.outcome.code ++ leBytes 1 r.kept ++ leSigned 3 (r.mean.getD 0) ++ leBytes 3 (r.spread.getD 0)
      ++ leBytes 2 r.glitchTotal

def Deviation.median : Deviation → Nat
  | .unchecked => 0
  | .agree m _ | .disagree m _ => m

def Deviation.dev : Deviation → Nat
  | .unchecked => 0
  | .agree _ d | .disagree _ d => d

/-- A point entry's 18 bytes and 10 for each channel. -/
def pointEntryBytes (e : PointEntry) : List Byte :=
  let type := 1 + (if e.figure.isSome then 4 else 0) + (if e.deviation = .unchecked then 0 else 8)
  leBytes 1 type ++ leBytes 2 e.seq ++ leBytes 1 e.desc ++ leBytes 1 e.verdict.code ++ leBytes 1 e.mask.code
    ++ leBytes 4 (e.figure.getD 0) ++ leBytes 1 e.deviation.code ++ leBytes 4 e.deviation.median
    ++ leBytes 3 e.deviation.dev ++ pointChannelBytes e.chans.a ++ pointChannelBytes e.chans.b

def Entry.bytes : Entry → List Byte
  | .gate e => gateEntryBytes e
  | .point e => pointEntryBytes e

/-- One channel of a DONE. -/
def doneChannelBytes : Option OutcomeRecord → List Byte
  | none => []
  | some r => leBytes 1 r.outcome.code ++ leBytes 1 r.kept ++ leSigned 4 (r.mean.getD 0) ++ leBytes 4 (r.spread.getD 0)

/-- The kind code and payload of a coordination frame, with the list and serial of this attempt. -/
def coordPayload (f : CoordFrame) (list : List Nat) (serial : Nat) : Nat × List Byte :=
  match f with
  | .enrol run => (33, leBytes 2 run.toNat)
  | .done run s m fig ch =>
    (34, leBytes 2 run.toNat ++ leBytes 2 s ++ leBytes 1 m.code ++ leBytes 1 (if fig.isSome then 1 else 0)
      ++ leBytes 4 (fig.getD 0) ++ doneChannelBytes ch.a ++ doneChannelBytes ch.b)
  | .lapse run s => (35, leBytes 2 run.toNat ++ leBytes 2 s ++ leBytes 8 (lapseSet list))
  | .withdraw run s r => (36, leBytes 2 run.toNat ++ leBytes 2 s ++ leBytes 1 r.code)
  | .claim run => (37, leBytes 2 run.toNat ++ leBytes 4 serial)
  | .void run x v h => (38, leBytes 2 run.toNat ++ leBytes 1 x ++ leBytes 4 v ++ leBytes 4 h)

/-- The kind code and payload of a reporting frame, with the STATUS contents of this attempt. -/
def reportPayload (f : ReportFrame) (status : List Byte) : Nat × List Byte :=
  match f with
  | .hello cause free damaged last =>
    (32, leBytes 1 cause ++ leBytes 1 free ++ leBytes 1 damaged ++ leBytes 2 last)
  | .result drops es => (39, leBytes 1 drops ++ leBytes 1 es.length ++ (es.map Entry.bytes).flatten)
  | .status => (40, status)
  | .record p => (41, p)
  | .storeSum sum damaged => (42, leBytes 2 sum ++ leBytes 1 damaged)

/-- The 28 content bytes of a record under its record number (R154): the RECORD frame from the presence byte up to the first
failing descriptor. -/
def recordContent (r : RunRecord) (number : Nat) : List Byte :=
  let presence := (if r.serial.isSome then 1 else 0) + (if r.tally.worst.isSome then 2 else 0)
    + (if r.tally.firstFail.isSome then 4 else 0)
  let w := r.tally.worst
  leBytes 1 presence ++ leBytes 2 number ++ leBytes 2 r.run ++ leBytes 1 r.address
    ++ leBytes 1 (meterVerdictCode (some r.verdict)) ++ leBytes 1 (sealOutcomeCode r.outcome)
    ++ leBytes 4 (r.serial.getD 0) ++ leBytes 2 r.tally.run ++ leBytes 2 r.tally.passed ++ leBytes 2 r.tally.failed
    ++ leBytes 2 r.tally.invalid ++ leBytes 2 r.tally.disagree
    ++ leBytes 1 ((w.map Worst.desc).getD 0) ++ leBytes 1 (if (w.map Worst.channel) = some .b then 1 else 0)
    ++ leSigned 3 ((w.map Worst.mean).getD 0) ++ leBytes 1 (r.tally.firstFail.getD 0)

/-- A record's cells: its content and the content check over it (R154). -/
def recordCells (r : RunRecord) (number : Nat) : List Byte :=
  let c := recordContent r number
  c ++ leBytes 2 (frameCheck c).toNat

end Sys2Proof.Machine
end

