-- ==== Sys2Proof/Machine/Ops.lean ====
section
/-! DEFINITION. The shared operations over one block each: block updates, timers, the roster, the plan's descriptors, the
transmit queue with its withdrawals and kept frames, and the line's quiet count. -/

namespace Sys2Proof.Machine

/-! ### Block updates -/

def State.mapPfe (s : State) (f : Pfe → Pfe) : State := { s with pfe := f s.pfe }
def State.mapTime (s : State) (f : Timebase → Timebase) : State := { s with time := f s.time }
def State.mapGates (s : State) (f : PerChan GateEngine → PerChan GateEngine) : State := { s with gates := f s.gates }
def State.mapEcu (s : State) (f : Ecu → Ecu) : State := { s with ecu := f s.ecu }
def State.mapPlt (s : State) (f : Plt → Plt) : State := { s with plt := f s.plt }
def State.mapRsq (s : State) (f : Rsq → Rsq) : State := { s with rsq := f s.rsq }
def State.mapBli (s : State) (f : Bli → Bli) : State := { s with bli := f s.bli }
def State.mapRrp (s : State) (f : Rrp → Rrp) : State := { s with rrp := f s.rrp }
def State.mapSeu (s : State) (f : Seu → Seu) : State := { s with seu := f s.seu }
def State.mapRst (s : State) (f : Rst → Rst) : State := { s with rst := f s.rst }
def State.mapSys (s : State) (f : Station → Station) : State := { s with sys := f s.sys }
def State.mapPins (s : State) (f : Pins → Pins) : State := { s with pins := f s.pins }

/-- The run state becomes `r`. -/
def State.enter (s : State) (r : RunState) : State := s.mapRsq fun q => { q with runState := r }

/-! ### Counts and timers -/

/-- A saturating count rises by one (00_scope.md, Arithmetic). -/
def bump (cap n : Nat) : Nat := if n < cap then n + 1 else n

/-- One tick of a running timer (R17). A timer at 0 has come due. -/
def countDown : Option Nat → Option Nat
  | some (n + 1) => some n
  | t => t

/-- Has the timer run its ticks (R17)? -/
def due : Option Nat → Bool
  | some 0 => true
  | _ => false

/-- Durations counted in 1 µs ticks (R17), each with its rule. -/
def silenceTime : Nat := 100000       -- R14
def zcNoiseTime : Nat := 8000         -- R12
def zcLateTime : Nat := 25000         -- R13, R14
def allowanceTime : Nat := 20000      -- R110
def confirmTime : Nat := 50000        -- R145
def rejectTime : Nat := 200000        -- R67
def flash1Time : Nat := 500000        -- R66
def flash2Time : Nat := 250000        -- R66
def stuckTime : Nat := 20000          -- R97
def guardTime : Nat := 1000           -- R97
def eraseTime : Nat := 20000          -- R157, R162
def contentTime : Nat := 8000         -- R157
def levelTime : Nat := 1000           -- R157
def markTime : Nat := 1000            -- R158

/-- A field whose 0 is taken as 1: enrol window (R107), stroke timeout (R139), loop count (R74). -/
def atLeastOne (n : Nat) : Nat := if n = 0 then 1 else n

/-- The time from one stamp to another, modulo 2^32 µs (R16). -/
def elapsed (since now : Word) : Nat := (now - since).toNat

/-! ### Where commands act -/

/-- The part works: it is not held in reset (R164), and its straps were valid (R165). -/
def State.alive (s : State) : Bool := !s.sys.inReset && s.rsq.runState ≠ .strapError

/-- Owners take frames: everywhere but in STARTING and STRAP_ERROR (R99). -/
def State.takesFrames (s : State) : Bool := s.alive && s.rsq.runState ≠ .starting

/-- The states in which the roster takes frames (R109). -/
def RunState.takesRoster : RunState → Bool
  | .enrolling | .waitLoad | .settling | .measuring | .barrier | .paused => true
  | _ => false

/-- The states in which the seal unit takes claims and voids (R141). -/
def RunState.takesSeal : RunState → Bool
  | .idle | .enrolling | .waitLoad | .settling | .measuring | .barrier | .paused | .sealing | .finished | .withdrawn => true
  | _ => false

/-- Is the run number that of the current run (R105)? -/
def State.inRun (s : State) (run : Half) : Bool := s.rsq.run = some run

/-! ### Roster and plan -/

/-- The entry of an address; an address outside 1 to 60 has the entry of a station never heard. -/
def rosterAt (r : List RosterEntry) : Nat → RosterEntry
  | 0 => RosterEntry.reset
  | n + 1 => r.getD n RosterEntry.reset

/-- The roster with one address's entry changed. -/
def rosterSet (r : List RosterEntry) (x : Nat) (e : RosterEntry) : List RosterEntry :=
  match x with
  | 0 => r
  | n + 1 => r.set n e

/-- The own roster entry. -/
def State.ownEntry (s : State) : RosterEntry := rosterAt s.rsq.roster s.sys.address

/-- A change of one roster entry. -/
def State.mapEntry (s : State) (x : Nat) (f : RosterEntry → RosterEntry) : State :=
  s.mapRsq fun q => { q with roster := rosterSet q.roster x (f (rosterAt q.roster x)) }

/-- The descriptor at an index; an index past the table holds none. -/
def State.descriptor (s : State) (d : Nat) : Descriptor := s.plt.plan.getD d Descriptor.reset

/-- The descriptor of the station's point (R79). -/
def State.current (s : State) : Descriptor := s.descriptor s.rsq.desc

/-! ### Bench line: the quiet count and the stray count -/

/-- The bit time in 1 µs ticks (R87). -/
def LineRate.bitTime : LineRate → Nat
  | .r125 => 8
  | .r250 => 4
  | .r500 => 2

/-- The one bits at the top of a byte, which go out last (R87). -/
def highOnes (b : Byte) : Nat := ((List.range 8).takeWhile fun k => b.getLsbD (7 - k)).length

/-- The recessive bit times that end a run of characters: the one bits at the top of the last, and its stop bit (R87). -/
def recessiveTail (bytes : List Byte) : Nat :=
  match bytes.getLast? with
  | some b => highOnes b + 1
  | none => 0

/-- Does the quiet count run: no own frame on the line, no stuck stretch, and no frame that won over an own one in reception (R91)? -/
def Bli.quietRuns (b : Bli) : Bool := b.attempt.isNone && !b.stuck && !b.stage.inFrame

/-- The line over one 1 µs tick: the quiet count of a recessive line (R91), and the time since a low one last showed. -/
def Bli.tick (b : Bli) : Bli :=
  { b with
    quiet := if b.quietRuns && !b.low then b.quiet + 1 else b.quiet
    unseen := if b.quietRuns && b.low then b.unseen + 1 else b.unseen }

/-- Has the line not yet been recessive for 1 ms without a break since a stuck stretch (R97)? -/
def Bli.recovering (b : Bli) : Bool := b.afterStuck && decide (b.quiet < guardTime)

/-- The line goes dominant: the quiet ends, and with it a 1 ms after a stuck stretch that was not over by then (R91, R97). -/
def Bli.goesDominant (b : Bli) (ago : Nat) : Bli :=
  if b.low then b
  else { b with low := true, quiet := 0, afterStuck := b.afterStuck && decide (b.quiet < guardTime + ago) }

/-- The line goes recessive: the quiet count runs from there (R91). -/
def Bli.goesRecessive (b : Bli) (ago : Nat) : Bli := if b.low then { b with low := false, quiet := ago } else b

/-- One change of the line. -/
def Bli.edge (b : Bli) (e : LineEdge) : Bli := if e.dominant then b.goesDominant e.ago else b.goesRecessive e.ago

/-- A command shows the changes of the line, oldest first, and so its level at this moment (R91, R97; log entry 13). -/
def Bli.see (b : Bli) (line : List LineEdge) : Bli :=
  let b1 := line.foldl Bli.edge b
  if b1.low then { b1 with quiet := 0, unseen := 0 } else b1

/-- The changes of the line reach the interface. -/
def State.see (s : State) (line : List LineEdge) : State := s.mapBli fun b => b.see line

/-- The bit times from the first dominant bit of a lead-in to the end of so many characters (R88). -/
def lineTime (chars : Nat) : Nat := 13 + 10 * chars

/-- The stray count rises (R95). -/
def State.stray (s : State) : State := s.mapBli fun b => { b with strays := bump 65535 b.strays }

/-! ### Transmit queue (R98, R108) -/

/-- Kept frames take the freed places, the earliest refused first. -/
def Bli.refill (b : Bli) : Bli :=
  let room := 6 - b.coord.length
  { b with coord := b.coord ++ b.waiting.take room, waiting := b.waiting.drop room }

/-- The run sequencer or the seal unit (for its claim) offers a coordination frame: queued if there is room, kept if there is
none, discarded in CLASHED (R98, R99, R108, R144). -/
def State.offerCoord (s : State) (f : CoordFrame) : State :=
  if s.rsq.runState = .clashed then s
  else s.mapBli fun b =>
    if b.coord.length < 6 ∧ b.waiting = [] then { b with coord := b.coord ++ [f] } else { b with waiting := b.waiting ++ [f] }

/-- Is the coordination part's head on the line? -/
def Bli.coordOnLine (b : Bli) : Bool := b.attempt.any fun a => a.part = .coordination

/-- Is the head of the coordination part on the line, and of the kind asked about? -/
def Bli.sending (b : Bli) (p : CoordFrame → Bool) : Bool := b.coordOnLine && (b.coord.head?.any p)

/-- The attempt's frame has been withdrawn by its owner (R93). -/
def Attempt.withdraw (a : Attempt) : Attempt := { a with withdrawn := true }

/-- An owner withdraws its frames: those queued and waiting go at once, one in an attempt when the attempt ends (R93, R98). -/
def Bli.withdraw (b : Bli) (p : CoordFrame → Bool) : Bli :=
  let line := b.coordOnLine
  let frames := if line then b.coord.take 1 ++ (b.coord.drop 1).filter (fun f => !p f) else b.coord.filter (fun f => !p f)
  let attempt := if line && b.coord.head?.any p then b.attempt.map Attempt.withdraw else b.attempt
  { b with coord := frames, waiting := b.waiting.filter (fun f => !p f), attempt := attempt }.refill

def State.withdrawFrames (s : State) (p : CoordFrame → Bool) : State := s.mapBli fun b => b.withdraw p

/-- Frames of a run, by kind. -/
def isEnrolOf (run : Half) : CoordFrame → Bool
  | .enrol r => r = run
  | _ => false

/-- Any LAPSE of a run (R119, R121, R123). -/
def isLapse (run : Half) : CoordFrame → Bool
  | .lapse r _ => r = run
  | _ => false

def isLapseOf (run : Half) (n : Nat) : CoordFrame → Bool
  | .lapse r m => r = run && m = n
  | _ => false

def isDoneOf (run : Half) : CoordFrame → Bool
  | .done r _ _ _ _ => r = run
  | _ => false

/-- The run sequencer's frames that RUN ABORT removes (R126). -/
def isAbortedOf (run : Half) : CoordFrame → Bool
  | .enrol r | .done r _ _ _ _ | .lapse r _ => r = run
  | _ => false

/-- The seal unit's frames that RUN ABORT removes (R126, R151). -/
def isSealOf (run : Half) : CoordFrame → Bool
  | .claim r | .void r _ _ _ => r = run
  | _ => false

/-- An owner offers a reporting frame to a part with room; in CLASHED it is discarded (R98, R99). -/
def State.offerReport (s : State) (f : ReportFrame) : State :=
  if s.rsq.runState = .clashed then s
  else s.mapBli fun b => if b.report.length < 4 then { b with report := b.report ++ [f] } else b

/-- Does the reporting part have room? -/
def State.reportRoom (s : State) : Bool := s.bli.report.length < 4

/-! ### Receive buffer (R96) -/

/-- Does the buffer hold fewer than 4 frames? -/
def Bli.hasBufferRoom (b : Bli) : Bool := b.buffer.length < 4

/-! ### Record store: reading slots -/

/-- The slot at an index. -/
def State.slot (s : State) (n : Nat) : Slot := s.rst.slots.getD n Slot.erased

/-- The damaged table's entry of a slot (R153). -/
def State.isDamaged (s : State) (n : Nat) : Bool := s.rst.damaged.getD n false

/-- A change of one slot's cells. -/
def State.mapSlot (s : State) (n : Nat) (f : Slot → Slot) : State :=
  s.mapRst fun r => { r with slots := r.slots.set n (f (r.slots.getD n Slot.erased)) }

/-- EMPTY: neither cell of the pair programmed (R153). -/
def Slot.isEmpty (c : Slot) : Bool := !c.level1 && !c.level2

/-- SEALED: both cells programmed (R153). -/
def Slot.isSealed (c : Slot) : Bool := c.level1 && c.level2

/-- The record number in the content (R154). -/
def Slot.number (c : Slot) : Nat := field c.cells 1 2

/-- The content check as stored (R154). -/
def Slot.check (c : Slot) : Nat := field c.cells 28 2

/-- Does the stored check agree with the content (R159)? -/
def Slot.checks (c : Slot) : Bool := (frameCheck (c.cells.take 28)).toNat = c.check

/-- Does the content show a seal serial present (R103)? -/
def Slot.showsSerial (c : Slot) : Bool := (field c.cells 0 1).testBit 0

/-- Is some content cell programmed (R157)? A programmed one reads 1 (log entry 51). -/
def Slot.programmed (c : Slot) : Bool := c.cells.any fun b => b ≠ 0

/-- A slot with one mark cell programmed (R153). -/
def Slot.withMark (c : Slot) : Mark → Slot
  | .pressed => { c with pressed := true }
  | .pressFault => { c with pressFault := true }
  | .exported => { c with exported := true }

def Slot.hasMark (c : Slot) : Mark → Bool
  | .pressed => c.pressed
  | .pressFault => c.pressFault
  | .exported => c.exported

end Sys2Proof.Machine
end

