-- ==== Sys2Proof/Machine/Lamps.lean ====
section
/-! DEFINITION. The lamps (R65, R66). -/

namespace Sys2Proof.Machine

/-- Green, red and amber by the first line of R65's table that applies. -/
def State.lampDrives (s : State) : LampDrive × LampDrive × LampDrive :=
  if s.rsq.runState = .faulted ∨ s.rsq.runState = .clashed ∨ s.rsq.runState = .strapError then (.dark, .dark, .flash2)
  else match s.rsq.verdict with
  | some .pass => (.lit, .dark, .dark)
  | some .fail => (.dark, .lit, .dark)
  | some .invalid | some .incomplete => (.dark, .dark, .lit)
  | none => if s.ownEntry.status = .enrolled then (.flash1, .dark, .dark) else (.dark, .dark, .dark)

/-- The half period of the flash among three drives (R66). -/
def flashHalf (d : LampDrive × LampDrive × LampDrive) : Option Nat :=
  if d.1 = .flash1 ∨ d.2.1 = .flash1 ∨ d.2.2 = .flash1 then some flash1Time
  else if d.1 = .flash2 ∨ d.2.1 = .flash2 ∨ d.2.2 = .flash2 then some flash2Time
  else none

/-- The lamps follow the condition of the station: a flash begins lit, and keeps its phase while the drives stand (R65, R66). -/
def State.relamp (s : State) : State :=
  let d := s.lampDrives
  let l := s.seu.lamps
  if (l.green, l.red, l.amber) = d then s
  else s.mapSeu fun u => { u with
    lamps := { green := d.1, red := d.2.1, amber := d.2.2, flashLit := (flashHalf d).isSome, flashTimer := flashHalf d } }

end Sys2Proof.Machine
end

