-- ==== Sys2Proof/Machine/Arithmetic.lean ====
section
/-! DEFINITION. The error computer's arithmetic (chapter 3): gate errors, accumulators, outcome records, reference deviation. All of it
is exact; rounding happens once, and clamping after it. -/

namespace Sys2Proof.Machine

/-- The quotient rounded to the nearest integer, halves away from zero (00_scope.md, Rounding). -/
def roundNearest (num : Int) (den : Nat) : Int :=
  let q : Nat := (2 * num.natAbs + den) / (2 * den)
  if num < 0 then -(q : Int) else (q : Int)

/-- The rounded gate error of Nm pulses against M raw reference counts, before clamping (R38). -/
def rawGateError (nm k m : Nat) : Int :=
  roundNearest (((nm * k : Nat) : Int) * 1000000 - ((m * 65536 : Nat) : Int) * 1000000) (m * 65536)

/-- The clamped gate error (R39). -/
def clampError (e : Int) : Int := if 999999 < e then 999999 else if e < -999999 then -999999 else e

/-- Is the rounded error outside the range, so that the gate is saturated (R39)? -/
def saturates (e : Int) : Bool := decide (999999 < e) || decide (e < -999999)

/-- The raw reference count of a sample, M = Mp × P (R37). -/
def GateSample.m (x : GateSample) : Nat := x.mp * x.prescaler

/-- The gate error of a sample, absent when M is 0 (R37 to R39). -/
def GateSample.error (x : GateSample) (k : Nat) : Option Int :=
  if x.m = 0 then none else some (clampError (rawGateError x.nm k x.m))

/-- Is the gate saturated (R37, R39)? -/
def GateSample.saturated (x : GateSample) (k : Nat) : Bool := x.m ≠ 0 && saturates (rawGateError x.nm k x.m)

/-- The smaller of an absent or present minimum and an error (R40). -/
def minWith (old : Option Int) (e : Int) : Option Int :=
  match old with
  | none => some e
  | some m => some (if e < m then e else m)

/-- The larger of an absent or present maximum and an error (R40). -/
def maxWith (old : Option Int) (e : Int) : Option Int :=
  match old with
  | none => some e
  | some m => some (if m < e then e else m)

/-- A sample joins the accumulator (R37, R40): its glitches always, its error if the gate is kept and has one. -/
def Accumulator.take (acc : Accumulator) (discard k : Nat) (x : GateSample) : Accumulator :=
  let acc' := { acc with glitchTotal := acc.glitchTotal + x.glitches }
  match x.error k with
  | none => acc'
  | some e =>
    if x.gate ≤ discard then acc'
    else { acc' with
      n := acc.n + 1, sum := acc.sum + e, min := minWith acc.min e, max := maxWith acc.max e,
      saturated := acc.saturated || x.saturated k, doubleSeen := acc.doubleSeen || x.double }

/-- The mean, present when a gate was kept (R42). -/
def Accumulator.mean (acc : Accumulator) : Option Int := if acc.n = 0 then none else some (roundNearest acc.sum acc.n)

/-- The spread, present when a gate was kept (R42). -/
def Accumulator.spread (acc : Accumulator) : Option Nat :=
  match acc.n, acc.min, acc.max with
  | 0, _, _ => none
  | _, some lo, some hi => some (hi - lo).toNat
  | _, _, _ => none

/-- The gate entry of a sample (R41). -/
def GateSample.entry (x : GateSample) (seq discard k : Nat) : GateEntry where
  channel := x.channel
  seq := seq
  gate := x.gate
  error := x.error k
  discarded := decide (x.gate ≤ discard)
  saturated := x.saturated k
  double := x.double
  glitches := x.glitches
  duration := x.duration

/-- The outcome of an ending that outranks what was measured (R43, test 1). -/
def Ending.outcome (e : Ending) : Option ChanOutcome :=
  match e with
  | .none => Option.none
  | .timeout => some .invalidTimeout
  | .noref => some .invalidNoref
  | .mains => some .invalidMains
  | .held => some .invalidHeld

/-- The outcome of a channel on an accuracy point: the first test of R43's table that applies. -/
def accuracyOutcome (c : PointCopy) (acc : Accumulator) (e : Ending) : ChanOutcome :=
  match e.outcome with
  | some o => o
  | none =>
    let mean := acc.mean.getD 0
    if acc.doubleSeen then .invalidDouble
    else if acc.saturated ∧ mean < 0 then .failLow
    else if acc.saturated then .failHigh
    else if mean < c.lower then .failLow
    else if c.upper < mean then .failHigh
    else if c.spreadLimit ≠ 0 ∧ c.spreadLimit < acc.spread.getD 0 then .failSpread
    else .pass

/-- The outcome record of an accuracy channel (R44). -/
def accuracyRecord (c : PointCopy) (acc : Accumulator) (e : Ending) : OutcomeRecord :=
  ⟨accuracyOutcome c acc e, acc.mean, acc.spread, acc.n, acc.glitchTotal⟩

/-- The outcome record of a creep or start channel (R58). -/
def dwellRecord (o : ChanOutcome) : OutcomeRecord := ⟨o, none, none, 0, 0⟩

/-! ### Reference deviation (R46 to R48) -/

/-- A figure takes its place in an ascending list. -/
def insertFigure (x : Nat) : List Nat → List Nat
  | [] => [x]
  | y :: rest => if x ≤ y then x :: y :: rest else y :: insertFigure x rest

/-- Figures in ascending order, duplicates kept (R47). -/
def sortFigures : List Nat → List Nat
  | [] => []
  | x :: rest => insertFigure x (sortFigures rest)

/-- The lower median of a list of figures (R47). -/
def lowerMedian (figs : List Nat) : Nat := (sortFigures figs).getD ((figs.length - 1) / 2) 0

/-- The exact deviation from the median in ppm, rounded down (R47). -/
def deviationOf (own median : Nat) : Nat := (((own : Int) - (median : Int)).natAbs * 1000000) / median

/-- The deviation record from the own figure, the peers' figures and the tolerance (R47, R48). -/
def deviationRecord (own : Option Nat) (peers : List Nat) (tolerance : Nat) : Deviation :=
  match own with
  | none => .unchecked
  | some f =>
    let figs := f :: peers
    let median := lowerMedian figs
    if figs.length < 3 then .unchecked
    else if median = 0 then .unchecked
    else
      let dev := deviationOf f median
      if tolerance < dev then .disagree median (min dev 999999) else .agree median (min dev 999999)

/-! ### Verdicts (R61, R62) -/

/-- Is the outcome in the INVALID class? -/
def ChanOutcome.isInvalid : ChanOutcome → Bool
  | .invalidTimeout | .invalidNoref | .invalidMains | .invalidHeld | .invalidDouble | .invalidRefDisagree => true
  | _ => false

/-- Is the outcome in the FAIL class? -/
def ChanOutcome.isFail : ChanOutcome → Bool
  | .failLow | .failHigh | .failSpread | .failCreep | .failStart => true
  | _ => false

/-- A DISAGREE turns an outcome of the PASS or FAIL class (R61). -/
def OutcomeRecord.disagree (r : OutcomeRecord) : OutcomeRecord :=
  if r.outcome.isInvalid then r else { r with outcome := .invalidRefDisagree }

/-- The records after R61. -/
def afterDeviation (d : Deviation) (recs : PerChan (Option OutcomeRecord)) : PerChan (Option OutcomeRecord) :=
  match d with
  | .disagree _ _ => ⟨recs.a.map OutcomeRecord.disagree, recs.b.map OutcomeRecord.disagree⟩
  | _ => recs

/-- The point verdict over the records of the mask's channels (R62). -/
def pointVerdict (recs : PerChan (Option OutcomeRecord)) : PointVerdict :=
  let any (p : ChanOutcome → Bool) : Bool := recs.a.any (fun r => p r.outcome) || recs.b.any (fun r => p r.outcome)
  if any ChanOutcome.isInvalid then .invalid else if any ChanOutcome.isFail then .fail else .pass

/-- One channel's place in the worst accuracy point (R63). -/
def Tally.worstWith (w : Option Worst) (d : Nat) (ch : Channel) (r : Option OutcomeRecord) : Option Worst :=
  match r with
  | none => w
  | some r =>
    match r.outcome.isInvalid, r.mean with
    | false, some m =>
      match w with
      | none => some ⟨d, ch, m⟩
      | some old => if old.mean.natAbs < m.natAbs then some ⟨d, ch, m⟩ else w
    | _, _ => w

/-- A closed point joins the tally (R63). -/
def Tally.add (t : Tally) (d : Nat) (kind : Kind) (recs : PerChan (Option OutcomeRecord)) (v : PointVerdict)
    (dev : Deviation) : Tally where
  run := bump 65535 t.run
  passed := if v = .pass then bump 65535 t.passed else t.passed
  failed := if v = .fail then bump 65535 t.failed else t.failed
  invalid := if v = .invalid then bump 65535 t.invalid else t.invalid
  disagree := match dev with
    | .disagree _ _ => bump 65535 t.disagree
    | _ => t.disagree
  worst := if kind = .accuracy then Tally.worstWith (Tally.worstWith t.worst d .a recs.a) d .b recs.b else t.worst
  firstFail := if v = .fail ∧ t.firstFail = none then some d else t.firstFail

/-- The meter verdict at run end (R64). -/
def Tally.verdict (t : Tally) : MeterVerdict :=
  if 0 < t.failed then .fail else if 0 < t.invalid then .invalid else .pass

end Sys2Proof.Machine
end

