-- ==== Sys2Proof/Machine/Flags.lean ====
section
/-! DEFINITION. The sixteen event flags, the notify mask, the calling for STATUS and the last refusal (sections 8.3 and 8.4). -/

namespace Sys2Proof.Machine

def isStatus : ReportFrame → Bool
  | .status => true
  | _ => false

def isResult : ReportFrame → Bool
  | .result _ _ => true
  | _ => false

/-- Is a STATUS in the reporting part whose attempt has not begun (R137)? -/
def Bli.statusWaits (b : Bli) : Bool :=
  (if b.attempt.any (fun a => a.part = .reporting) then b.report.drop 1 else b.report).any isStatus

/-- A STATUS is called for (R137). In STARTING it stays due until HELLO is queued (R135, R165); in CLASHED it is discarded
(R99, R135). -/
def State.callStatus (s : State) : State :=
  if s.rsq.runState = .clashed then s
  else if s.rsq.runState = .starting then s.mapRrp fun r => { r with statusDue := true }
  else if s.bli.statusWaits then s
  else if s.reportRoom then s.offerReport .status
  else s.mapRrp fun r => { r with statusDue := true }

/-- The event set that holds one event (R101). -/
def Event.flag (e : Event) : Half := 1#16 <<< e.bit

/-- Is the event in the set? -/
def Event.isIn (e : Event) (set : Half) : Bool := set.getLsbD e.bit

/-- A block raises an event (R135): its flag is set, and a STATUS is called for if it was clear and the mask holds it. -/
def State.raise (s : State) (e : Event) : State :=
  let s' := s.mapRrp fun r => { r with flags := r.flags ||| e.flag }
  if !e.isIn s.rrp.flags && e.isIn s.rrp.mask then s'.callStatus else s'

/-- A block refuses a request (R138). -/
def State.refuse (s : State) (kind : Nat) (cause : RefusalCause) : State :=
  s.mapRrp fun r => { r with lastRefusal := some ⟨kind, cause⟩ }

end Sys2Proof.Machine
end

