-- ==== Sys2Proof/Machine/Report.lean ====
section
/-! DEFINITION. The result queue: how entries join, what a full queue drops, and how RESULT frames are formed (sections 8.1 and
8.2). -/

namespace Sys2Proof.Machine

def Entry.isPoint : Entry → Bool
  | .point _ => true
  | .gate _ => false

/-- The bytes an entry takes in a frame (R103). -/
def Entry.size : Entry → Nat
  | .gate _ => 11
  | .point e => 18 + 10 * e.mask.count

/-- How many entries behind the head a frame takes: while it holds fewer than 4 and the next one fits in 46 bytes (R133). -/
def moreEntries : List Entry → Nat → Nat → Nat
  | [], _, _ => 0
  | e :: rest, held, used =>
    if held < 4 ∧ used + e.size ≤ 46 then 1 + moreEntries rest (held + 1) (used + e.size) else 0

/-- How many entries a frame takes from the head of the queue (R133). -/
def entriesTaken : List Entry → Nat
  | [] => 0
  | e :: rest => 1 + moreEntries rest 1 e.size

/-- Do the three conditions of R132 hold? -/
def State.resultCalled (s : State) : Bool :=
  s.rrp.queue ≠ [] && (decide (s.rrp.tq ≤ s.rrp.queue.length) || s.rrp.queue.any Entry.isPoint || s.rrp.call)
    && !(s.bli.report.any isResult) && s.reportRoom && !s.rrp.statusDue && !s.sys.holds.reporting

/-- The delay timer's start (R134). With Td 0 none starts, and one that a change of Td to 0 finds running keeps its count (R130; log entry
43). -/
def Rrp.startDelay (r : Rrp) : Rrp := if r.td = 0 then r else { r with delay := some r.td }

/-- The queue after a formation (R133, R134): the drop count becomes 0 and the call is spent. -/
def Rrp.afterFormation (r : Rrp) : Rrp :=
  let rest := r.queue.drop (entriesTaken r.queue)
  let r' := { r with queue := rest, drops := 0, call := false }
  if rest = [] then { r' with delay := none } else r'.startDelay

/-- The test for formation: at most one RESULT at each test (R132, R133). -/
def State.testResult (s : State) : State :=
  if s.resultCalled then
    (s.offerReport (.result s.rrp.drops (s.rrp.queue.take (entriesTaken s.rrp.queue)))).mapRrp Rrp.afterFormation
  else s

/-- The entry joins at the tail, the delay timer restarts, and the test follows (R131, R134). -/
def State.joinTail (s : State) (e : Entry) : State :=
  (s.mapRrp fun r => { r with queue := r.queue ++ [e] }.startDelay).testResult

/-- A full queue without the entry a point entry displaces: its oldest gate entry, or else its oldest point entry (R131). -/
def displaced (q : List Entry) : List Entry :=
  if q.any (fun e => !e.isPoint) then q.eraseP (fun e => !e.isPoint) else q.drop 1

/-- An entry handed on by the error computer (R131, R133). -/
def State.handEntry (s : State) (e : Entry) : State :=
  if s.sys.holds.reporting then s
  else if s.rrp.queue.length < 16 then s.joinTail e
  else
    let s' := (s.mapRrp fun r => { r with drops := bump 255 r.drops }).raise .reportDropped
    if e.isPoint then (s'.mapRrp fun r => { r with queue := displaced r.queue }).joinTail e else s'

/-- The reporting hold's reset of the result queue (R133). -/
def State.resetResults (s : State) : State :=
  s.mapRrp fun r => { r with queue := [], delay := none, call := false, drops := 0 }

end Sys2Proof.Machine
end

