-- ==== Sys2Proof/Machine/Gates.lean ====
section
/-! DEFINITION. The measurement path of one channel (chapters 1 to 4): liveness, the end of a point, what gate engines and dwell
counts do with edges, counted mains cycles, losses and holds. -/

namespace Sys2Proof.Machine

/-! ### Access -/

def State.mapEngine (s : State) (ch : Channel) (f : GateEngine → GateEngine) : State :=
  s.mapGates fun g => g.set ch (f (g.get ch))

def State.mapDwell (s : State) (ch : Channel) (f : Dwell → Dwell) : State :=
  s.mapEcu fun e => { e with dwell := e.dwell.set ch (f (e.dwell.get ch)) }

def State.mapMeter (s : State) (ch : Channel) (f : MeterInput → MeterInput) : State :=
  s.mapPfe fun p => { p with meters := p.meters.set ch (f (p.meters.get ch)) }

def State.engine (s : State) (ch : Channel) : GateEngine := s.gates.get ch
def State.dwell (s : State) (ch : Channel) : Dwell := s.ecu.dwell.get ch
def State.meter (s : State) (ch : Channel) : MeterInput := s.pfe.meters.get ch

/-- Does the engine run: ARMED or OPEN? -/
def GateEngine.runs (g : GateEngine) : Bool := g.state = .armed || g.state = .open

/-- A meter input is live while its channel is in use by a point (R2): the engine ARMED or OPEN, or the dwell COUNTING. A hold ends
the channel, so a held channel is in neither. -/
def State.live (s : State) (ch : Channel) : Bool := (s.engine ch).runs || (s.dwell ch).state = .counting

/-- The mask of the station's point. -/
def State.mask (s : State) : Mask := (s.current.point.map PointFields.mask).getD ⟨false, false⟩

/-- The reference input the point's descriptor names for a channel (R3). -/
def State.inputOf (s : State) (ch : Channel) : RefName :=
  refOfCode (((s.current.point.bind fun p => p.inputs.get ch).map ChanInput.input).getD 0)

/-- One reference input. -/
def Pfe.ref (p : Pfe) : RefName → RefInput
  | .rf0 => p.rf0
  | .rf1 => p.rf1

def Pfe.mapRef (p : Pfe) (r : RefName) (f : RefInput → RefInput) : Pfe :=
  match r with
  | .rf0 => { p with rf0 := f p.rf0 }
  | .rf1 => { p with rf1 := f p.rf1 }

/-- A snapshot of a reference counter, with the prescaler in force (R10). -/
def Pfe.snapshot (p : Pfe) (r : RefName) : Snapshot := ⟨(p.ref r).counter, (p.ref r).prescaler⟩

/-- The input becomes live (R2). -/
def MeterInput.goLive (m : MeterInput) : MeterInput :=
  { m with pulse := none, active := false, lastEdge := none, glitches := 0 }

/-- The input stops being live: a pending pulse is abandoned (R2). -/
def MeterInput.abandon (m : MeterInput) : MeterInput := { m with pulse := none }

/-! ### The end of the station's own part of a point (R51, R52) -/

/-- The engines after a point end: everything but the ending at its reset value (R32). -/
def GateEngine.rest (g : GateEngine) : GateEngine := { GateEngine.reset with ending := g.ending }

/-- Both inputs stop being live. -/
def State.dropPulses (s : State) : State :=
  (s.mapMeter .a MeterInput.abandon).mapMeter .b MeterInput.abandon

/-- Does the RSQ hold the record of a channel, or need none of it? -/
def State.hasRecord (s : State) (ch : Channel) : Bool := !s.mask.has ch || (s.rsq.received.get ch).isSome

/-- The window has given its figure or lost it (R51). -/
def WindowState.settled : WindowState → Bool
  | .complete | .absent => true
  | _ => false

/-- The condition of R51. -/
def State.pointOver (s : State) : Bool :=
  s.rsq.phase = .measuring && s.hasRecord .a && s.hasRecord .b && s.rsq.window.state.settled

/-- The records of the channels in the mask. -/
def State.maskRecords (s : State) : PerChan (Option OutcomeRecord) :=
  ⟨if s.mask.a then s.rsq.received.a else none, if s.mask.b then s.rsq.received.b else none⟩

/-- The DONE of the point (R51); a station measures only in a run. -/
def State.doneFrame (s : State) : CoordFrame :=
  .done (s.rsq.run.getD 0) s.rsq.seq s.mask s.rsq.figure s.maskRecords

/-- The point ends (R51). -/
def State.endPoint (s : State) : State :=
  let s1 := (s.mapGates fun g => ⟨g.a.rest, g.b.rest⟩).mapEcu fun e => { e with dwell := ⟨Dwell.reset, Dwell.reset⟩ }
  (s1.dropPulses.offerCoord s.doneFrame).mapRsq fun q => { q with phase := .ended, runState := .barrier }

/-- The test of R51. -/
def State.testPoint (s : State) : State := if s.pointOver then s.endPoint else s

/-- The station leaves its point without ending it (R31, R52, R58). -/
def State.leavePoint (s : State) : State :=
  let s1 := if s.rsq.phase = .settling ∨ s.rsq.phase = .measuring then
      (((s.mapGates fun _ => ⟨GateEngine.reset, GateEngine.reset⟩).mapEcu fun e =>
        { e with dwell := ⟨Dwell.reset, Dwell.reset⟩ }).dropPulses).mapRsq fun q => { q with window := Window.reset }
    else s
  s1.mapRsq fun q => { q with phase := .none }

/-! ### Records and channel ends -/

/-- An outcome record is formed and handed to the RSQ (R44, R58), which tests for the point end. -/
def State.giveRecord (s : State) (ch : Channel) (r : OutcomeRecord) : State :=
  ((s.mapEcu fun e => { e with outcomes := e.outcomes.set ch (some r) }).mapRsq fun q =>
    { q with received := q.received.set ch (some r) }).testPoint

/-- A gate engine enters DONE_CH and hands over its ending (R24, R26, R27, R29, R33, R44). Its other items stand until the point end (log
entry 36). -/
def State.endGates (s : State) (ch : Channel) (e : Ending) : State :=
  let s1 := (s.mapEngine ch fun g => { g with state := .doneCh, ending := e, held := none }).mapMeter ch MeterInput.abandon
  s1.giveRecord ch (accuracyRecord s1.ecu.copy (s1.ecu.acc.get ch) e)

/-- A dwell count enters ENDED with its outcome (R55 to R58). -/
def State.endDwell (s : State) (ch : Channel) (o : ChanOutcome) : State :=
  ((s.mapDwell ch fun d => { d with state := .ended, held := none }).mapMeter ch MeterInput.abandon).giveRecord ch
    (dwellRecord o)

/-- The ECU takes a gate sample: accumulator first, then the gate entry (R36, R40, R41). -/
def State.takeSample (s : State) (x : GateSample) : State :=
  let c := s.ecu.copy
  let k := c.k.get x.channel
  (s.mapEcu fun e => { e with acc := e.acc.set x.channel ((e.acc.get x.channel).take c.discard k x) }).handEntry
    (.gate (x.entry c.seq c.discard k))

/-! ### Gate engines (R20 to R29) -/

/-- The sample formed at the edge that closes the gate (R22, R25). -/
def GateEngine.sample (g : GateEngine) (ch : Channel) (p : Pulse) (glitches : Nat) : GateSample where
  channel := ch
  gate := g.gate
  nm := g.params.nm
  mp := (p.snap.count - g.latch.count).toNat
  prescaler := p.snap.prescaler
  duration := elapsed g.start p.stamp / 1000
  glitches := glitches
  double := g.double

/-- A gate opens at an edge (R20, R23). -/
def GateEngine.openGate (g : GateEngine) (n : Nat) (p : Pulse) : GateEngine :=
  { g with state := .open, gate := n, latch := p.snap, start := p.stamp, edges := 0, double := false, timeout := 0 }

/-- The gate opens and the input's glitch count is cleared (R4, R20, R23). -/
def State.openGate (s : State) (ch : Channel) (n : Nat) (p : Pulse) : State :=
  (s.mapEngine ch fun g => g.openGate n p).mapMeter ch fun m => { m with glitches := 0 }

/-- The edge that brings the edge count to Nm closes the gate: sample, then the next gate or the ending (R22 to R24, R26). -/
def State.closeGate (s : State) (ch : Channel) (p : Pulse) : State :=
  let g := s.engine ch
  let x := g.sample ch p (s.meter ch).glitches
  let s1 := (s.mapEngine ch fun g => { g with edges := g.edges + 1 }).takeSample x
  if x.mp = 0 then s1.endGates ch .noref
  else if g.gate < g.params.repeats + g.params.discard then s1.openGate ch (g.gate + 1) p
  else s1.endGates ch .none

/-- An accepted edge reaches a gate engine (R20 to R26). -/
def State.gateEdge (s : State) (ch : Channel) (p : Pulse) (double : Bool) : State :=
  let g := s.engine ch
  match g.state with
  | .armed => s.openGate ch 1 p
  | .open =>
    if double then s.mapEngine ch fun g => { g with double := true }
    else if g.edges + 1 = g.params.nm then s.closeGate ch p
    else s.mapEngine ch fun g => { g with edges := g.edges + 1 }
  | .off | .doneCh => s

/-- The engine takes a counted mains cycle (R27). -/
def State.gateCycle (s : State) (ch : Channel) : State :=
  let g := s.engine ch
  if g.runs then
    let s1 := s.mapEngine ch fun g => { g with timeout := g.timeout + 1 }
    if g.timeout + 1 = g.params.tg then s1.endGates ch .timeout else s1
  else s

/-! ### Dwell counts (R55 to R57) -/

/-- An accepted edge reaches a dwell count. -/
def State.dwellEdge (s : State) (ch : Channel) (double : Bool) : State :=
  let d := s.dwell ch
  if d.state ≠ .counting then s
  else if double then s.endDwell ch .invalidDouble
  else
    let s1 := s.mapDwell ch fun d => { d with edges := d.edges + 1 }
    if d.kind = .creep then (if d.number < d.edges + 1 then s1.endDwell ch .failCreep else s1)
    else if d.edges + 1 = d.number then s1.endDwell ch .pass else s1

/-- The dwell count takes a counted mains cycle (R57). -/
def State.dwellCycle (s : State) (ch : Channel) : State :=
  let d := s.dwell ch
  if d.state ≠ .counting then s
  else
    let s1 := s.mapDwell ch fun d => { d with cycles := d.cycles + 1 }
    if d.cycles + 1 = d.length then s1.endDwell ch (if d.kind = .creep then .pass else .failStart) else s1

/-! ### Edges and cycles in the order of their stamps (R28, R57) -/

/-- An accepted edge goes to the consumer of its channel (R6). -/
def State.deliverEdge (s : State) (ch : Channel) (p : Pulse) (double : Bool) : State :=
  if (s.engine ch).runs then s.gateEdge ch p double else s.dwellEdge ch double

/-- A held cycle is taken once its pulse has been judged (R28, R57). -/
def State.takeHeld (s : State) (ch : Channel) : State :=
  if (s.engine ch).held.isSome then (s.mapEngine ch fun g => { g with held := none }).gateCycle ch
  else if (s.dwell ch).held.isSome then (s.mapDwell ch fun d => { d with held := none }).dwellCycle ch
  else s

/-- The stamp of the cycle held for a channel. -/
def State.heldStamp (s : State) (ch : Channel) : Option Word :=
  match (s.engine ch).held with
  | some t => some t
  | none => (s.dwell ch).held

/-- Does the stamp `a` come before `b`, within half a wrap of the time counter? -/
def stampBefore (a b : Word) : Bool := a ≠ b && decide (elapsed a b < 2 ^ 31)

/-- The pulse is accepted (R3, R5): marked DOUBLE by its distance from the last accepted edge, handed on, and any held cycle
dealt with in the order of the stamps (R28). -/
def State.acceptPulse (s : State) (ch : Channel) (p : Pulse) : State :=
  let m := s.meter ch
  let double := m.lastEdge.any fun t => decide (elapsed t p.stamp < m.wd * 100)
  let s1 := s.mapMeter ch fun m => { m with pulse := none, active := true, lastEdge := some p.stamp }
  if (s.heldStamp ch).any (fun t => stampBefore t p.stamp) then (s1.takeHeld ch).deliverEdge ch p double
  else (s1.deliverEdge ch p double).takeHeld ch

/-- A counted mains cycle reaches the consumer of a channel (R27, R28, R57): held while a pulse is pending. -/
def State.channelCycle (s : State) (ch : Channel) (stamp : Word) : State :=
  if (s.meter ch).pulse.isSome then
    if (s.engine ch).runs then s.mapEngine ch fun g => { g with held := some stamp }
    else if (s.dwell ch).state = .counting then s.mapDwell ch fun d => { d with held := some stamp }
    else s
  else if (s.engine ch).runs then s.gateCycle ch
  else s.dwellCycle ch

/-- The working state of an engine is dropped, the held cycle with it (R28). -/
def GateEngine.dropWork (g : GateEngine) : GateEngine :=
  { g with gate := 0, latch := Snapshot.reset, start := 0, edges := 0, double := false, timeout := 0, held := none }

/-- Mains loss reaches a channel (R28, R29, R58). An engine's working state is dropped whether or not a cycle is held (log entry 36). -/
def State.channelLoss (s : State) (ch : Channel) : State :=
  if (s.engine ch).runs then (s.mapEngine ch GateEngine.dropWork).endGates ch .mains
  else if (s.dwell ch).state = .counting then s.endDwell ch .invalidMains
  else s

/-- A dwell count in its reset state, but for the ENDED that a hold leads to or leaves (R58, R168). -/
def Dwell.holdReset (d : Dwell) : Dwell := { Dwell.reset with state := if d.state = .off then .off else .ended }

/-- A hold of a channel (R7, R30, R58, R168): a running engine or dwell ends with INVALID_HELD, and the working items of the input, the
engine and the dwell count go to their reset values; what had ended stays ended (log entry 37). -/
def State.holdChannel (s : State) (ch : Channel) : State :=
  let g := s.engine ch
  let s1 := (s.mapMeter ch MeterInput.goLive).mapDwell ch Dwell.holdReset
  if g.runs then (s1.mapEngine ch fun _ => GateEngine.reset).endGates ch .held
  else if g.state = .doneCh then s1.mapEngine ch fun g => { GateEngine.reset with state := .doneCh, ending := g.ending }
  else if (s.dwell ch).state = .counting then s1.endDwell ch .invalidHeld
  else s1

end Sys2Proof.Machine
end

