-- ==== Sys2Proof/Machine/Point.lean ====
section
/-! DEFINITION. The phases of a point (sections 4.1 to 4.3): prescalers, settling, entry to MEASURING, the reference figure window,
and what counted mains cycles and mains loss do to each. -/

namespace Sys2Proof.Machine

/-! ### Entry to MEASURING (R19, R35, R50, R54, R60) -/

/-- The point copy the ECU takes (R35). DESIGN CHOICE (log entry 45): fields the kind does not have, and K of a channel outside the mask,
stand at 0. -/
def State.pointCopy (s : State) : PointCopy :=
  let d := s.current
  let acc := d.accuracy
  let kOf (c : Option GateChan) : Nat := (c.map GateChan.k).getD 0
  { seq := s.rsq.seq, desc := s.rsq.desc, kind := d.kind, mask := s.mask
    discard := (acc.map AccuracyFields.discard).getD 0, repeats := (acc.map AccuracyFields.repeats).getD 0
    k := (acc.map fun a => (⟨kOf a.chans.a, kOf a.chans.b⟩ : PerChan Nat)).getD ⟨0, 0⟩
    lower := (acc.map AccuracyFields.lower).getD 0, upper := (acc.map AccuracyFields.upper).getD 0
    spreadLimit := (acc.map AccuracyFields.spread).getD 0, tolerance := (d.point.map PointFields.tolerance).getD 0 }

/-- The point parameters a gate engine copies (R19). -/
def State.gateParams (s : State) (ch : Channel) : GateParams :=
  match s.current.accuracy with
  | none => GateParams.reset
  | some a => ⟨((a.chans.get ch).map GateChan.nm).getD 0, a.repeats, a.discard, a.tg, s.inputOf ch⟩

/-- An engine's path at entry to MEASURING (R19). -/
def State.armGates (s : State) (ch : Channel) : State :=
  let fresh : GateEngine := { GateEngine.reset with params := s.gateParams ch }
  if s.sys.holds.chan ch then (s.mapEngine ch fun _ => fresh).endGates ch .held
  else if !s.pfe.zc.present then (s.mapEngine ch fun _ => fresh).endGates ch .mains
  else (s.mapEngine ch fun _ => { fresh with state := .armed }).mapMeter ch MeterInput.goLive

/-- A dwell count's path at entry to MEASURING (R54). -/
def State.armDwell (s : State) (ch : Channel) : State :=
  let f := s.current.dwell
  let fresh : Dwell := { Dwell.reset with
    kind := s.current.kind, length := (f.map DwellFields.length).getD 0, number := (f.map DwellFields.number).getD 0 }
  if s.sys.holds.chan ch then (s.mapDwell ch fun _ => fresh).endDwell ch .invalidHeld
  else if !s.pfe.zc.present then (s.mapDwell ch fun _ => fresh).endDwell ch .invalidMains
  else (s.mapDwell ch fun _ => { fresh with state := .counting }).mapMeter ch MeterInput.goLive

/-- A channel's path at entry to MEASURING: none outside the mask. -/
def State.armChannel (s : State) (ch : Channel) : State :=
  if !s.mask.has ch then s
  else match s.current.kind with
  | .accuracy => s.armGates ch
  | .creep | .start => s.armDwell ch
  | .none => s

/-- The window as set up at entry to MEASURING (R59, R60). -/
def State.freshWindow (s : State) : Window :=
  let w := (s.current.point.map PointFields.window).getD 0
  { Window.reset with state := if w = 0 ∨ !s.pfe.zc.present then .absent else .waiting, input := s.inputOf s.mask.lowest }

/-- The point enters MEASURING, in one event (R50). -/
def State.enterMeasuring (s : State) : State :=
  let s1 := s.mapEcu fun e =>
    { e with copy := s.pointCopy, acc := ⟨Accumulator.reset, Accumulator.reset⟩, outcomes := ⟨none, none⟩ }
  let s2 := s1.mapRsq fun q =>
    { q with runState := .measuring, phase := .measuring, window := s.freshWindow, figure := none }
  ((s2.armChannel .a).armChannel .b).testPoint

/-! ### Entry to SETTLING (R9, R50) -/

/-- A reference input takes a prescaler; the divider is cleared only when it differs (R9). -/
def RefInput.take (r : RefInput) (p : Nat) : RefInput :=
  if r.prescaler = p then r else { r with prescaler := p, divider := 0 }

/-- The prescaler the descriptor names for a reference input: channel A's goes before channel B's (R9). -/
def PointFields.prescalerOf (f : PointFields) (r : RefName) : Option Nat :=
  let named (c : Option ChanInput) : Option Nat :=
    match c with
    | some c => if refOfCode c.input = r then some c.prescaler else none
    | none => none
  match named f.inputs.a with
  | some p => some p
  | none => named f.inputs.b

/-- The PFE takes the prescalers of the point (R9). -/
def State.takePrescalers (s : State) : State :=
  match s.current.point with
  | none => s
  | some f =>
    let set (p : Pfe) (r : RefName) : Pfe :=
      match f.prescalerOf r with
      | some n => p.mapRef r fun x => x.take n
      | none => p
    s.mapPfe fun p => set (set p .rf0) .rf1

/-- The descriptor's settle S. -/
def State.settleTime (s : State) : Nat := (s.current.point.map PointFields.settle).getD 0

/-- The point enters SETTLING, and MEASURING on the same event when S is 0 or mains is absent (R50). -/
def State.enterSettling (s : State) : State :=
  let s1 := (s.mapRsq fun q =>
    { q with runState := .settling, phase := .settling, settle := 0, received := ⟨none, none⟩ }).takePrescalers
  if s1.settleTime = 0 ∨ !s1.pfe.zc.present then s1.enterMeasuring else s1

/-! ### Counted mains cycles and mains loss at the RSQ -/

/-- The figure of a window that closes at a snapshot (R60). -/
def Window.figure (w : Window) (snap : Snapshot) : Nat := (snap.count - w.start.count).toNat * snap.prescaler

/-- A counted mains cycle reaches the figure window (R60). -/
def State.windowCycle (s : State) (pfe : Pfe) : State :=
  let w := s.rsq.window
  let snap := pfe.snapshot w.input
  match w.state with
  | .waiting => s.mapRsq fun q => { q with window := { w with state := .running, start := snap, cycles := 0 } }
  | .running =>
    if w.cycles + 1 = (s.current.point.map PointFields.window).getD 0 then
      (s.mapRsq fun q => { q with
        window := { w with state := .complete, cycles := w.cycles + 1 }, figure := some (w.figure snap) }).testPoint
    else s.mapRsq fun q => { q with window := { w with cycles := w.cycles + 1 } }
  | .none | .complete | .absent => s

/-- A counted mains cycle reaches the RSQ (R50, R60), with the snapshots of the reference counters. -/
def State.rsqCycle (s : State) (pfe : Pfe) : State :=
  match s.rsq.phase with
  | .settling =>
    let s1 := s.mapRsq fun q => { q with settle := q.settle + 1 }
    if s.rsq.settle + 1 = s.settleTime then s1.enterMeasuring else s1
  | .measuring => s.windowCycle pfe
  | .none | .ended => s

/-- Mains loss reaches the RSQ (R50, R60). -/
def State.rsqLoss (s : State) : State :=
  match s.rsq.phase with
  | .settling => s.enterMeasuring
  | .measuring =>
    if s.rsq.window.state = .waiting ∨ s.rsq.window.state = .running then
      (s.mapRsq fun q => { q with window := { q.window with state := .absent }, figure := none }).testPoint
    else s
  | .none | .ended => s

/-- Mains is lost: mains-present falls, the event is raised, and every consumer learns of it (R14). The consumers that count in
MEASURING take it before the RSQ can lead a settling point into MEASURING. -/
def State.loseMains (s : State) : State :=
  let s1 := (s.mapPfe fun p => { p with zc := { p.zc with present := false } }).raise .mainsLost
  ((s1.channelLoss .a).channelLoss .b).rsqLoss

/-- A counted mains cycle is handed to every consumer (R15). -/
def State.countCycle (s : State) (stamp : Word) : State :=
  ((s.channelCycle .a stamp).channelCycle .b stamp).rsqCycle s.pfe

end Sys2Proof.Machine
end

