-- ==== Sys2Proof/Machine/PulseCommands.lean ====
section
/-! DEFINITION. The commands of the pulse front end: meter edges (R2 to R6), reference edges (R8, R11), mains edges and silence
(R12 to R15). -/

namespace Sys2Proof.Machine

/-- A command ends: the lamps follow what it changed (R65), and the next state is answered. -/
def State.finish (s : State) : Host.Outcome State Fault Refusal := .next s.relamp

/-! ### Meter inputs -/

/-- The pulse that an active edge begins: its stamp and snapshot (R3). -/
def State.newPulse (s : State) (ch : Channel) : Pulse := ⟨s.time.counter, s.pfe.snapshot (s.inputOf ch)⟩

/-- May an active edge begin a pulse: the input live, no pulse pending, and back at its earlier level (R2, R3)? -/
def State.takesEdge (s : State) (ch : Channel) : Bool :=
  s.alive && s.live ch && (s.meter ch).pulse.isNone && !(s.meter ch).active

/-- METER_ACTIVE_EDGE (R3). -/
def execMeterActiveEdge (ch : Channel) (s : State) : Host.Outcome State Fault Refusal :=
  (if s.takesEdge ch then s.mapMeter ch fun m => { m with pulse := some (s.newPulse ch) } else s).finish

/-- Has the input a pending pulse to judge? -/
def State.judges (s : State) (ch : Channel) : Bool := s.alive && s.live ch && (s.meter ch).pulse.isSome

/-- GLITCH (R3, R4, R28). The command itself says that the input returned before Wg µs (log entry 9). -/
def execGlitch (ch : Channel) (s : State) : Host.Outcome State Fault Refusal :=
  (if s.judges ch then
    (s.mapMeter ch fun m => { m with pulse := none, glitches := bump 255 m.glitches }).takeHeld ch
  else s).finish

/-- PULSE_ACCEPTED (R3, R5, R6, R20 to R26, R28, R55 to R57). The command itself says that Wg µs have passed (log entry 9). -/
def execPulseAccepted (ch : Channel) (s : State) : Host.Outcome State Fault Refusal :=
  (match (s.meter ch).pulse with
   | some p => if s.judges ch then s.acceptPulse ch p else s
   | none => s).finish

/-- METER_INPUT_RETURN (R3): after an accepted pulse, the next active edge may begin another. DESIGN CHOICE (log entry 9): while a pulse is
pending it changes nothing, since the return of such a pulse is its GLITCH, or follows its PULSE_ACCEPTED. -/
def execMeterInputReturn (ch : Channel) (s : State) : Host.Outcome State Fault Refusal :=
  (if s.alive && s.live ch && (s.meter ch).pulse.isNone then s.mapMeter ch fun m => { m with active := false } else s).finish

/-! ### Reference inputs -/

/-- A raw rising edge at a reference input (R8, R11). -/
def RefInput.rawEdge (r : RefInput) : RefInput :=
  if r.sinceRaw < 1 then r
  else if r.prescaler ≤ r.divider + 1 then
    if r.sinceAdvance < 4 then { r with divider := 0, sinceRaw := 0 }
    else { r with divider := 0, sinceRaw := 0, counter := r.counter + 1, sinceAdvance := 0 }
  else { r with divider := r.divider + 1, sinceRaw := 0 }

/-- REFERENCE_EDGE (R8, R11). -/
def execReferenceEdge (input : RefName) (s : State) : Host.Outcome State Fault Refusal :=
  (if s.alive then s.mapPfe fun p => p.mapRef input RefInput.rawEdge else s).finish

/-! ### Mains timing -/

/-- An accepted edge: it is the last accepted edge and restarts the silence timer (R12). -/
def Zc.accept (z : Zc) (now : Word) : Zc := { z with lastEdge := some now, silence := some silenceTime }

/-- A good edge while mains-present is clear; the fourth sets it (R13). -/
def Zc.good (z : Zc) : Zc := if z.goodRun + 1 = 4 then { z with goodRun := 0, present := true } else { z with goodRun := z.goodRun + 1 }

def State.mapZc (s : State) (f : Zc → Zc) : State := s.mapPfe fun p => { p with zc := f p.zc }

/-- A rising edge at ZC, the time since the last accepted edge being given, none when there is none (R12 to R15). -/
def State.zcEdge (s : State) (since : Option Nat) : State :=
  let now := s.time.counter
  let s1 := s.mapZc fun z => z.accept now
  let fresh := s1.mapZc fun z => { z with goodRun := 1 }
  match since with
  | none => fresh
  | some e =>
    if e < zcNoiseTime then s
    else if s.pfe.zc.present then
      if zcLateTime < e then fresh.loseMains
      else (s1.mapZc fun z => { z with cycles := z.cycles + 1 }).countCycle now
    else if zcLateTime < e then fresh
    else s1.mapZc Zc.good

/-- ZC_EDGE (R12 to R15). -/
def execZcEdge (s : State) : Host.Outcome State Fault Refusal :=
  (if s.alive then s.zcEdge (s.pfe.zc.lastEdge.map fun t => elapsed t s.time.counter) else s).finish

/-- SILENCE_TIMER_EXPIRY (R14): the timer stops, and mains is lost if it was present. -/
def execSilenceTimerExpiry (s : State) : Host.Outcome State Fault Refusal :=
  (if s.pfe.zc.silence.isSome then
    let s1 := s.mapZc fun z => { z with silence := none }
    if s.pfe.zc.present then s1.loseMains else s1
  else s).finish

end Sys2Proof.Machine
end

