-- ==== Sys2Proof/Machine/Plan.lean ====
section
/-! DEFINITION. What the plan table decides (chapter 5): the judgement of a descriptor at take-up, the next step of the chain, and
the walk that finds whether a tail is reachable. -/

namespace Sys2Proof.Machine

/-- Does the test hold of a channel's field, for each channel that has it? -/
def PerChan.anyOf {α : Type} (p : PerChan (Option α)) (test : α → Bool) : Bool := p.a.any test || p.b.any test

/-- A present channel input outside its range (R76). -/
def ChanInput.bad (c : ChanInput) : Bool :=
  !(c.input = 0 || c.input = 1) || !(c.prescaler = 1 || c.prescaler = 2 || c.prescaler = 4 || c.prescaler = 8)

/-- Is an error limit outside ±999,999 (R76)? -/
def limitBad (x : Int) : Bool := decide (x < -999999) || decide (999999 < x)

/-- Is an accuracy field outside its range (R76)? -/
def AccuracyFields.bad (a : AccuracyFields) : Bool :=
  a.tg = 0 || a.chans.anyOf (fun c => c.k = 0) || decide (16 < a.repeats) || decide (3 < a.discard)
    || limitBad a.lower || limitBad a.upper || decide (999999 < a.spread)

/-- Is a dwell field outside its range (R76)? -/
def DwellFields.bad (f : DwellFields) (kind : Kind) : Bool :=
  f.length = 0 || (kind = .creep && decide (15 < f.number)) || (kind = .start && (f.number = 0 || decide (15 < f.number)))

/-- Does a present field lie outside its range (R76, test 6)? -/
def Descriptor.outOfRange (d : Descriptor) : Bool :=
  decide (48 ≤ d.next)
    || d.point.any (fun p => p.inputs.anyOf ChanInput.bad || p.tolerance = 0 || p.barrier = 0)
    || d.accuracy.any AccuracyFields.bad || d.dwell.any (fun f => f.bad d.kind)

/-- The judgement at take-up: the cause of the first test that applies, none when the descriptor is taken up (R76). -/
def Descriptor.judge (d : Descriptor) (cyclic : Bool) : Option PlanCause :=
  if d.kind = .none then some .empty
  else if !cyclic ∧ d.completed then some .stale
  else if d.accuracy.any (fun a => a.chans.anyOf fun c => c.nm = 0) then some .zeroGate
  else if d.accuracy.any (fun a => decide (a.repeats ≤ a.discard)) then some .discard
  else if d.accuracy.any (fun a => decide (a.upper < a.lower)) then some .limits
  else if d.outOfRange then some .range
  else none

/-- The next step of the chain (R81). -/
inductive NextStep where
  | runEnd
  | paused
  | takeUp (desc : Nat)
deriving DecidableEq, Repr

/-- The loop counter after a barrier close on descriptor `d` (R82). -/
def Plt.loopAfter (p : Plt) (d : Descriptor) : Nat := if p.cyclic ∧ d.last then p.loop + 1 else p.loop

/-- The first line of R81's table that applies, at the close of sequence number `seq` on descriptor index `i`. -/
def Plt.nextStep (p : Plt) (seq i : Nat) (d : Descriptor) : NextStep :=
  if seq = 65535 then .runEnd
  else if d.last ∧ !p.cyclic then .runEnd
  else if d.last ∧ p.loopAfter d = p.loops then .runEnd
  else if d.last then .takeUp p.head
  else if i = p.tail then .paused
  else .takeUp d.next

/-- The walk of R85 from an index, over at most `fuel` descriptors: does it visit the target? -/
def walkVisits (plan : List Descriptor) (target : Nat) : Nat → Nat → Bool
  | 0, _ => false
  | fuel + 1, i =>
    if 48 ≤ i then false
    else if i = target then true
    else
      let d := plan.getD i Descriptor.reset
      if d.last then false else walkVisits plan target fuel d.next

/-- Is the tail reachable from the paused descriptor (R85)? -/
def State.reachable (s : State) (target : Nat) : Bool := walkVisits s.plt.plan target 48 s.current.next

/-- The completion write-back of a non-cyclic run (R80). -/
def State.writeBack (s : State) (v : PointVerdict) : State :=
  if s.plt.cyclic then s
  else s.mapPlt fun p => { p with
    plan := p.plan.set s.rsq.desc { p.plan.getD s.rsq.desc Descriptor.reset with completed := true, completion := some v } }

end Sys2Proof.Machine
end

