-- ==== Sys2Proof/Machine/Store.lean ====
section
/-! DEFINITION. The record store's choices and operations (chapter 10): free slots, record numbers, the waiting list, and how an
operation begins. What the seal unit does on a completed mark or a lost write stands here too, because the store reports both
while it works its waiting list. -/

namespace Sys2Proof.Machine

/-! ### Free slots (R155) -/

/-- The record write in flight: the slot it works on, and its job. -/
def Rst.write (r : Rst) : Option (Nat × WriteJob) :=
  match r.op with
  | some (.erase n j) | some (.content n j _) | some (.level n j) => some (n, j)
  | _ => none

/-- Is the slot held for a record of the seal unit until that is written: reserved, or named by a seal unit's write that waits or is in
flight? A slot so held by an earlier run stays held beside a new reservation (log entry 44). -/
def Rst.holdsSlot (r : Rst) (n : Nat) : Bool :=
  r.reservation = some n || r.write.any (fun w => w.2.slot = some n) || r.waiting.any fun
    | .write job => job.slot = some n
    | .mark _ _ _ => false

/-- Free to any other write: EMPTY or carrying EXPORTED, and not reserved. -/
def State.slotFree (s : State) (n : Nat) : Bool :=
  ((s.slot n).isEmpty || (s.slot n).exported) && !s.rst.holdsSlot n

/-- Is a record write in flight on the slot? -/
def Rst.writing (r : Rst) (n : Nat) : Bool := r.write.any fun w => w.1 = n

/-- How far a record number lies behind the last record number, counting back through the wrap from 1 to 65,535. -/
def behind (last n : Nat) : Nat := (last + 65535 - n) % 65535

/-- The oldest record among slots; the first listed on a tie. -/
def State.oldest (s : State) (slots : List Nat) : Option Nat :=
  let age (n : Nat) : Nat := behind s.rst.lastRecord (s.slot n).number
  slots.foldl (fun best n => match best with
    | none => some n
    | some m => if age m < age n then some n else some m) none

/-- The slot a write or a reservation chooses: EMPTY first, then DAMAGED with EXPORTED, each by lowest index, then the oldest
exported record. A slot that a write in flight has erased already is not chosen (log entry 8). -/
def State.chooseSlot (s : State) : Option Nat :=
  let free := (List.range 32).filter fun n => s.slotFree n && !s.rst.writing n
  match free.find? (fun n => (s.slot n).isEmpty) with
  | some n => some n
  | none =>
    match free.find? (fun n => s.isDamaged n) with
    | some n => some n
    | none => s.oldest free

/-- The free slot count of STATUS and HELLO. -/
def State.freeCount (s : State) : Nat := ((List.range 32).filter fun n => s.slotFree n).length

/-- The damaged slots among the first `n`. -/
def State.damagedCount (s : State) (n : Nat) : Nat := ((List.range n).filter fun k => s.isDamaged k).length

/-! ### Record numbers (R154) -/

/-- The number after a record number, 65,535 being followed by 1. -/
def numberAfter (n : Nat) : Nat := if n < 65535 then n + 1 else 1

/-- Is the number held by a slot that is neither EMPTY nor DAMAGED? -/
def State.numberHeld (s : State) (q : Nat) : Bool :=
  (List.range 32).any fun n => !(s.slot n).isEmpty && !s.isDamaged n && (s.slot n).number = q

/-- The first number not held, from `q` on; 32 slots hold at most 32 numbers. -/
def State.skipHeld (s : State) : Nat → Nat → Nat
  | 0, q => q
  | fuel + 1, q => if s.numberHeld q then s.skipHeld fuel (numberAfter q) else q

/-- The number of the next record. -/
def State.nextNumber (s : State) : Nat := s.skipHeld 32 (numberAfter s.rst.lastRecord)

/-! ### What the store reports to the seal unit -/

/-- The seal unit gives its seal outcome: the claim enters SEAL_DONE, and a station in SEALING enters FINISHED (R143, R148 to
R150); in CLASHED the station stays there (R167). -/
def State.giveSeal (s : State) (o : SealOutcome) : State :=
  let s' := s.mapSeu fun u => { u with claim := { u.claim with state := .sealDone, confirm := none }, outcome := some o }
  if s.rsq.runState = .sealing then s'.enter .finished else s'

/-- The mark the seal unit asked for has been programmed (R148 to R150, R158). -/
def State.markReported (s : State) (m : Mark) : State :=
  if s.seu.claim.state = .recording ∨ s.seu.claim.state = .stroke then
    s.giveSeal (if m = .pressed then .sealed else .pressFault)
  else s

/-- A record write found 8 requests waiting (R156): STORE_FULL is raised, and the seal unit learns of the loss of its own. -/
def State.writeLost (s : State) (job : WriteJob) : State :=
  let s' := s.raise .storeFull
  match job.slot with
  | none => s'
  | some n =>
    let s'' := s'.mapRst fun r => { r with reservation := if r.reservation = some n then none else r.reservation }
    if s''.seu.claim.state = .recording then s''.giveSeal .storeFull else s''

/-! ### Operations begin (R156, R157, R158) -/

def State.beginOp (s : State) (op : StoreOp) (time : Nat) : State :=
  s.mapRst fun r => { r with op := some op, opTimer := some time }

/-- The content step begins: record number and content check are formed, and the last record number takes the new number. -/
def State.beginContent (s : State) (n : Nat) (job : WriteJob) : State :=
  let q := s.nextNumber
  (s.mapRst fun r => { r with lastRecord := q }).beginOp (.content n job (recordCells job.record q)) contentTime

/-- A record write begins on a slot: with its erase, when the slot is not EMPTY or has a programmed content cell (R157). DEDUCED (log entry
46): a mark programmed in a slot that is EMPTY calls for no erase. -/
def State.beginWrite (s : State) (n : Nat) (job : WriteJob) : State :=
  if (s.slot n).isEmpty && !(s.slot n).programmed then s.beginContent n job else s.beginOp (.erase n job) eraseTime

/-- A request begins. The second item says whether an operation is now in flight: a write that finds no free slot, and a mark
already programmed, take no time. -/
def State.beginRequest (s : State) : StoreRequest → State × Bool
  | .write job =>
    match job.slot with
    | some n => (s.beginWrite n job, true)
    | none =>
      match s.chooseSlot with
      | some n => (s.beginWrite n job, true)
      | none => (s.raise .storeFull, false)
  | .mark n m seu =>
    if (s.slot n).hasMark m then (if seu then s.markReported m else s, false)
    else (s.beginOp (.mark n m seu) markTime, true)

/-- The waiting requests begin in order until one is in flight. -/
def State.startList (s : State) : List StoreRequest → State
  | [] => s.mapRst fun r => { r with waiting := [] }
  | q :: rest =>
    let r := (s.mapRst fun r => { r with waiting := rest }).beginRequest q
    if r.2 then r.1 else r.1.startList rest

/-- When no operation is in flight, the head request begins at once (R156). -/
def State.startNext (s : State) : State :=
  if s.rst.op.isSome then s else s.startList s.rst.waiting

/-- A request joins the waiting list, or finds 8 waiting and is lost (R156). DEDUCED (log entry 50): a mark that is programmed already waits its
turn as any other while an operation is in flight. -/
def State.askStore (s : State) (q : StoreRequest) : State :=
  if 8 ≤ s.rst.waiting.length then
    match q with
    | .write job => s.writeLost job
    | .mark _ m seu => if seu then s.markReported m else s
  else (s.mapRst fun r => { r with waiting := r.waiting ++ [q] }).startNext

/-- An operation is in flight or a request is waiting (R156). -/
def State.storeBusy (s : State) : Bool := s.rst.op.isSome || !s.rst.waiting.isEmpty

/-! ### Effects on cells -/

/-- What an erase leaves: no cell programmed, the slot's damaged entry cleared (R157). -/
def State.eraseSlot (s : State) (n : Nat) : State :=
  (s.mapSlot n fun _ => Slot.erased).mapRst fun r => { r with damaged := r.damaged.set n false }

/-- The start-up scan's classification of a slot as DAMAGED (R159). -/
def Slot.scanDamaged (c : Slot) : Bool :=
  if c.isEmpty then false
  else if !c.level1 then true
  else if !c.checks then true
  else c.showsSerial != c.level2

/-- A reset leaves some of the content cells of a slot cleared or unprogrammed: each cell keeps its value where the free bit is
set (log entry 5), and reads 0 where it is not (log entry 51). -/
def keepCells (cells : List Byte) (bits : BitVec 240) : List Byte :=
  (List.range cells.length).map fun j => (cells.getD j 0) &&& bits.extractLsb' (8 * j) 8

/-- An erase cut short (the table after R159): content partly cleared under the old level and marks, which the scan finds
DAMAGED, or every cell cleared. -/
def Slot.cutErase (c : Slot) (bits : BitVec 240) (phase : BitVec 2) : Slot :=
  if phase.getLsbD 0 then Slot.erased
  else
    let part := { c with cells := keepCells c.cells bits }
    if part.checks then { c with cells := List.replicate 30 0 } else part

/-- What a reset leaves of the slots when it cuts an operation short (the table after R159). -/
def cutSlots (slots : List Slot) (op : Option StoreOp) (bits : BitVec 240) (phase : BitVec 2) : List Slot :=
  let change (n : Nat) (f : Slot → Slot) : List Slot := slots.set n (f (slots.getD n Slot.erased))
  match op with
  | none => slots
  | some (.erase n _) => change n fun c => c.cutErase bits phase
  | some (.content n _ cells) => change n fun c => { c with cells := keepCells cells bits }
  | some (.level n job) => change n fun c =>
      { c with level1 := c.level1 || phase.getLsbD 0, level2 := c.level2 || (job.sealed && phase.getLsbD 0 && phase.getLsbD 1) }
  | some (.mark n m _) => change n fun c => if phase.getLsbD 0 then c.withMark m else c
  | some (.wipe n) => change n fun c => c.cutErase bits phase

end Sys2Proof.Machine
end

