-- ==== Sys2Proof/Machine/Seal.lean ====
section
/-! DEFINITION. The seal unit's own way to a seal (sections 9.3 to 9.5): reservation, claim, record, stroke, and how each ends. -/

namespace Sys2Proof.Machine

/-- The record of the run as it stands (R154). -/
def State.runRecord (s : State) (o : Option SealOutcome) (serial : Option Nat) : RunRecord where
  run := ((s.rsq.run.map BitVec.toNat).getD 0)
  address := s.sys.address
  verdict := s.rsq.verdict.getD .incomplete
  outcome := o
  serial := serial
  tally := s.rsq.tally

/-- The run sequencer hands the record of the run to the store (R157): level FILED, seal outcome none. -/
def State.handRecord (s : State) : State := s.askStore (.write ⟨s.runRecord none none, false, none⟩)

/-- A sealing ends with EXHAUSTED, SEAL_FAILED or ABORTED (R147): the FILED record goes to the reserved slot. -/
def State.endSealing (s : State) (o : SealOutcome) : State :=
  let s' := (s.mapSeu fun u => { u with claim := { u.claim with serial := none, confirmed := false } }).giveSeal o
  match s.seu.claim.slot with
  | some n => s'.askStore (.write ⟨s'.runRecord (some o) none, false, some n⟩)
  | none => s'

/-- The seal unit offers a SEAL CLAIM of the current run (R143, R144, R146). -/
def State.offerClaim (s : State) : State :=
  match s.rsq.run with
  | some run => s.offerCoord (.claim run)
  | none => s

/-- Is no serial left above the watermark (R143, R144)? S1 is 0 while there is no block. -/
def Seu.usedUp (u : Seu) : Bool := ((u.block.map Prod.snd).getD 0) < u.watermark + 1

/-- The reservation is made, or finds no free slot, and the claim follows (R143, R155). It takes the place of one that an earlier run's FILED
write still holds (log entry 44). -/
def State.reserve (s : State) : State :=
  match s.chooseSlot with
  | none => (s.raise .storeFull).giveSeal .storeFull
  | some n =>
    let s' := (s.mapRst fun r => { r with reservation := some n }).mapSeu fun u =>
      { u with claim := { u.claim with slot := some n } }
    if s'.seu.usedUp then s'.endSealing .exhausted
    else (s'.mapSeu fun u => { u with claim := { u.claim with state := .claimWait, attempts := 1 } }).offerClaim

/-- Entry to SEALING (R143): the reservation is made at once, or at the end of the operation in flight. -/
def State.enterSealing (s : State) : State :=
  let s' := s.enter .sealing
  if s'.rst.op.isSome then s'.mapRst fun r => { r with reserveAsked := true } else s'.reserve

/-- An operation has ended: a waiting reservation first, then the next waiting request (R155, R156). -/
def State.endOp (s : State) : State :=
  let s' := s.mapRst fun r => { r with op := none, opTimer := none, reserveAsked := false }
  (if s.rst.reserveAsked then s'.reserve else s').startNext

/-- The slot the seal unit's record went to. -/
def State.sealSlot (s : State) : Nat := s.seu.claim.slot.getD 0

/-- The press stroke ends with a fault: PRESS is released, the mark asked for and the event raised (R149, R150). -/
def State.strokeFault (s : State) : State :=
  ((s.mapSeu fun u => { u with press := false, strokeTimer := none }).raise .pressFault).askStore
    (.mark s.sealSlot .pressFault true)

/-- The store reports the sealed write complete (R148, R149). -/
def State.writeComplete (s : State) : State :=
  if s.seu.claim.state ≠ .recording then s
  else if s.sys.holds.press then (s.raise .pressFault).askStore (.mark s.sealSlot .pressFault true)
  else s.mapSeu fun u => { u with
    claim := { u.claim with state := .stroke }, press := true, strokeTimer := some u.strokeTimeout,
    seenInactive := !s.pins.stroke }

/-- RUN ABORT at the seal unit (R126, R151): its queued frames of the run go, and the own claim ends as its state says. -/
def State.abortSeal (s : State) (run : Half) : State :=
  let s' := s.withdrawFrames (isSealOf run)
  match s.seu.claim.state with
  | .none =>
    if s.rst.reserveAsked then (s'.mapRst fun r => { r with reserveAsked := false }).giveSeal .aborted else s'
  | .claimWait | .claimOpen => s'.endSealing .aborted
  | .recording | .stroke | .sealDone => s'

/-- A pair joins the void-heard list, the oldest leaving a list of 8 (R141, R142). -/
def joinVoid (l : List (Nat × Nat)) (p : Nat × Nat) : List (Nat × Nat) :=
  (if 8 ≤ l.length then l.drop 1 else l) ++ [p]

end Sys2Proof.Machine
end

