-- ==== Sys2Proof/Machine/Run.lean ====
section
/-! DEFINITION. The course of a run (chapter 7): leaving it, take-up, barrier close, run end, LAPSE, RUN ABORT and the close of the
enrol window. -/

namespace Sys2Proof.Machine

/-- The current run number, for frames that carry it. -/
def State.runNumber (s : State) : Half := s.rsq.run.getD 0

/-- The timers of the run sequencer stop (R123, R126). -/
def State.stopRunTimers (s : State) : State :=
  s.mapRsq fun q => { q with enrolWindow := none, allowance := none, barrier := .stopped }

/-- The own roster entry takes a status. -/
def State.markOwn (s : State) (st : PeerStatus) : State := s.mapEntry s.sys.address fun e => { e with status := st }

/-- The meter verdict INCOMPLETE is taken, and the record of the run goes to the store (R64, R157). -/
def State.takeIncomplete (s : State) : State := (s.mapRsq fun q => { q with verdict := some .incomplete }).handRecord

/-- The station withdraws from the run (R123). -/
def State.withdrawRun (s : State) (r : WithdrawReason) : State :=
  let s1 := ((s.offerCoord (.withdraw s.runNumber s.rsq.seq r)).markOwn .withdrawn).leavePoint.stopRunTimers
  let s2 := (s1.withdrawFrames (isLapse s.runNumber)).takeIncomplete
  let s3 := if r = .outOfStep then s2.raise .outOfStep else s2
  s3.enter (if r = .planFault then .faulted else .withdrawn)

/-! ### Take-up (R75 to R77, R79) -/

/-- A take-up fault (R77). -/
def State.planFault (s : State) (c : PlanCause) : State :=
  let v := if c = .stale then s.current.completion else none
  ((s.raise .planFault).mapPlt fun p => { p with fault := some ⟨c, s.rsq.desc, s.rsq.seq, v⟩ }).withdrawRun .planFault

/-- The descriptor the station stands at is judged (R76). -/
def State.judgeTakeUp (s : State) : State :=
  match s.current.judge s.plt.cyclic with
  | none => s
  | some c => s.planFault c

/-- Entry to WAIT_LOAD for a sequence number, with take-up of a descriptor (R75). No point is in progress there, and the phase is none
(log entry 23). -/
def State.enterWaitLoad (s : State) (n d : Nat) : State :=
  (s.mapRsq fun q => { q with runState := .waitLoad, phase := .none, seq := n, desc := d }).judgeTakeUp

/-! ### Run end (R125) -/

/-- The reject marker's pulse (R67). -/
def State.pulseReject (s : State) : State := s.mapSeu fun u => { u with reject := true, rejectTimer := some rejectTime }

/-- The run ends at a barrier close. -/
def State.endRun (s : State) : State :=
  let v := s.rsq.tally.verdict
  let s1 := s.mapRsq fun q => { q with verdict := some v, phase := .none }
  if v = .pass then (if s.seu.enable then s1.enterSealing else s1.handRecord.enter .finished)
  else s1.handRecord.pulseReject.enter .finished

/-! ### The barrier (R116, R117) -/

/-- An entry is taken to have reported the point. -/
def RosterEntry.reached (e : RosterEntry) (n : Nat) : Bool := e.lastDone.any fun m => decide (n ≤ m)

/-- The condition of R116. -/
def State.barrierMet (s : State) : Bool := s.rsq.roster.all fun e => e.status ≠ .enrolled || e.reached s.rsq.seq

/-- The figures of the peers for a point (R46). -/
def State.peerFigures (s : State) (n : Nat) : List Nat :=
  (List.range 61).filterMap fun x =>
    let e := rosterAt s.rsq.roster x
    if x ≠ s.sys.address ∧ e.status = .enrolled ∧ e.lastDone = some n then e.figure else none

/-- The deviation record at the close (R46 to R48). -/
def State.deviation (s : State) : Deviation :=
  deviationRecord s.rsq.figure (s.peerFigures s.rsq.seq) s.ecu.copy.tolerance

/-- The point entry (R49). -/
def State.pointEntry (s : State) (recs : PerChan (Option OutcomeRecord)) (v : PointVerdict) (dev : Deviation) : PointEntry where
  seq := s.rsq.seq
  desc := s.rsq.desc
  verdict := v
  mask := s.mask
  figure := s.rsq.figure
  deviation := dev
  chans := recs

/-- The station follows the next step of the chain (R81, R117 step 5). The phase of the closed point becomes none (log entry 23), and a
late-ENROL allowance runs on in PAUSED (log entry 42). -/
def State.followStep (s : State) : NextStep → State
  | .runEnd => s.endRun
  | .paused => s.mapRsq fun q => { q with runState := .paused, phase := .none }
  | .takeUp d => s.enterWaitLoad (s.rsq.seq + 1) d

/-- The barrier closes (R117), its five steps in order. -/
def State.closeBarrier (s : State) : State :=
  let dev := s.deviation
  let recs := afterDeviation dev s.maskRecords
  let v := pointVerdict recs
  let d := s.current
  let s1 := (s.mapRsq fun q => { q with barrier := .stopped, received := recs }).withdrawFrames
    (isLapseOf s.runNumber s.rsq.seq)
  let s2 := (s1.writeBack v).handEntry (.point (s.pointEntry recs v dev))
  let s3 := s2.mapRsq fun q => { q with tally := q.tally.add s.rsq.desc d.kind recs v dev }
  let step := s.plt.nextStep s.rsq.seq s.rsq.desc d
  (s3.mapPlt fun p => { p with loop := p.loopAfter d }).followStep step

/-- The test of R116, in BARRIER. -/
def State.testBarrier (s : State) : State := if s.rsq.runState = .barrier ∧ s.barrierMet then s.closeBarrier else s

/-! ### LAPSE (R120, R121) -/

/-- Is a LAPSE for this point applied? -/
def State.lapseApplies (s : State) (n : Nat) : Bool :=
  match s.rsq.runState with
  | .settling | .measuring => n = s.rsq.seq || n + 1 = s.rsq.seq
  | .barrier | .paused => n = s.rsq.seq
  | .waitLoad => n + 1 = s.rsq.seq
  | _ => false

/-- What a LAPSE does to one entry: the listed become LAPSED, and a peer that is not listed is taken as done. -/
def RosterEntry.lapse (e : RosterEntry) (named own : Bool) (n : Nat) : RosterEntry :=
  if named then (if e.status = .enrolled ∨ e.status = .absent then { e with status := .lapsed } else e)
  else if e.status = .enrolled ∧ !own ∧ !e.reached n then { e with lastDone := some n, figure := none } else e

/-- The roster after a LAPSE. -/
def State.lapseRoster (s : State) (n : Nat) (named : Nat → Bool) : State :=
  s.mapRsq fun q => { q with
    roster := q.roster.mapIdx fun i e => e.lapse (named (i + 1)) (decide (i + 1 = s.sys.address)) n }

/-- The station is lapsed (R121). -/
def State.lapsedOut (s : State) : State :=
  let s1 := ((s.raise .lapsed).markOwn .lapsed).leavePoint.mapRsq fun q => { q with barrier := .stopped }
  (((s1.withdrawFrames (isLapse s.runNumber)).withdrawFrames (isDoneOf s.runNumber)).takeIncomplete).enter .withdrawn

/-- A LAPSE for a point is applied, heard or sent (R120, R121). -/
def State.applyLapse (s : State) (n : Nat) (named : Nat → Bool) : State :=
  if s.lapseApplies n then
    let s1 := (s.lapseRoster n named).withdrawFrames (isLapseOf s.runNumber n)
    if named s.sys.address then s1.lapsedOut
    else if s.rsq.seq = n then s1.testBarrier else s1
  else s

/-! ### RUN ABORT (R126, R127) -/

/-- The point states and those around them, in which a station is in a run. -/
def RunState.inPoints : RunState → Bool
  | .waitLoad | .settling | .measuring | .barrier | .paused => true
  | _ => false

/-- The station is enrolled and has formed no verdict (R126, R167). -/
def State.unsettled (s : State) : Bool := s.rsq.runState.inPoints || (s.rsq.runState = .enrolling && s.rsq.enrolSent)

/-- RUN ABORT, and what acts as RUN ABORT; once taken in SEALING, another changes nothing further there (R127; log entry 41). A flash that
the abort ends begins anew (R66). -/
def State.abortRun (s : State) : State :=
  let s1 := (s.leavePoint.stopRunTimers.withdrawFrames (isAbortedOf s.runNumber)).abortSeal s.runNumber
  if s.unsettled then (s1.takeIncomplete.enter .finished).relamp
  else if s.rsq.runState = .enrolling then ((s1.markOwn .absent).enter .idle).relamp
  else if s.rsq.runState = .sealing then (if s.seu.aborted then s else s1.mapSeu fun u => { u with aborted := true })
  else s

/-! ### The enrol window (R111) -/

/-- The own ENROL of the run has gone unsent: the station is not enrolled. -/
def State.dropEnrol (s : State) : State := (s.markOwn .absent).enter .idle

/-- The own ENROL is in an attempt. -/
def State.enrolOnLine (s : State) : Bool := s.bli.sending (isEnrolOf s.runNumber)

/-- The enrol window closes and the allowance starts (R110, R111). -/
def State.closeWindow (s : State) : State :=
  let s1 := s.mapRsq fun q => { q with enrolWindow := none, allowance := some allowanceTime }
  if s.rsq.runState ≠ .enrolling then s1
  else if s.rsq.enrolSent then s1.enterWaitLoad 0 s.plt.head
  else
    let s2 := s1.withdrawFrames (isEnrolOf s.runNumber)
    if s.enrolOnLine then s2 else s2.dropEnrol

end Sys2Proof.Machine
end

