-- ==== Sys2Proof/Machine/PlanCommands.lean ====
section
/-! DEFINITION. The plan frames (sections 5.2 and 5.5). -/

namespace Sys2Proof.Machine

/-- An owner takes a frame of the bench controller: at its entry to the buffer, whatever waits there, a request of its own among them (R96,
R99; log entry 48). One of the wrong form is stray (R95). -/
def State.taken (s : State) (form : Bool) (act : State → State) : State :=
  if !s.takesFrames then s else if form then act s else s.stray

/-- The run states in which the descriptor of the station's point is protected (R71). -/
def RunState.protects : RunState → Bool
  | .settling | .measuring | .barrier => true
  | _ => false

/-- The descriptor at an index is written (R70). -/
def State.writeDescriptor (s : State) (i : Nat) (d : Descriptor) : State :=
  s.mapPlt fun p => { p with plan := p.plan.set i d }

/-- PLAN PUT of the right form (R71, R72). -/
def State.putDescriptor (s : State) (i : Nat) (d : Descriptor) : State :=
  if s.rsq.runState.protects ∧ i = s.rsq.desc then (s.raise .planRefused).refuse kindPlanPut .inProgress
  else
    let s1 := s.writeDescriptor i d
    if s.rsq.runState = .waitLoad ∧ i = s.rsq.desc then s1.judgeTakeUp else s1

/-- The plan table takes a PLAN PUT (R70). -/
def State.takePlanPut (s : State) (payload : List Byte) : State :=
  match readPlanPut payload with
  | some (i, d) => s.putDescriptor i d
  | none => s.stray

/-- PLAN_PUT (R70 to R72). -/
def execPlanPut (payload : List Byte) (s : State) : Host.Outcome State Fault Refusal :=
  (s.taken true fun s => s.takePlanPut payload).finish

/-- The states in which PLAN TAIL is taken (R84). -/
def RunState.takesTail : RunState → Bool
  | .enrolling | .waitLoad | .settling | .measuring | .barrier | .paused => true
  | _ => false

/-- PLAN TAIL of the current run in a state that takes it; in PAUSED a reachable tail releases the station (R84, R85). -/
def State.setTail (s : State) (tail : Nat) : State :=
  let s1 := s.mapPlt fun p => { p with tail := tail }
  if s.rsq.runState = .paused ∧ s.reachable tail then s1.enterWaitLoad (s.rsq.seq + 1) s.current.next else s1

/-- The plan table takes a PLAN TAIL. -/
def State.takePlanTail (s : State) (run : Half) (tail : Byte) : State :=
  if s.inRun run ∧ s.rsq.runState.takesTail then s.setTail tail.toNat else s

/-- PLAN_TAIL (R84, R85). -/
def execPlanTail (run : Half) (tail : Byte) (s : State) : Host.Outcome State Fault Refusal :=
  (s.taken (tail.toNat < 48) fun s => s.takePlanTail run tail).finish

/-- The states in which PLAN CLEAR is refused (R73). -/
def RunState.refusesClear : RunState → Bool
  | .enrolling | .waitLoad | .settling | .measuring | .barrier | .paused | .sealing => true
  | _ => false

/-- The plan table takes a PLAN CLEAR. -/
def State.takePlanClear (s : State) : State :=
  if s.rsq.runState.refusesClear then (s.raise .planRefused).refuse kindPlanClear .inRun
  else
    let s1 := s.mapPlt fun p => { p with plan := List.replicate 48 Descriptor.reset, fault := none }
    if s.rsq.runState = .faulted then s1.enter .idle else s1

/-- PLAN_CLEAR (R73). -/
def execPlanClear (s : State) : Host.Outcome State Fault Refusal := (s.taken true fun s => s.takePlanClear).finish

end Sys2Proof.Machine
end

