-- ==== Sys2Proof/Machine/Requests.lean ====
section
/-! DEFINITION. The requests of the bench controller that call for a reply frame (R96, R137, R160, R163), the judgement of the
other store requests (R161, R162), and what follows when a frame leaves the reporting part. -/

namespace Sys2Proof.Machine

/-! ### RECORD ASK (R160) -/

/-- The level bits of a RECORD frame's state byte; a slot with only the second cell programmed has free ones (log entry 7). -/
def Slot.levelCode (c : Slot) : Nat :=
  if c.isSealed then 2 else if c.level1 then 1 else if c.level2 then Config.secondCellLevel.toNat else 0

/-- The state byte of a RECORD frame (R103). -/
def State.slotStateCode (s : State) (n : Nat) : Nat :=
  let c := s.slot n
  c.levelCode + (if s.isDamaged n then 4 else 0) + (if c.pressed then 8 else 0) + (if c.pressFault then 16 else 0)
    + (if c.exported then 32 else 0)

/-- The RECORD payload for a slot: the short form when it is EMPTY, the full form with its cells as they stand otherwise. -/
def State.recordPayload (s : State) (n : Nat) : List Byte :=
  if (s.slot n).isEmpty then leBytes 1 n ++ leBytes 1 0
  else leBytes 1 n ++ leBytes 1 (s.slotStateCode n) ++ (s.slot n).cells

/-- The oldest record without EXPORTED among the slots that are neither EMPTY nor DAMAGED. -/
def State.oldestUnexported (s : State) : Option Nat :=
  s.oldest ((List.range 32).filter fun n => !(s.slot n).isEmpty && !s.isDamaged n && !(s.slot n).exported)

/-- The RECORD payload for a selector. -/
def State.recordReply (s : State) (selector : Nat) : List Byte :=
  if selector = 255 then
    match s.oldestUnexported with
    | some n => s.recordPayload n
    | none => leBytes 1 255 ++ leBytes 1 0
  else s.recordPayload selector

/-- RECORD ASK taken (R156, R160). -/
def State.answerRecord (s : State) (selector : Nat) : State :=
  if s.storeBusy then s.refuse kindRecordAsk .busy else s.offerReport (.record (s.recordReply selector))

/-! ### STORE SUM ASK (R163) -/

/-- The slots summed: the first n, all 32 when n is 0. -/
def sumCount (n : Nat) : Nat := if n = 0 then 32 else n

/-- The sum of the content checks of the slots that are not EMPTY, modulo 65,536. -/
def State.storeSum (s : State) (n : Nat) : Nat :=
  ((((List.range (sumCount n)).filter fun k => !(s.slot k).isEmpty).map fun k => (s.slot k).check).sum) % 65536

/-- STORE SUM ASK taken (R156, R163). -/
def State.answerSum (s : State) (n : Nat) : State :=
  if s.storeBusy then s.refuse kindStoreSumAsk .busy
  else s.offerReport (.storeSum (s.storeSum n) (s.damagedCount (sumCount n)))

/-! ### RECORD MARK (R161) and STORE WIPE (R162) -/

/-- Does RECORD MARK name what the slot holds? -/
def State.markMatches (s : State) (n q : Nat) : Bool :=
  if (s.slot n).isEmpty then false
  else if s.isDamaged n then q = 0
  else q ≠ 0 && (s.slot n).number = q

/-- RECORD MARK taken or refused. -/
def State.markRecord (s : State) (n q : Nat) : State :=
  if s.storeBusy then s.refuse kindRecordMark .busy
  else if s.markMatches n q then s.askStore (.mark n .exported false)
  else s.refuse kindRecordMark .mismatch

/-- The run states that refuse a wipe. -/
def RunState.refusesWipe : RunState → Bool
  | .waitLoad | .settling | .measuring | .barrier | .paused | .sealing => true
  | _ => false

/-- Is some slot SEALED without EXPORTED? -/
def State.holdsSealed (s : State) : Bool := s.rst.slots.any fun c => c.isSealed && !c.exported

/-- STORE WIPE taken or refused: the first line of R162 that applies. -/
def State.wipeStore (s : State) : State :=
  if s.storeBusy then s.refuse kindStoreWipe .busy
  else if s.rsq.runState.refusesWipe then s.refuse kindStoreWipe .inRun
  else if s.holdsSealed then s.refuse kindStoreWipe .notExported
  else s.beginOp (.wipe 0) eraseTime

/-! ### Waiting requests (R96) -/

/-- The owner's answer to a buffered request. -/
def State.answer (s : State) (f : RxFrame) : State :=
  if f.kind.toNat = kindStatusAsk then s.callStatus
  else if f.kind.toNat = kindRecordAsk then s.answerRecord (field f.payload 0 1)
  else s.answerSum (field f.payload 0 1)

def RxFrame.isRequest (f : RxFrame) : Bool := isRequestKind f.kind.toNat

/-- Waiting requests are taken in their arrival order while the reporting part has room. -/
def State.takeRequests (s : State) : List RxFrame → State
  | [] => s
  | f :: rest =>
    if f.isRequest && s.reportRoom then
      ((s.mapBli fun b => { b with buffer := b.buffer.erase f }).answer f).takeRequests rest
    else s.takeRequests rest

/-- A due STATUS is queued when the reporting part has room (R137). -/
def State.queueDueStatus (s : State) : State :=
  if s.rrp.statusDue && s.reportRoom then (s.offerReport .status).mapRrp fun r => { r with statusDue := false } else s

/-- A frame has left the reporting part: the due STATUS, then the waiting requests, then the test for a RESULT (R96, R132,
R137). -/
def State.reportLeft (s : State) : State :=
  let s1 := s.queueDueStatus
  (s1.takeRequests s1.bli.buffer).testResult

end Sys2Proof.Machine
end

