-- ==== Sys2Proof/Machine/Receive.lean ====
section
/-! DEFINITION. The receive side of the bench line: the receive stage taking a frame's characters (R94), the judgement of a frame
received correctly (R95, R96), and the address clash (R167). -/

namespace Sys2Proof.Machine

/-! ### The receive stage (R94) -/

/-- The stage after a lead-in. -/
def RxStage.lead : RxStage := { RxStage.reset with inFrame := true }

/-- The payload length, once the header is in. -/
def RxStage.length (st : RxStage) : Nat := field st.bytes 3 1

/-- Are all characters in: header, payload and two check characters? -/
def RxStage.complete (st : RxStage) : Bool := 4 ≤ st.bytes.length && st.bytes.length = 6 + st.length

/-- A character joins; header and payload characters enter the running check (R89). -/
def RxStage.take (st : RxStage) (b : Byte) : RxStage :=
  let counts := st.bytes.length < 4 || st.bytes.length < 4 + st.length
  { st with bytes := st.bytes ++ [b], check := if counts then checkByte st.check b else st.check }

/-- A sender or target byte with a high bit set, or a payload length above 48, at the character just taken. -/
def RxStage.badCharacter (st : RxStage) : Bool :=
  match st.bytes.length with
  | 1 => 64 ≤ field st.bytes 0 1
  | 3 => 64 ≤ field st.bytes 2 1
  | 4 => 48 < field st.bytes 3 1
  | _ => false

/-- Does the check received equal the check computed? -/
def RxStage.checkAgrees (st : RxStage) : Bool := st.check.toNat = field st.bytes (4 + st.length) 2

/-- The frame in a complete stage (R101). -/
def RxStage.frame (st : RxStage) : RxFrame where
  sender := reverse6 ((st.bytes.getD 0 0).setWidth 6)
  kind := st.bytes.getD 1 0
  target := (st.bytes.getD 2 0).setWidth 6
  payload := (st.bytes.drop 4).take st.length

/-- What comes of a frame in reception: an error, or a frame received correctly. -/
inductive Received where
  | error (e : RxError)
  | good (f : RxFrame)
deriving DecidableEq, Repr

/-- How the reception ends when no further character comes: a short frame, a check error, or a frame received correctly. -/
def RxStage.judge (st : RxStage) : Received :=
  if !st.complete then .error .shortFrame else if st.checkAgrees then .good st.frame else .error .checkError

/-- The characters of a frame go through the stage; characters after a complete frame are ignored. -/
def RxStage.receive (st : RxStage) : List Byte → Received
  | [] => st.judge
  | b :: rest =>
    if st.complete then st.judge
    else
      let st' := st.take b
      if st'.badCharacter then .error .framing else RxStage.receive st' rest

/-- A frame off the line, from its lead-in. -/
def receiveFrame (bytes : List Byte) : Received := RxStage.lead.receive bytes

/-! ### Line activity -/

/-- A frame of so many bit times ended some µs ago, with so many recessive ones after its last dominant one: the stage hunts, and the
quiet count runs from there (R91). -/
def State.frameEnded (s : State) (length tail ago : Nat) : State :=
  let bit := s.sys.rate.bitTime
  s.mapBli fun b => { (b.goesDominant (ago + length * bit)).goesRecessive (ago + tail * bit) with stage := RxStage.reset }

/-- A frame of these characters ended some µs ago (R88). -/
def State.charactersEnded (s : State) (bytes : List Byte) (ago : Nat) : State :=
  s.frameEnded (lineTime bytes.length) (recessiveTail bytes) ago

/-- A line error is counted and raised (R94). -/
def State.lineError (s : State) : State :=
  (s.mapBli fun b => { b with lineErrors := bump 65535 b.lineErrors }).raise .lineError

/-- A frame in reception ends with an error: discarded, counted and raised, w unchanged; the stage hunts (R90, R94). -/
def State.receiveError (s : State) : State := (s.mapBli fun b => { b with stage := RxStage.reset }).lineError

/-! ### Address clash (R167) -/

/-- Entry to CLASHED, from a state that is not CLASHED. The frames of a reporting part that is emptied count as leaving it (log entry
39). -/
def State.enterClashed (s : State) : State :=
  let s1 := s.leavePoint.stopRunTimers
  let s2 := ((s1.mapBli fun b => { b with coord := [], report := [], waiting := [], attempt := none }).mapRrp fun r =>
    { r with statusDue := false }).enter .clashed
  let s3 := if s.unsettled then s2.takeIncomplete else s2
  let s4 := if s.rsq.runState = .sealing then s3.abortSeal s.runNumber else s3
  if s.bli.report.isEmpty then s4 else s4.reportLeft

/-- The address clash check: ADDRESS_CLASH is raised, and the station is in CLASHED. -/
def State.clash (s : State) : State :=
  if s.rsq.runState = .clashed then s.raise .addressClash else (s.raise .addressClash).enterClashed

/-! ### Acceptance (R95, R96) -/

/-- Is a sender a position address? -/
def isPosition (a : BitVec 6) : Bool := 1 ≤ a.toNat && a.toNat ≤ 60

/-- Is the frame addressed to the station (R95, step 3)? -/
def State.addressed (s : State) (f : RxFrame) : Bool := f.target.toNat = s.sys.address || f.target.toNat = 63

/-- What steps 3 to 7 of R95 make of a frame. -/
inductive Judgement where
  | dropped
  | stray
  | accepted
deriving DecidableEq, Repr

/-- Steps 3 to 7 of R95. -/
def State.judgeFrame (s : State) (f : RxFrame) : Judgement :=
  let k := f.kind.toNat
  if !s.addressed f then .dropped
  else if !isControllerKind k && !isStationKind k then .stray
  else if isControllerKind k && f.sender ≠ 0 then .stray
  else if isStationKind k && !isPosition f.sender then .stray
  else if isUnreadKind k then .dropped
  else if formFits k f.payload then .accepted
  else .stray

/-- A frame enters the receive buffer, or is lost when it holds 4 (R96). -/
def State.bufferFrame (s : State) (f : RxFrame) : State :=
  if s.bli.hasBufferRoom then s.mapBli fun b => { b with buffer := b.buffer ++ [f] }
  else (s.mapBli fun b => { b with overruns := bump 65535 b.overruns }).raise .rxOverrun

/-- A request that calls for a reply is taken while the reporting part has room, and waits in the buffer while it has none (R96). -/
def State.takeRequest (s : State) (f : RxFrame) : State := if s.reportRoom then s.answer f else s.bufferFrame f

/-- w takes the frame's sender (R90, R95 step 1). -/
def State.heard (s : State) (f : RxFrame) : State := s.mapBli fun b => { b with w := f.sender }

end Sys2Proof.Machine
end

