-- ==== Sys2Proof/Machine/StoreCommands.lean ====
section
/-! DEFINITION. The commands of the record store: the ends of its operations (R157, R158, R162) and the controller's store requests
(R160 to R163). -/

namespace Sys2Proof.Machine

/-- A reservation that waits for the end of the operation in flight is made (R143, R155). -/
def State.reserveNow (s : State) : State :=
  if s.rst.reserveAsked then (s.mapRst fun r => { r with reserveAsked := false }).reserve else s

/-- ERASE_END (R157): the content step follows. -/
def execEraseEnd (s : State) : Host.Outcome State Fault Refusal :=
  (match s.rst.op with
   | some (.erase n job) => ((s.eraseSlot n).beginContent n job).reserveNow
   | _ => s).finish

/-- CONTENT_STEP_END (R157): the cells are programmed, and the level step follows. -/
def execContentStepEnd (s : State) : Host.Outcome State Fault Refusal :=
  (match s.rst.op with
   | some (.content n job cells) =>
     ((s.mapSlot n fun c => { c with cells := cells }).beginOp (.level n job) levelTime).reserveNow
   | _ => s).finish

/-- The write is complete: the level stands, the reservation of a seal unit's write ends, and its SEALED write is reported (R148,
R157). -/
def State.levelDone (s : State) (n : Nat) (job : WriteJob) : State :=
  let s1 := s.mapSlot n fun c => { c with level1 := true, level2 := c.level2 || job.sealed }
  let s2 := s1.mapRst fun r => { r with reservation := if r.reservation = job.slot then none else r.reservation }
  (if job.sealed then s2.writeComplete else s2).endOp

/-- LEVEL_STEP_END (R148, R156, R157). -/
def execLevelStepEnd (s : State) : Host.Outcome State Fault Refusal :=
  (match s.rst.op with
   | some (.level n job) => s.levelDone n job
   | _ => s).finish

/-- MARK_END (R149, R158): the mark's cell is programmed, and the seal unit learns of its own. -/
def execMarkEnd (s : State) : Host.Outcome State Fault Refusal :=
  (match s.rst.op with
   | some (.mark n m seu) =>
     let s1 := s.mapSlot n fun c => c.withMark m
     (if seu then s1.markReported m else s1).endOp
   | _ => s).finish

/-- WIPE_SLOT_ERASED (R162): the slot in erase is erased, and the wipe moves on; past the last slot it waits for its end. -/
def execWipeSlotErased (s : State) : Host.Outcome State Fault Refusal :=
  (match s.rst.op with
   | some (.wipe n) =>
     if n < 32 then (s.eraseSlot n).beginOp (.wipe (n + 1)) (if n + 1 < 32 then eraseTime else 0) else s
   | _ => s).finish

/-- WIPE_END (R162): every slot is EMPTY with no mark, and the damaged table is clear. -/
def execWipeEnd (s : State) : Host.Outcome State Fault Refusal :=
  (match s.rst.op with
   | some (.wipe _) =>
     (s.mapRst fun r => { r with slots := r.slots.map fun _ => Slot.erased, damaged := r.damaged.map fun _ => false }).endOp
   | _ => s).finish

/-! ### Requests of the bench controller -/

/-- A request of the bench controller to this station, as a frame. -/
def State.requestFrame (s : State) (kind : Nat) (payload : List Byte) : RxFrame :=
  ⟨0, BitVec.ofNat 8 kind, BitVec.ofNat 6 s.sys.address, payload⟩

/-- RECORD_ASK (R96, R100, R160). -/
def execRecordAsk (selector : Byte) (s : State) : Host.Outcome State Fault Refusal :=
  (s.taken (selector.toNat < 32 || selector = 255) fun s =>
    s.takeRequest (s.requestFrame kindRecordAsk [selector])).finish

/-- STORE_SUM_ASK (R96, R100, R163). -/
def execStoreSumAsk (count : Byte) (s : State) : Host.Outcome State Fault Refusal :=
  (s.taken (count.toNat ≤ 32) fun s => s.takeRequest (s.requestFrame kindStoreSumAsk [count])).finish

/-- RECORD_MARK (R100, R161). -/
def execRecordMark (slot : Byte) (number : Half) (s : State) : Host.Outcome State Fault Refusal :=
  (s.taken (slot.toNat < 32) fun s => s.markRecord slot.toNat number.toNat).finish

/-- STORE_WIPE (R162). -/
def execStoreWipe (s : State) : Host.Outcome State Fault Refusal := (s.taken true fun s => s.wipeStore).finish

end Sys2Proof.Machine
end

