-- ==== Sys2Proof/Machine/ReportCommands.lean ====
section
/-! DEFINITION. The commands of the result reporter (R134, R136, R137) and HOLD SET (R168). -/

namespace Sys2Proof.Machine

/-- DELAY_TIMER_EXPIRY (R134), while the timer runs. -/
def execDelayTimerExpiry (s : State) : Host.Outcome State Fault Refusal :=
  (if s.rrp.delay.isSome then
    let s1 := s.mapRrp fun r => { r with delay := none }
    if s.rrp.queue = [] then s1 else (s1.mapRrp fun r => { r with call := true }).testResult
  else s).finish

/-- The result reporter takes an EVENT CLEAR. -/
def State.takeEventClear (s : State) (clear mask : Half) : State :=
  s.mapRrp fun r => { r with flags := r.flags &&& ~~~clear, mask := mask }

/-- EVENT_CLEAR (R136). -/
def execEventClear (clear mask : Half) (s : State) : Host.Outcome State Fault Refusal :=
  (s.taken true fun s => s.takeEventClear clear mask).finish

/-- STATUS_ASK (R96, R137). -/
def execStatusAsk (s : State) : Host.Outcome State Fault Refusal :=
  (s.taken true fun s => s.takeRequest (s.requestFrame kindStatusAsk [])).finish

/-! ### HOLD SET (R168) -/

/-- The press goes to its reset state; a stroke under way ends with a fault (R150). -/
def State.holdPress (s : State) : State :=
  if s.seu.claim.state = .stroke ∧ s.seu.press then s.strokeFault
  else s.mapSeu fun u => { u with press := false, strokeTimer := none }

/-- The reporting block after a change of its hold: its reset state when set (R133), the test for a RESULT when released (R132). -/
def State.holdReporting (s : State) (old new : Bool) : State :=
  if new && !old then s.resetResults else if old && !new then s.testResult else s

/-- The hold set is replaced, and each newly held block goes to its reset state (R168). -/
def State.setHolds (s : State) (new : Holds) : State :=
  let old := s.sys.holds
  let s1 := s.mapSys fun y => { y with holds := new }
  let s2 := if new.a && !old.a then s1.holdChannel .a else s1
  let s3 := if new.b && !old.b then s2.holdChannel .b else s2
  let s4 := s3.holdReporting old.reporting new.reporting
  if new.press && !old.press then s4.holdPress else s4

/-- HOLD_SET (R168). -/
def execHoldSet (holds : Byte) (s : State) : Host.Outcome State Fault Refusal :=
  (s.taken true fun s => s.setHolds (Holds.ofByte holds)).finish

end Sys2Proof.Machine
end

