-- ==== Sys2Proof/Machine/Transmit.lean ====
section
/-! DEFINITION. The send side of the bench line: the rank (R90), how an attempt begins (R91, R93), the STATUS contents (R137), and
what a frame sent or lost does for its owner (R92, R93, R98). -/

namespace Sys2Proof.Machine

/-! ### Turn (R90, R91) -/

/-- The rank r = (own address − w − 1) modulo 64. -/
def rank (own : Nat) (w : BitVec 6) : Nat := (own + 127 - w.toNat) % 64

/-- The station's wait in bit times. -/
def State.wait (s : State) : Nat := 40 + 8 * rank s.sys.address s.bli.w

/-- Is a time the wait of an own frame? The part works, holds a frame, neither sends nor receives one, and the line is not stuck (R91,
R97). -/
def State.waited (s : State) (time : Nat) : Bool :=
  s.alive && s.bli.quietRuns && !(s.bli.coord.isEmpty && s.bli.report.isEmpty) && decide (s.wait * s.sys.rate.bitTime ≤ time)

/-- May an attempt begin? The line is recessive, its quiet count has reached the wait, and the 1 ms after a stuck stretch is over (R91,
R97). -/
def State.mayStart (s : State) : Bool := !s.bli.low && !s.bli.recovering && s.waited s.bli.quiet

/-- Is it time to look at a line again that was low when it last showed (log entry 1)? -/
def State.looksAgain (s : State) : Bool := s.bli.low && s.waited s.bli.unseen

/-! ### STATUS (R103, R137) -/

/-- How many roster entries have a status. -/
def State.rosterCount (s : State) (st : PeerStatus) : Nat := (s.rsq.roster.filter fun e => e.status = st).length

/-- The 36 bytes of a STATUS. -/
def State.statusPayload (s : State) : List Byte :=
  let q := s.rsq
  let b := s.bli
  leBytes 1 q.runState.code ++ leBytes 2 s.runNumber.toNat ++ leBytes 2 q.seq ++ leBytes 1 q.desc
    ++ leBytes 1 (s.rosterCount .enrolled) ++ leBytes 1 (s.rosterCount .lapsed) ++ leBytes 1 (s.rosterCount .withdrawn)
    ++ leBytes 2 s.rrp.flags.toNat ++ leBytes 2 s.rrp.mask.toNat ++ leBytes 1 s.sys.holds.code
    ++ leBytes 2 b.lineErrors ++ leBytes 2 b.overruns ++ leBytes 2 b.lost ++ leBytes 2 b.strays
    ++ leBytes 4 s.seu.watermark ++ leBytes 1 s.freeCount ++ leBytes 1 (meterVerdictCode q.verdict)
    ++ leBytes 1 (sealOutcomeCode s.seu.outcome)
    ++ leBytes 1 ((s.rrp.lastRefusal.map RefusedRequest.kind).getD 0)
    ++ leBytes 1 ((s.rrp.lastRefusal.map fun r => r.cause.code).getD 0)
    ++ leBytes 1 ((s.plt.fault.map fun f => f.cause.code).getD 0) ++ leBytes 1 ((s.plt.fault.map PlanFault.desc).getD 0)
    ++ leBytes 2 ((s.plt.fault.map PlanFault.seq).getD 0)
    ++ leBytes 1 (completionCode (s.plt.fault.bind PlanFault.completion))

/-! ### An attempt begins (R93) -/

/-- The list of a LAPSE for a point, as the roster stands (R119). -/
def State.lapseListFor (s : State) (n : Nat) : List Nat :=
  (List.range 61).filter fun x =>
    let e := rosterAt s.rsq.roster x
    e.status = .enrolled && !e.reached n

/-- The attempt goes onto the line, and ends the quiet (R91, R93). -/
def Bli.begin (b : Bli) (a : Attempt) : Bli := { b with quiet := 0, afterStuck := false, attempt := some a }

/-- The bits of a frame as they go onto the line, true for a dominant one: lead-in, delimiter, and each character with its start bit, its
bits from the lowest and its stop bit (R87, R88). -/
def lineBits (bytes : List Byte) : List Bool :=
  List.replicate 12 true ++ [false] ++ bytes.flatMap fun b => true :: (List.range 8).map (fun k => !b.getLsbD k) ++ [false]

/-- The time for which the line has been recessive when it does not follow a dominant bit of the attempt: since the last dominant bit
before that one, or, at the first bit of the lead-in, since before the attempt (R91, R92; log entry 13). -/
def Attempt.recessiveFor (a : Attempt) (bit : Nat) (now : Word) : Nat :=
  let time := elapsed a.begun now
  let followed := (lineBits a.bytes).take (time / bit)
  let quietEnd := (followed.reverse.takeWhile fun dominant => !dominant).length
  if followed.length = quietEnd then a.quietBefore + time else time - (followed.length - quietEnd) * bit

/-- The attempt goes onto the line with a coordination frame. -/
def State.sendCoord (s : State) (f : CoordFrame) (list : List Nat) (serial : Nat) : State :=
  let p := coordPayload f list serial
  s.mapBli fun b => b.begin ⟨.coordination, frameBytes s.sys.address p.1 63 p.2, list, serial, false, s.time.counter, b.quiet⟩

/-- The attempt goes onto the line with a reporting frame. -/
def State.sendReport (s : State) (f : ReportFrame) : State :=
  let p := reportPayload f s.statusPayload
  s.mapBli fun b => b.begin ⟨.reporting, frameBytes s.sys.address p.1 0 p.2, [], 0, false, s.time.counter, b.quiet⟩

/-- The owner drops the head of the coordination part, and a kept frame takes its place (R93, R98). -/
def State.dropHead (s : State) : State := s.mapBli fun b => { b with coord := b.coord.drop 1 }.refill

/-- The serial left for a claim (R144). -/
def State.claimable (s : State) (run : Half) : Bool := s.inRun run && s.seu.claim.state = .claimWait && !s.seu.usedUp

/-- The head frame is chosen and formed; an owner may drop it, and the next is taken at once (R93). A LAPSE with an empty list is
dropped (R119), and a claim with no serial left ends the sealing (R144). -/
def State.formAttempt (s : State) : Nat → State
  | 0 => s
  | fuel + 1 =>
    match s.bli.coord with
    | .lapse run n :: _ =>
      let list := s.lapseListFor n
      if list = [] then s.dropHead.formAttempt fuel else s.sendCoord (.lapse run n) list 0
    | .claim run :: _ =>
      if s.claimable run then s.sendCoord (.claim run) [] (s.seu.watermark + 1)
      else
        let s1 := s.dropHead
        (if s.inRun run ∧ s.seu.claim.state = .claimWait then s1.endSealing .exhausted else s1).formAttempt fuel
    | f :: _ => s.sendCoord f [] 0
    | [] =>
      match s.bli.report with
      | f :: _ => s.sendReport f
      | [] => s

/-! ### The frame has been sent (R93) -/

/-- The own ENROL has been sent (R111): the station is enrolled, and enters WAIT_LOAD if its window has closed meanwhile. -/
def State.enrolWasSent (s : State) (run : Half) : State :=
  if s.inRun run ∧ s.rsq.runState = .enrolling then
    let s1 := s.mapRsq fun q => { q with enrolSent := true }
    if s.rsq.enrolWindow = none then s1.enterWaitLoad 0 s.plt.head else s1
  else s

/-- The own DONE has been sent: last-done and figure as for any DONE (R109), the barrier timer, the test of the barrier (R116). The timer
of a barrier that has closed is not started (R118). A DONE still queued in FINISHED or WITHDRAWN sets the own entry as well (log entry
38). -/
def State.doneWasSent (s : State) (run : Half) (n : Nat) (figure : Option Nat) : State :=
  if s.inRun run then
    let s1 := s.mapEntry s.sys.address fun e => if e.reached n then e else { e with lastDone := some n, figure := figure }
    if s.rsq.runState = .barrier ∧ s.rsq.seq = n then
      (s1.mapRsq fun q => { q with
        barrier := .running ((s.current.point.map PointFields.barrier).getD 0) }).testBarrier
    else s1
  else s

/-- The own LAPSE has been sent: the station applies its own list (R121). -/
def State.lapseWasSent (s : State) (run : Half) (n : Nat) (list : List Nat) : State :=
  if s.inRun run then s.applyLapse n fun x => list.contains x else s

/-- The own SEAL CLAIM has been sent: H takes its serial, whether the claim still waits and is open now (R144), or an abort, a RUN OPEN
acting as one among them, has ended it meanwhile (R151; log entry 40). -/
def State.claimWasSent (s : State) (run : Half) (serial : Nat) : State :=
  let s1 := s.mapSeu fun u => { u with watermark := max u.watermark serial }
  if s.inRun run ∧ s.seu.claim.state = .claimWait then
    s1.mapSeu fun u => { u with
      claim := { u.claim with state := .claimOpen, serial := some serial, confirm := some confirmTime } }
  else s1

/-- The owner of a coordination frame is told of the sending. -/
def State.coordWasSent (s : State) (f : CoordFrame) (a : Attempt) : State :=
  match f with
  | .enrol run => s.enrolWasSent run
  | .done run n _ figure _ => s.doneWasSent run n figure
  | .lapse run n => s.lapseWasSent run n a.list
  | .claim run => s.claimWasSent run a.serial
  | .withdraw _ _ _ | .void _ _ _ _ => s

/-- The frame of the attempt has been sent whole: it leaves its part, w is the own address, and its owner is told. -/
def State.sendEnds (s : State) (a : Attempt) : State :=
  let s1 := (s.charactersEnded a.bytes 0).mapBli fun b => { b with attempt := none, w := BitVec.ofNat 6 s.sys.address }
  match a.part with
  | .coordination =>
    match s.bli.coord with
    | f :: _ => s1.dropHead.coordWasSent f a
    | [] => s1
  | .reporting => (s1.mapBli fun b => { b with report := b.report.drop 1 }).reportLeft

/-! ### The frame has been lost (R92, R93) -/

/-- A frame that its owner has withdrawn is removed when its attempt ends without its sending (R93); an ENROL removed so leaves the station
not enrolled (R111). DEDUCED (log entry 49): that it is removed also where the line did not follow, for which R93 names no removal and R92
keeps the frame. -/
def State.removeWithdrawn (s : State) (a : Attempt) : State :=
  if a.withdrawn then
    let s1 := s.dropHead
    match s.bli.coord with
    | .enrol run :: _ =>
      if s.inRun run ∧ s.rsq.runState = .enrolling then
        (if s.rsq.enrolWindow = none then s1.dropEnrol else s1.markOwn .absent)
      else s1
    | _ => s1
  else s

/-- The attempt ends without the frame's sending, at a bit that reads dominant or recessive, with the quiet count of the line (R91,
R92). -/
def State.attemptLost (s : State) (a : Attempt) (low : Bool) (quiet : Nat) : State :=
  (s.mapBli fun b => { b with stage := RxStage.reset, low := low, unseen := 0, quiet := quiet, attempt := none }).removeWithdrawn a

/-- The line is lost at a dominant bit: the stage goes on with the frame that won, and the lost count rises (R92). -/
def State.lineLost (s : State) (a : Attempt) : State :=
  (s.attemptLost a true 0).mapBli fun b => { b with stage := RxStage.lead, lost := bump 65535 b.lost }

end Sys2Proof.Machine
end

