-- ==== Sys2Proof/Machine/Clock.lean ====
section
/-! DEFINITION. What the part does while no command waits (log entry 1): it lets the first timer that has run out expire, or begins an
attempt whose wait is over, each as the command that stands for it; else one period of CLK8 passes (R16, R17). -/

namespace Sys2Proof.Machine

/-! ### One period of CLK8 -/

/-- A reference input over one period: the times R11 looks at, each up to its limit. -/
def RefInput.age (r : RefInput) : RefInput :=
  { r with sinceAdvance := min 4 (r.sinceAdvance + 1), sinceRaw := min 1 (r.sinceRaw + 1) }

/-- The barrier timer over one 10 ms tick. -/
def BarrierTimer.tick : BarrierTimer → BarrierTimer
  | .running (n + 1) => .running n
  | t => t

/-- A 10 ms tick: the timers of frame fields (R17). -/
def State.tenMs (s : State) : State :=
  ((s.mapRsq fun q => { q with enrolWindow := countDown q.enrolWindow, barrier := q.barrier.tick }).mapRrp fun r =>
    { r with delay := countDown r.delay }).mapSeu fun u => { u with strokeTimer := countDown u.strokeTimer }

/-- A 1 µs tick: the timers whose durations the manual gives in µs or ms, and the quiet count (R17). -/
def State.microTimers (s : State) : State :=
  ((((s.mapPfe fun p => { p with zc := { p.zc with silence := countDown p.zc.silence } }).mapRsq fun q =>
    { q with allowance := countDown q.allowance }).mapBli Bli.tick).mapRst fun r =>
    { r with opTimer := countDown r.opTimer }).mapSeu fun u => { u with
      claim := { u.claim with confirm := countDown u.claim.confirm }
      rejectTimer := countDown u.rejectTimer
      lamps := { u.lamps with flashTimer := countDown u.lamps.flashTimer } }

/-- A 1 µs tick; every 10,000th is a 10 ms tick (R16). -/
def State.micro (s : State) : State :=
  let s1 := s.microTimers
  if 10000 ≤ s.time.phase + 1 then (s1.mapTime fun t => { t with counter := t.counter + 1, phase := 0 }).tenMs
  else s1.mapTime fun t => { t with counter := t.counter + 1, phase := t.phase + 1 }

/-- One period of CLK8; eight make 1 µs (R16). -/
def State.tick (s : State) : State :=
  let s1 := s.mapPfe fun p => { p with rf0 := p.rf0.age, rf1 := p.rf1.age }
  if 8 ≤ s.time.clk + 1 then (s1.mapTime fun t => { t with clk := 0 }).micro
  else s1.mapTime fun t => { t with clk := t.clk + 1 }

/-! ### Timers that have run out -/

/-- A pending pulse has stood for Wg µs (R3). -/
def State.pulseDue (s : State) (ch : Channel) : Bool :=
  s.judges ch && (s.meter ch).pulse.any fun p => decide ((s.meter ch).wg ≤ elapsed p.stamp s.time.counter)

/-- The end of the store's operation in flight. -/
def StoreOp.endCommand : StoreOp → Instr
  | .erase _ _ => .eraseEnd
  | .content _ _ _ => .contentStepEnd
  | .level _ _ => .levelStepEnd
  | .mark _ _ _ => .markEnd
  | .wipe n => if n < 32 then .wipeSlotErased else .wipeEnd

/-- The store's operation in flight has run its time. -/
def State.storeDue (s : State) : Option Instr := if due s.rst.opTimer then s.rst.op.map StoreOp.endCommand else none

/-- The timers in a fixed order, with the command that is the expiry of each. -/
def State.expiries (s : State) : List (Bool × Instr) :=
  [ (s.pulseDue .a, .pulseAccepted .a), (s.pulseDue .b, .pulseAccepted .b), (due s.pfe.zc.silence, .silenceTimerExpiry),
    (due s.rsq.enrolWindow, .enrolWindowExpiry), (due s.rsq.allowance, .lateEnrolAllowanceEnd),
    (decide (s.rsq.barrier = .running 0), .barrierTimerExpiry), (due s.rrp.delay, .delayTimerExpiry),
    (due s.seu.claim.confirm && s.seu.claim.state = .claimOpen, .confirmTimerExpiry), (due s.seu.strokeTimer, .strokeTimerExpiry),
    (due s.seu.rejectTimer, .rejectPulseEnd), (due s.seu.lamps.flashTimer, .lampFlashToggle) ]

/-- The first expiry that is due, the end of a store operation, or the own send whose wait is over or whose line was low long ago (R91). -/
def State.dueCommand (s : State) : Option Instr :=
  match s.expiries.find? Prod.fst with
  | some e => some e.2
  | none =>
    match s.storeDue with
    | some c => some c
    | none => if s.mayStart || s.looksAgain then some (.sendAttemptStart (Config.lineSeen s.freeIndex)) else none

/-- The part posts a command of its own, and has used a free value for it. -/
def State.post (s : State) (c : Instr) : State := { s with pending := s.pending ++ [c], freeIndex := s.freeIndex + 1 }

/-- What happens while no command waits; a part held in reset does nothing. -/
def State.idle (s : State) : State :=
  if s.sys.inReset then s
  else
    match s.dueCommand with
    | some c => s.post c
    | none => s.tick

end Sys2Proof.Machine
end

