-- ==== Sys2Proof/Machine/LineCommands.lean ====
section
/-! DEFINITION. The commands of the bench line interface but FRAME_RECEIVED: stuck stretches (R97), the own send (R91 to R93) and frames
in error (R94). -/

namespace Sys2Proof.Machine

/-- Has the line, dominant since the stamp given, been so for more than 20 ms (R17, R97)? -/
def State.stuckFor (s : State) (since : Word) : Bool := decide (stuckTime < elapsed since s.time.counter)

/-- LINE_STUCK (R97), raised once for each stretch. -/
def execLineStuck (since : Word) (s : State) : Host.Outcome State Fault Refusal :=
  (if s.alive && !s.bli.stuck && s.stuckFor since then
    (s.mapBli fun b => { b with stuck := true, dominantSince := since, low := true, unseen := 0, quiet := 0 }).raise .lineStuck
  else s).finish

/-- STUCK_LINE_RELEASED (R97). -/
def execStuckLineReleased (s : State) : Host.Outcome State Fault Refusal :=
  (if s.alive && s.bli.stuck then
    s.mapBli fun b => { b with stuck := false, stage := RxStage.reset, low := false, quiet := 0, afterStuck := true }
  else s).finish

/-- SEND_ATTEMPT_START (R91, R93): the station starts if the line, as it now shows, has been recessive for the wait; it defers if the
line has gone dominant before, to its level at this moment or for a while. -/
def execSendAttemptStart (line : List LineEdge) (s : State) : Host.Outcome State Fault Refusal :=
  (if s.alive && s.bli.quietRuns then
    let s1 := s.see line
    if s1.mayStart then s1.formAttempt (s1.bli.coord.length + s1.bli.waiting.length + 1) else s1
  else s).finish

/-- FRAME_SENT (R93). -/
def execFrameSent (s : State) : Host.Outcome State Fault Refusal :=
  (match s.bli.attempt with
   | some a => s.sendEnds a
   | none => s).finish

/-- LINE_LOST (R92). -/
def execLineLost (s : State) : Host.Outcome State Fault Refusal :=
  (match s.bli.attempt with
   | some a => s.lineLost a
   | none => s).finish

/-- LINE_NOT_FOLLOWING (R92): the line is recessive, and has been since the last dominant bit it followed (R91). -/
def execLineNotFollowing (s : State) : Host.Outcome State Fault Refusal :=
  (match s.bli.attempt with
   | some a => (s.attemptLost a false (a.recessiveFor s.sys.rate.bitTime s.time.counter)).lineError
   | none => s).finish

/-- FRAME_RECEIVE_ERROR (R94): the three errors are counted and raised alike, and the quiet count is the line's (R91). -/
def execFrameReceiveError (bad : BadFrame) (s : State) : Host.Outcome State Fault Refusal :=
  (if s.alive then (s.see bad.line).receiveError else s).finish

end Sys2Proof.Machine
end

