-- ==== Sys2Proof/Machine/Reset.lean ====
section
/-! DEFINITION. The four resets and the start-up sequence (R164, R165, R159, R99). -/

namespace Sys2Proof.Machine

/-- A reset with a cause: every item at its reset value, the cells of the store as the operation in flight leaves them. -/
def State.resetWith (s : State) (cause : ResetCause) : State :=
  State.inReset cause (cutSlots s.rst.slots s.rst.op (Config.cutCells s.freeIndex) (Config.cutPhase s.freeIndex))
    s.rst.lastRecord s.pins (if s.rst.op.isSome then s.freeIndex + 1 else s.freeIndex) s.pending

/-- RESTART taken (R166). -/
def State.takeRestart (s : State) : State :=
  s.resetWith (if s.rsq.runState = .clashed then .restartClashed else .restart)

/-! ### Start-up -/

/-- The address a strap level gives; none for a strap error. -/
def strapAddress (a : BitVec 6) : Option Nat := if isPosition a then some a.toNat else none

/-- The line rate a code gives; none for a strap error. -/
def strapRate (r : BitVec 2) : Option LineRate :=
  match r.toNat with
  | 0 => some .r125
  | 1 => some .r250
  | 2 => some .r500
  | _ => none

/-- A frame received correctly in STARTING: w follows it, and it is discarded at step 2 or step 7 uncounted (R99). -/
def State.startingFrame (s : State) (f : RxFrame) : State :=
  let s1 := s.heard f
  if f.sender.toNat = s.sys.address then s1 else if s1.judgeFrame f = .stray then s1.stray else s1

/-- What the line brings in STARTING. -/
def State.startingHears (s : State) (h : Heard) : State :=
  match h with
  | .error bad => (s.see bad.line).receiveError
  | .frame bytes line ago =>
    let s1 := s.see line
    match receiveFrame bytes with
    | .error _ => s1.receiveError
    | .good f => (s1.charactersEnded bytes ago).startingFrame f

/-- The start-up scan (R159). -/
def State.scanStore (s : State) : State :=
  let s1 := s.mapRst fun r => { r with damaged := r.slots.map Slot.scanDamaged }
  if s.rst.slots.any (fun c => c.scanDamaged && !c.exported) then s1.raise .storeDamaged else s1

/-- HELLO, as the scan leaves the store (R103, R165). -/
def State.helloFrame (s : State) : ReportFrame :=
  .hello s.sys.cause.code s.freeCount (s.damagedCount 32) s.rst.lastRecord

/-- The start-up sequence with valid straps, to IDLE (R165). DESIGN CHOICE (log entry 47): the manual gives it no duration, and it takes none on
the timebase, which still stands at 0 at the entry to IDLE (R16). -/
def State.startUp (s : State) (address : Nat) (rate : LineRate) (heard : List Heard) : State :=
  let s1 := s.mapSys fun y => { y with inReset := false, address := address, rate := rate }
  let s2 := (heard.foldl State.startingHears s1).scanStore
  let s3 := if s.sys.cause = .restartClashed then s2.raise .addressClash else s2
  (((s3.offerReport s3.helloFrame).enter .idle).queueDueStatus)

/-- The reset ends (R164, R165). -/
def State.endReset (s : State) (addr : BitVec 6) (rate : BitVec 2) (heard : List Heard) : State :=
  match strapAddress addr, strapRate rate with
  | some a, some r => s.startUp a r heard
  | _, _ => (s.mapSys fun y => { y with inReset := false }).enter .strapError

end Sys2Proof.Machine
end

