-- ==== Sys2Proof/Machine/RunCommands.lean ====
section
/-! DEFINITION. The commands of the run sequencer: RUN OPEN, LOAD READY, RUN ABORT, RUN CLOSE, the run's timers and the
meter-present sensor (chapter 7). -/

namespace Sys2Proof.Machine

/-! ### RUN OPEN (R106, R107) -/

/-- A RUN OPEN is malformed (R106). -/
def malformedOpen (f : RunOpenFields) : Bool :=
  f.s0 = 0 || decide (f.s1.toNat < f.s0.toNat) || 48 ≤ f.head.toNat || 48 ≤ f.tail.toNat

/-- The meter input settings of a RUN OPEN: a Wg or Wd of 0 is replaced by its reset value (R1). -/
def MeterInput.configure (m : MeterInput) (edge wg wd : Byte) : MeterInput :=
  { m with
    edge := if edge.getLsbD 0 then .falling else .rising
    wg := if wg = 0 then 10 else wg.toNat
    wd := if wd = 0 then 20 else wd.toNat }

/-- The PFE's part of a RUN OPEN taken (R1). -/
def Pfe.openRun (p : Pfe) (f : RunOpenFields) : Pfe :=
  { p with meters := ⟨p.meters.a.configure f.maEdge f.maWg f.maWd, p.meters.b.configure f.mbEdge f.mbWg f.mbWd⟩ }

/-- The PLT's part (R74). -/
def Plt.openRun (p : Plt) (f : RunOpenFields) : Plt :=
  { p with head := f.head.toNat, tail := f.tail.toNat, cyclic := f.flags.getLsbD 0, loops := atLeastOne f.loops.toNat, loop := 0 }

/-- The seal unit's part (R139). -/
def Seu.openRun (u : Seu) (f : RunOpenFields) : Seu :=
  { u with
    enable := f.flags.getLsbD 1, block := some (f.s0.toNat, f.s1.toNat), watermark := f.s0.toNat - 1
    strokeTimeout := atLeastOne f.stroke.toNat, voids := [], claim := Claim.reset, outcome := none, aborted := false }

/-- The result reporter's part (R130). -/
def Rrp.openRun (r : Rrp) (f : RunOpenFields) : Rrp := { r with tq := min 16 (atLeastOne f.tq.toNat), td := f.td.toNat }

/-- The run sequencer's part (R107). -/
def Rsq.openRun (q : Rsq) (f : RunOpenFields) : Rsq :=
  { q with
    runState := .enrolling, run := some f.run, seq := 0, desc := f.head.toNat
    roster := List.replicate 60 RosterEntry.reset, enrolWindow := some (atLeastOne f.window.toNat), allowance := none
    barrier := .stopped, enrolSent := false, phase := .none, tally := Tally.reset, verdict := none }

/-- Every block takes its part of the frame (R107). -/
def State.openBlocks (s : State) (f : RunOpenFields) : State :=
  ((((s.mapRsq fun q => q.openRun f).mapPfe fun p => p.openRun f).mapPlt fun p => p.openRun f).mapSeu fun u =>
    u.openRun f).mapRrp fun r => r.openRun f

/-- The station enrols: its own entry is ENROLLED and its ENROL is queued (R107). -/
def State.enrolSelf (s : State) (run : Half) : State := (s.markOwn .enrolled).offerCoord (.enrol run)

/-- RUN OPEN is taken (R107), and the result reporter tests for a RESULT (R130, R132). -/
def State.openRun (s : State) (f : RunOpenFields) (present : Bool) : State :=
  let s1 := s.openBlocks f
  (if present ∧ (s.descriptor f.head.toNat).kind ≠ .none then s1.enrolSelf f.run else s1).testResult

/-- The run states in which RUN OPEN is taken at once (R106). -/
def RunState.takesOpen : RunState → Bool
  | .idle | .finished | .withdrawn => true
  | _ => false

/-- RUN OPEN judged by the run state, after it has acted as RUN ABORT where it does (R106, R127). -/
def State.judgeOpen (s : State) (f : RunOpenFields) (present : Bool) : State :=
  let s1 := s.abortRun
  if s1.rsq.runState.takesOpen then s1.openRun f present
  else if s1.rsq.runState = .sealing then s1.refuse kindRunOpen .inProgress
  else s1

/-- The run sequencer takes a RUN OPEN (R106), at the level of MPRES given, which the pin then shows. -/
def State.takeRunOpen (s : State) (f : RunOpenFields) (present : Bool) : State :=
  let s1 := s.mapPins fun p => { p with mpres := present }
  if malformedOpen f then s1.stray
  else if s.inRun f.run then s1
  else s1.judgeOpen f present

/-- RUN_OPEN (R106, R107). The level of MPRES at this moment goes with the command (log entry 6). -/
def execRunOpen (f : RunOpenFields) (meterPresent : Bool) (s : State) : Host.Outcome State Fault Refusal :=
  (s.taken true fun s => s.takeRunOpen f meterPresent).finish

/-! ### LOAD READY (R111 to R113, R118, R86) -/

/-- LOAD READY in WAIT_LOAD (R112). -/
def State.loadInWait (s : State) (n d : Nat) : State :=
  if n < s.rsq.seq then s
  else if s.rsq.seq < n then s.withdrawRun .outOfStep
  else if d ≠ s.rsq.desc then s.withdrawRun .planMismatch
  else s.enterSettling

/-- A LOAD READY goes on in WAIT_LOAD, if the station has come there. -/
def State.thenWait (s : State) (n d : Nat) : State := if s.rsq.runState = .waitLoad then s.loadInWait n d else s

/-- LOAD READY in PAUSED (R86, R113). An index past the table is no descriptor, and never the next (log entry 16). -/
def State.loadInPaused (s : State) (n d : Nat) : State :=
  if d = s.current.next ∧ d < 48 then
    ((s.mapPlt fun p => { p with tail := d }).enterWaitLoad (s.rsq.seq + 1) d).thenWait n d
  else if n ≤ s.rsq.seq then s
  else if n = s.rsq.seq + 1 then s.withdrawRun .planMismatch
  else s.withdrawRun .outOfStep

/-- The unheard count of a silent entry rises, and the third barrier lapses it (R118). -/
def RosterEntry.unheardAt (e : RosterEntry) (own : Bool) (n : Nat) : RosterEntry :=
  if e.status = .enrolled ∧ !own ∧ !e.reached n then
    if 3 ≤ e.unheard + 1 then { e with unheard := 3, status := .lapsed } else { e with unheard := e.unheard + 1 }
  else e

/-- The roster before a barrier that a LOAD READY closes (R118). -/
def State.countUnheard (s : State) : State :=
  s.mapRsq fun q => { q with
    roster := q.roster.mapIdx fun i e => e.unheardAt (decide (i + 1 = s.sys.address)) q.seq }

/-- LOAD READY of the current run, by the run state (R111 to R113). -/
def State.loadReady (s : State) (n d : Nat) : State :=
  match s.rsq.runState with
  | .enrolling => if s.rsq.enrolSent then s.closeWindow.thenWait n d else s
  | .waitLoad => s.loadInWait n d
  | .settling | .measuring => if n ≤ s.rsq.seq then s else s.withdrawRun .outOfStep
  | .barrier =>
    if n ≤ s.rsq.seq then s
    else if n = s.rsq.seq + 1 then
      let s1 := s.countUnheard.closeBarrier
      if s1.rsq.runState = .paused then s1.loadInPaused n d else s1.thenWait n d
    else s.withdrawRun .outOfStep
  | .paused => s.loadInPaused n d
  | _ => s

/-- The run sequencer takes a LOAD READY (R105). -/
def State.takeLoadReady (s : State) (run seq : Half) (desc : Byte) : State :=
  if s.inRun run then s.loadReady seq.toNat desc.toNat else s

/-- LOAD_READY (R105, R111 to R113, R118). -/
def execLoadReady (run seq : Half) (desc : Byte) (s : State) : Host.Outcome State Fault Refusal :=
  (s.taken true fun s => s.takeLoadReady run seq desc).finish

/-! ### RUN ABORT and RUN CLOSE (R126 to R128) -/

/-- The run sequencer takes a RUN ABORT (R105). -/
def State.takeRunAbort (s : State) (run : Half) : State := if s.inRun run then s.abortRun else s

/-- RUN_ABORT (R105, R126, R127). -/
def execRunAbort (run : Half) (s : State) : Host.Outcome State Fault Refusal :=
  (s.taken true fun s => s.takeRunAbort run).finish

/-- RUN CLOSE of the current run (R127, R128). -/
def State.closeRun (s : State) : State :=
  let s1 := s.abortRun
  if s1.rsq.runState = .finished ∨ s1.rsq.runState = .withdrawn then s1.enter .idle
  else if s1.rsq.runState = .sealing then s1.refuse kindRunClose .inProgress
  else s1

/-- The run sequencer takes a RUN CLOSE (R105). -/
def State.takeRunClose (s : State) (run : Half) : State := if s.inRun run then s.closeRun else s

/-- RUN_CLOSE (R105, R127, R128). -/
def execRunClose (run : Half) (s : State) : Host.Outcome State Fault Refusal :=
  (s.taken true fun s => s.takeRunClose run).finish

/-! ### Timers (R110, R111, R119) -/

/-- ENROL_WINDOW_EXPIRY (R110, R111), while the timer runs. -/
def execEnrolWindowExpiry (s : State) : Host.Outcome State Fault Refusal :=
  (if s.rsq.enrolWindow.isSome then s.closeWindow else s).finish

/-- LATE_ENROL_ALLOWANCE_END (R110). -/
def execLateEnrolAllowanceEnd (s : State) : Host.Outcome State Fault Refusal :=
  (s.mapRsq fun q => { q with allowance := none }).finish

/-- Does the barrier timer run? -/
def BarrierTimer.runs : BarrierTimer → Bool
  | .running _ => true
  | _ => false

/-- BARRIER_TIMER_EXPIRY (R119), while the timer runs. -/
def execBarrierTimerExpiry (s : State) : Host.Outcome State Fault Refusal :=
  (if s.rsq.barrier.runs then
    (s.mapRsq fun q => { q with barrier := .expired }).offerCoord (.lapse s.runNumber s.rsq.seq)
  else s).finish

/-! ### The meter-present sensor (R111, R124) -/

/-- A fall of MPRES, by the run state. -/
def State.meterRemoved (s : State) : State :=
  if s.unsettled then s.withdrawRun .meterRemoved
  else if s.rsq.runState = .enrolling then
    let s1 := s.withdrawFrames (isEnrolOf s.runNumber)
    if s.enrolOnLine then s1 else s1.markOwn .absent
  else s

/-- MPRES_FALL (R111, R124). -/
def execMpresFall (s : State) : Host.Outcome State Fault Refusal :=
  (let s1 := s.mapPins fun p => { p with mpres := false }
   if s.alive then s1.meterRemoved else s1).finish

end Sys2Proof.Machine
end

