-- ==== Sys2Proof/Machine/PeerCommands.lean ====
section
/-! DEFINITION. The coordination frames heard from peers (sections 7.2, 7.4, 7.6 and 7.7). -/

namespace Sys2Proof.Machine

/-- An owner takes a frame of a peer. A frame under the own address goes to the clash check (R95, R167), and one from no position,
or of the wrong form, is stray (R95). -/
def State.fromPeer (s : State) (x : BitVec 6) (form : Bool) (act : State → State) : State :=
  if !s.takesFrames then s
  else if x.toNat = s.sys.address then s.clash
  else if isPosition x && form then act s
  else s.stray

/-- The roster takes frames of this run (R105, R109). -/
def State.rosterOpen (s : State) (run : Half) : Bool := s.inRun run && s.rsq.runState.takesRoster

/-- ENROL from an address, during the window or the allowance (R110). -/
def State.hearEnrol (s : State) (x : Nat) : State :=
  if (s.rsq.enrolWindow.isSome || s.rsq.allowance.isSome) && (rosterAt s.rsq.roster x).status = .absent then
    s.mapEntry x fun e => { e with status := .enrolled }
  else s

/-- The run sequencer takes an ENROL (R105, R109). -/
def State.takeEnrol (s : State) (x : BitVec 6) (run : Half) : State := if s.rosterOpen run then s.hearEnrol x.toNat else s

/-- ENROL (R105, R109, R110). -/
def execEnrol (sender : BitVec 6) (run : Half) (s : State) : Host.Outcome State Fault Refusal :=
  (s.fromPeer sender true fun s => s.takeEnrol sender run).finish

/-- Does a DONE for a point show the bench ahead of the station (R115)? -/
def State.behindDone (s : State) (n : Nat) : Bool :=
  match s.rsq.runState with
  | .waitLoad => s.rsq.seq ≤ n
  | .settling | .measuring | .barrier | .paused => s.rsq.seq < n
  | _ => false

/-- DONE from an address: recorded, then tested (R114, R115). -/
def State.hearDone (s : State) (x n : Nat) (figure : Option Nat) : State :=
  let e := rosterAt s.rsq.roster x
  if e.status ≠ .enrolled then s.stray
  else
    let s1 := if e.reached n then s
      else s.mapEntry x fun e => { e with lastDone := some n, figure := figure, unheard := 0 }
    if s.behindDone n then s1.withdrawRun .outOfStep else if e.reached n then s1 else s1.testBarrier

/-- The run sequencer takes a DONE (R105, R109). -/
def State.takeDone (s : State) (x : BitVec 6) (run seq : Half) (figure : Option Word) : State :=
  if s.rosterOpen run then s.hearDone x.toNat seq.toNat (figure.map BitVec.toNat) else s

/-- DONE (R105, R109, R114 to R116). -/
def execDone (sender : BitVec 6) (run seq : Half) (mask : Byte) (figure : Option Word) (s : State) :
    Host.Outcome State Fault Refusal :=
  (s.fromPeer sender (Mask.ofCode mask.toNat).isSome fun s => s.takeDone sender run seq figure).finish

/-- The run sequencer takes a LAPSE (R105, R109). -/
def State.takeLapse (s : State) (run seq : Half) (addrs : BitVec 64) : State :=
  if s.rosterOpen run then s.applyLapse seq.toNat fun x => addrs.getLsbD x else s

/-- LAPSE (R105, R120, R121). -/
def execLapse (sender : BitVec 6) (run seq : Half) (addrs : BitVec 64) (s : State) : Host.Outcome State Fault Refusal :=
  (s.fromPeer sender (lapseSetOk addrs) fun s => s.takeLapse run seq addrs).finish

/-- WITHDRAW from an address (R122). -/
def State.hearWithdraw (s : State) (x : Nat) : State :=
  let e := rosterAt s.rsq.roster x
  if e.status = .enrolled ∨ e.status = .absent then
    (s.mapEntry x fun e => { e with status := .withdrawn }).testBarrier
  else s.testBarrier

/-- The run sequencer takes a WITHDRAW (R105, R109). The sequence number and reason are not kept. -/
def State.takeWithdraw (s : State) (x : BitVec 6) (run : Half) : State :=
  if s.rosterOpen run then s.hearWithdraw x.toNat else s

/-- WITHDRAW (R105, R109, R122). -/
def execWithdraw (sender : BitVec 6) (run _seq : Half) (_reason : Byte) (s : State) : Host.Outcome State Fault Refusal :=
  (s.fromPeer sender true fun s => s.takeWithdraw sender run).finish

end Sys2Proof.Machine
end

