-- ==== Sys2Proof/Machine/SealCommands.lean ====
section
/-! DEFINITION. The commands of the seal unit: claims and voids heard (section 9.2), the own claim's timer (R145, R146), the press
(R149), the reject marker (R67) and the lamps' flash (R66). -/

namespace Sys2Proof.Machine

/-- The seal unit takes frames of this run (R141). -/
def State.sealOpen (s : State) (run : Half) : Bool := s.inRun run && s.rsq.runState.takesSeal

/-- A stale claim is answered with a void, when the part has room for it (R141). -/
def State.answerStale (s : State) (x v : Nat) (run : Half) : State :=
  let s1 := s.raise .sealConflict
  if s.seu.voids.contains (x, v) then s1
  else if s.bli.coord.length < 6 ∧ s.bli.waiting = [] then
    (s1.offerCoord (.void run x v s.seu.watermark)).mapSeu fun u => { u with voids := joinVoid u.voids (x, v) }
  else s1

/-- SEAL CLAIM from an address (R141). -/
def State.hearClaim (s : State) (x v : Nat) (run : Half) : State :=
  if s.seu.watermark < v then s.mapSeu fun u => { u with watermark := v } else s.answerStale x v run

/-- The seal unit takes a SEAL CLAIM (R105). -/
def State.takeSealClaim (s : State) (x : BitVec 6) (run : Half) (serial : Word) : State :=
  if s.sealOpen run then s.hearClaim x.toNat serial.toNat run else s

/-- SEAL_CLAIM (R105, R141). -/
def execSealClaim (sender : BitVec 6) (run : Half) (serial : Word) (s : State) : Host.Outcome State Fault Refusal :=
  (s.fromPeer sender true fun s => s.takeSealClaim sender run serial).finish

/-- The open claim is voided: a new attempt, or the end of the sealing at the fourth (R146). -/
def State.claimVoided (s : State) : State :=
  let s1 := s.mapSeu fun u => { u with claim := { u.claim with confirm := none, serial := none } }
  if s.seu.claim.attempts < 4 then
    (s1.mapSeu fun u => { u with
      claim := { u.claim with state := .claimWait, attempts := u.claim.attempts + 1 } }).offerClaim
  else (s1.raise .sealFailed).endSealing .sealFailed

/-- A void that names the own address and a serial acts on the own claim by its state (R146). -/
def State.voidOwn (s : State) (v : Nat) : State :=
  let c := s.seu.claim
  match c.state with
  | .claimOpen => if c.serial = some v then s.claimVoided else s
  | .recording | .stroke | .sealDone => if c.confirmed ∧ c.serial = some v then s.raise .lateVoid else s
  | .none | .claimWait => s

/-- The watermark and the void-heard list after a void heard (R142). -/
def Seu.hearVoid (u : Seu) (x v h : Nat) : Seu :=
  { u with watermark := max u.watermark h, voids := if u.voids.contains (x, v) then u.voids else joinVoid u.voids (x, v) }

/-- The seal unit takes a SEAL VOID (R105, R142). -/
def State.takeSealVoid (s : State) (run : Half) (claimer : Byte) (serial watermark : Word) : State :=
  if s.sealOpen run then
    let s1 := s.mapSeu fun u => u.hearVoid claimer.toNat serial.toNat watermark.toNat
    if claimer.toNat = s.sys.address then s1.voidOwn serial.toNat else s1
  else s

/-- SEAL_VOID (R105, R142, R146). -/
def execSealVoid (sender : BitVec 6) (run : Half) (claimer : Byte) (serial watermark : Word) (s : State) :
    Host.Outcome State Fault Refusal :=
  (s.fromPeer sender true fun s => s.takeSealVoid run claimer serial watermark).finish

/-- The claim is confirmed, and the record of the run goes to the store at level SEALED (R145, R148). -/
def State.confirmClaim (s : State) : State :=
  let s1 := s.mapSeu fun u => { u with claim := { u.claim with state := .recording, confirmed := true, confirm := none } }
  s1.askStore (.write ⟨s1.runRecord (some .sealed) s1.seu.claim.serial, true, s1.seu.claim.slot⟩)

/-- CONFIRM_TIMER_EXPIRY (R145, R148), with the claim still open. -/
def execConfirmTimerExpiry (s : State) : Host.Outcome State Fault Refusal :=
  (if s.seu.claim.state = .claimOpen then s.confirmClaim else s).finish

/-- PRESS is driven in STROKE. -/
def State.stroking (s : State) : Bool := s.seu.claim.state = .stroke && s.seu.press

/-- STROKE_INACTIVE (R149). The pin's level is kept for the next entry to STROKE. -/
def execStrokeInactive (s : State) : Host.Outcome State Fault Refusal :=
  (let s1 := s.mapPins fun p => { p with stroke := false }
   if s.stroking then s1.mapSeu fun u => { u with seenInactive := true } else s1).finish

/-- STROKE_END (R149). -/
def execStrokeEnd (s : State) : Host.Outcome State Fault Refusal :=
  (let s1 := s.mapPins fun p => { p with stroke := true }
   if s.stroking && s.seu.seenInactive then
     (s1.mapSeu fun u => { u with press := false, strokeTimer := none }).askStore (.mark s.sealSlot .pressed true)
   else s1).finish

/-- STROKE_TIMER_EXPIRY (R149), while the stroke timer runs. -/
def execStrokeTimerExpiry (s : State) : Host.Outcome State Fault Refusal :=
  (if s.stroking && s.seu.strokeTimer.isSome then s.strokeFault
   else s.mapSeu fun u => { u with strokeTimer := none }).finish

/-- REJECT_PULSE_END (R67). -/
def execRejectPulseEnd (s : State) : Host.Outcome State Fault Refusal :=
  (s.mapSeu fun u => { u with reject := false, rejectTimer := none }).finish

/-- LAMP_FLASH_TOGGLE (R66), while a lamp flashes. -/
def execLampFlashToggle (s : State) : Host.Outcome State Fault Refusal :=
  (if s.seu.lamps.flashTimer.isSome then
    s.mapSeu fun u => { u with lamps := { u.lamps with
      flashLit := !u.lamps.flashLit, flashTimer := flashHalf (u.lamps.green, u.lamps.red, u.lamps.amber) } }
  else s).finish

end Sys2Proof.Machine
end

