-- ==== Sys2Proof/Machine/ReceiveCommands.lean ====
section
/-! DEFINITION. FRAME_RECEIVED: a frame's characters, its judgement, and its taking by its owner at its entry to the receive buffer (R94 to
R96). -/

namespace Sys2Proof.Machine

/-- The owner of a frame acts on what the frame brings (section 6.6). Every other command brings nothing here. -/
def State.owner (s : State) : Instr → State
  | .planPut payload => s.takePlanPut payload
  | .planTail run tail => s.takePlanTail run tail
  | .planClear => s.takePlanClear
  | .runOpen f present => s.takeRunOpen f present
  | .loadReady run seq desc => s.takeLoadReady run seq desc
  | .runAbort run => s.takeRunAbort run
  | .runClose run => s.takeRunClose run
  | .holdSet holds => s.setHolds (Holds.ofByte holds)
  | .eventClear clear mask => s.takeEventClear clear mask
  | .recordMark slot number => s.markRecord slot.toNat number.toNat
  | .storeWipe => s.wipeStore
  | .enrol x run => s.takeEnrol x run
  | .done x run seq _ figure => s.takeDone x run seq figure
  | .lapse _ run seq addrs => s.takeLapse run seq addrs
  | .withdraw x run _ _ => s.takeWithdraw x run
  | .sealClaim x run serial => s.takeSealClaim x run serial
  | .sealVoid _ run claimer serial watermark => s.takeSealVoid run claimer serial watermark
  | _ => s

/-- An accepted frame at the receive buffer (R96): a RESTART is taken in any case (R166), a frame that finds the buffer full is lost, a
request may have to wait, and any other frame is taken by its owner in the same event. DESIGN CHOICE (log entry 48): a frame passes a waiting
request of its own owner too, where R96 also says that frames of one owner are taken in their order of arrival. -/
def State.enterBuffer (s : State) (f : RxFrame) (present : Bool) : State :=
  if f.kind.toNat = kindRestart then s.takeRestart
  else if !s.bli.hasBufferRoom then s.bufferFrame f
  else if f.isRequest then s.takeRequest f
  else match frameCommand present f with
  | some c => s.owner c
  | none => s

/-- A frame received correctly is judged (R95): clash, then target, kind, sender and form. -/
def State.acceptFrame (s : State) (f : RxFrame) (present : Bool) : State :=
  let s1 := s.heard f
  if f.sender.toNat = s.sys.address then s1.clash
  else
    match s1.judgeFrame f with
    | .dropped => s1
    | .stray => s1.stray
    | .accepted => s1.enterBuffer f present

/-- FRAME_RECEIVED (R94 to R96, R166, R167), with what came off the line: a frame whose characters are in error ends as
FRAME_RECEIVE_ERROR does. -/
def execFrameReceived (r : Reception) (s : State) : Host.Outcome State Fault Refusal :=
  (if s.takesFrames then
    let s1 := s.see r.line
    match receiveFrame r.bytes with
    | .error _ => s1.receiveError
    | .good f => (s1.charactersEnded r.bytes 0).acceptFrame f r.meterPresent
  else s).finish

end Sys2Proof.Machine
end

