-- ==== Sys2Proof/Machine/ResetCommands.lean ====
section
/-! DEFINITION. The reset commands (R164 to R166). -/

namespace Sys2Proof.Machine

/-- POWER_ON_RESET (R164). -/
def execPowerOnReset (s : State) : Host.Outcome State Fault Refusal := (s.resetWith .powerOn).finish

/-- SUPPLY_DIP_RESET (R164). -/
def execSupplyDipReset (s : State) : Host.Outcome State Fault Refusal := (s.resetWith .supplyDip).finish

/-- RESET_PIN (R164). -/
def execResetPin (s : State) : Host.Outcome State Fault Refusal := (s.resetWith .resetPin).finish

/-- RESET_END (R159, R164, R165); it changes nothing in a part that is not in reset. -/
def execResetEnd (addr : BitVec 6) (rate : BitVec 2) (heard : List Heard) (s : State) : Host.Outcome State Fault Refusal :=
  (if s.sys.inReset then s.endReset addr rate heard else s).finish

/-- RESTART (R166). -/
def execRestart (s : State) : Host.Outcome State Fault Refusal := (if s.takesFrames then s.takeRestart else s).finish

end Sys2Proof.Machine
end

