-- ==== Sys2Proof/Machine/Dispatch.lean ====
section
/-! DEFINITION. One arm for each command of spec/opcode_table.json, in the table's order: the meaning of each. -/

namespace Sys2Proof.Machine

def exec (i : Instr) (s : State) : Host.Outcome State Fault Refusal :=
  match i with
  | .meterActiveEdge ch => Sys2Proof.Machine.execMeterActiveEdge ch s
  | .glitch ch => Sys2Proof.Machine.execGlitch ch s
  | .pulseAccepted ch => Sys2Proof.Machine.execPulseAccepted ch s
  | .referenceEdge input => Sys2Proof.Machine.execReferenceEdge input s
  | .zcEdge => Sys2Proof.Machine.execZcEdge s
  | .silenceTimerExpiry => Sys2Proof.Machine.execSilenceTimerExpiry s
  | .mpresFall => Sys2Proof.Machine.execMpresFall s
  | .strokeInactive => Sys2Proof.Machine.execStrokeInactive s
  | .strokeEnd => Sys2Proof.Machine.execStrokeEnd s
  | .powerOnReset => Sys2Proof.Machine.execPowerOnReset s
  | .supplyDipReset => Sys2Proof.Machine.execSupplyDipReset s
  | .resetPin => Sys2Proof.Machine.execResetPin s
  | .resetEnd addr rate heard => Sys2Proof.Machine.execResetEnd addr rate heard s
  | .enrolWindowExpiry => Sys2Proof.Machine.execEnrolWindowExpiry s
  | .lateEnrolAllowanceEnd => Sys2Proof.Machine.execLateEnrolAllowanceEnd s
  | .barrierTimerExpiry => Sys2Proof.Machine.execBarrierTimerExpiry s
  | .delayTimerExpiry => Sys2Proof.Machine.execDelayTimerExpiry s
  | .confirmTimerExpiry => Sys2Proof.Machine.execConfirmTimerExpiry s
  | .strokeTimerExpiry => Sys2Proof.Machine.execStrokeTimerExpiry s
  | .rejectPulseEnd => Sys2Proof.Machine.execRejectPulseEnd s
  | .lampFlashToggle => Sys2Proof.Machine.execLampFlashToggle s
  | .lineStuck since => Sys2Proof.Machine.execLineStuck since s
  | .stuckLineReleased => Sys2Proof.Machine.execStuckLineReleased s
  | .sendAttemptStart line => Sys2Proof.Machine.execSendAttemptStart line s
  | .frameSent => Sys2Proof.Machine.execFrameSent s
  | .lineLost => Sys2Proof.Machine.execLineLost s
  | .lineNotFollowing => Sys2Proof.Machine.execLineNotFollowing s
  | .frameReceiveError bad => Sys2Proof.Machine.execFrameReceiveError bad s
  | .frameReceived reception => Sys2Proof.Machine.execFrameReceived reception s
  | .planPut payload => Sys2Proof.Machine.execPlanPut payload s
  | .planTail run tail => Sys2Proof.Machine.execPlanTail run tail s
  | .planClear => Sys2Proof.Machine.execPlanClear s
  | .runOpen fields present => Sys2Proof.Machine.execRunOpen fields present s
  | .loadReady run seq desc => Sys2Proof.Machine.execLoadReady run seq desc s
  | .runAbort run => Sys2Proof.Machine.execRunAbort run s
  | .runClose run => Sys2Proof.Machine.execRunClose run s
  | .holdSet holds => Sys2Proof.Machine.execHoldSet holds s
  | .eventClear clear mask => Sys2Proof.Machine.execEventClear clear mask s
  | .statusAsk => Sys2Proof.Machine.execStatusAsk s
  | .recordAsk selector => Sys2Proof.Machine.execRecordAsk selector s
  | .recordMark slot number => Sys2Proof.Machine.execRecordMark slot number s
  | .storeWipe => Sys2Proof.Machine.execStoreWipe s
  | .storeSumAsk count => Sys2Proof.Machine.execStoreSumAsk count s
  | .restart => Sys2Proof.Machine.execRestart s
  | .enrol sender run => Sys2Proof.Machine.execEnrol sender run s
  | .done sender run seq mask figure => Sys2Proof.Machine.execDone sender run seq mask figure s
  | .lapse sender run seq addrs => Sys2Proof.Machine.execLapse sender run seq addrs s
  | .withdraw sender run seq reason => Sys2Proof.Machine.execWithdraw sender run seq reason s
  | .sealClaim sender run serial => Sys2Proof.Machine.execSealClaim sender run serial s
  | .sealVoid sender run claimer serial watermark => Sys2Proof.Machine.execSealVoid sender run claimer serial watermark s
  | .eraseEnd => Sys2Proof.Machine.execEraseEnd s
  | .contentStepEnd => Sys2Proof.Machine.execContentStepEnd s
  | .levelStepEnd => Sys2Proof.Machine.execLevelStepEnd s
  | .markEnd => Sys2Proof.Machine.execMarkEnd s
  | .wipeSlotErased => Sys2Proof.Machine.execWipeSlotErased s
  | .wipeEnd => Sys2Proof.Machine.execWipeEnd s
  | .meterInputReturn ch => Sys2Proof.Machine.execMeterInputReturn ch s

end Sys2Proof.Machine
end

