-- ==== Sys2Proof/Safety.lean ====
section
/-! DEFINITION. What a sound state is: the sizes of every table and queue (R68, R96, R98, R109, R131, R141, R153, R156), the lamps
(R65), the silence of a clashed station (R99), and the two chains that keep the record store and the press honest (R145, R153,
R155); and the words that several statements share. -/

namespace Sys2Proof.Machine

/-! ### Sizes -/

/-- Every table has its size, no queue holds more than the manual allows, and the receive buffer holds requests alone, while the reporting
part is full (R96). -/
structure State.Sized (s : State) : Prop where
  plan : s.plt.plan.length = 48
  roster : s.rsq.roster.length = 60
  slots : s.rst.slots.length = 32
  damaged : s.rst.damaged.length = 32
  coordination : s.bli.coord.length ≤ 6
  reporting : s.bli.report.length ≤ 4
  buffer : s.bli.buffer.length ≤ 4
  results : s.rrp.queue.length ≤ 16
  requests : s.rst.waiting.length ≤ 8
  voids : s.seu.voids.length ≤ 8
  requestsWait : ∀ f ∈ s.bli.buffer, f.isRequest = true ∧ s.bli.report.length = 4

/-! ### Lamps -/

/-- The lamps show what the first line of R65's table asks for. -/
def State.LampsFollow (s : State) : Prop := (s.seu.lamps.green, s.seu.lamps.red, s.seu.lamps.amber) = s.lampDrives

/-! ### The silence of a clashed station -/

/-- In CLASHED the station holds no frame to send, sends none, and stands in no point (R99, R167). -/
def State.Silenced (s : State) : Prop :=
  s.rsq.runState = .clashed → s.bli.coord = [] ∧ s.bli.report = [] ∧ s.bli.waiting = [] ∧ s.bli.attempt = none ∧
    s.rsq.phase = .none

/-! ### Sequence numbers -/

/-- A station in ENROLLING stands at sequence number 0 (R107, R116). -/
def State.SeqStarts (s : State) : Prop := s.rsq.runState = .enrolling → s.rsq.seq = 0

/-! ### The own roster entry -/

/-- The own entry of a station in ENROLLING is ABSENT or ENROLLED: no LAPSE is applied there, and no WITHDRAW comes under the own address
(R95, R107, R111, R120, R122). -/
def State.OwnEntryJoins (s : State) : Prop :=
  s.rsq.runState = .enrolling → s.ownEntry.status = .absent ∨ s.ownEntry.status = .enrolled

/-! ### The record store -/

/-- A slot that a write may take: EMPTY or carrying EXPORTED (R155). -/
def Slot.open (c : Slot) : Bool := c.isEmpty || c.exported

/-- A slot that nothing but STORE WIPE's own test protects: SEALED without EXPORTED (R153). -/
def Slot.guarded (c : Slot) : Bool := c.isSealed && !c.exported

/-- The slots that waiting writes of the seal unit name. -/
def Rst.waitingSlots (r : Rst) : List Nat :=
  r.waiting.filterMap fun
    | .write job => job.slot
    | .mark _ _ _ => none

/-- The slot of a record write in flight. -/
def Rst.writeSlot (r : Rst) : Option Nat := r.write.map Prod.fst

/-- The own claim holds its reserved slot: it has not yet handed its record to the store. -/
def Seu.holds (u : Seu) : Bool := u.claim.state = .claimWait || u.claim.state = .claimOpen

/-- What the store's operation in flight may stand on. -/
def State.OpSound (s : State) : Prop :=
  match s.rst.op with
  | some (.erase n _) => (s.slot n).open
  | some (.content n _ _) | some (.level n _) => (s.slot n).isEmpty
  | some (.wipe _) => ∀ c ∈ s.rst.slots, c.guarded = false
  | some (.mark _ _ _) | none => True

/-- The slots set aside for the seal unit's records are open, told apart, and no write in flight stands on one of another
request. -/
structure State.StoreSound (s : State) : Prop where
  op : s.OpSound
  reserved : ∀ n, s.rst.reservation = some n → (s.slot n).open
  waiting : ∀ n ∈ s.rst.waitingSlots, (s.slot n).open
  apart : s.rst.waitingSlots.Nodup
  writing : ∀ n, s.rst.writeSlot = some n → n ∉ s.rst.waitingSlots
  placed : ∀ n j, s.rst.write = some (n, j) → (∀ m, j.slot = some m → m = n) ∧ (s.rst.reservation = some n → j.slot = some n)
  claimed : s.seu.holds → ∃ n, s.seu.claim.slot = some n ∧ s.rst.reservation = some n ∧ n ∉ s.rst.waitingSlots ∧
    s.rst.writeSlot ≠ some n

/-! ### The press -/

/-- The jobs of record writes, in flight and waiting. -/
def Rst.jobs (r : Rst) : List WriteJob :=
  (r.write.map Prod.snd).toList ++
  r.waiting.filterMap fun
    | .write j => some j
    | .mark _ _ _ => none

/-- The marks that the seal unit asked for, in flight and waiting. -/
def Rst.sealMarks (r : Rst) : List Mark :=
  (match r.op with
   | some (.mark _ m true) => [m]
   | _ => []) ++
  r.waiting.filterMap fun
    | .mark _ m seu => if seu then some m else none
    | .write _ => none

/-- The own claim is under way: it has not yet given a seal outcome. -/
def ClaimState.underWay : ClaimState → Bool
  | .claimWait | .claimOpen | .recording | .stroke => true
  | .none | .sealDone => false

/-- The seal serial in a record's content (R154). -/
def serialIn (cells : List Byte) : Nat := field cells 8 4

/-- A SEALED record write stands for the own claim: confirmed, in RECORDING, with its serial and slot. -/
def State.Backs (s : State) (j : WriteJob) : Prop :=
  s.seu.claim.state = .recording ∧ s.seu.claim.confirmed ∧ s.seu.claim.serial.isSome ∧ s.seu.claim.slot.isSome ∧
    j.slot = s.seu.claim.slot ∧ j.record.serial = s.seu.claim.serial

/-- The write in flight is on the slot its job names, and carries its job's serial. -/
def State.OpCarries (s : State) : Prop :=
  match s.rst.op with
  | some (.erase n j) => j.sealed → j.slot = some n
  | some (.content n j cells) => j.sealed → j.slot = some n ∧ serialIn cells = (j.record.serial.getD 0) % 2 ^ 32
  | some (.level n j) => j.sealed → j.slot = some n ∧ serialIn (s.slot n).cells = (j.record.serial.getD 0) % 2 ^ 32
  | _ => True

/-- The chain from the claim to the press (R145, R148, R149), and the run states it stands in (R143, R167). -/
structure State.PressSound (s : State) : Prop where
  backed : ∀ j ∈ s.rst.jobs, j.sealed → s.Backs j
  single : (s.rst.jobs.filter fun j => j.sealed).length ≤ 1
  carries : s.OpCarries
  opened : s.seu.claim.state = .claimOpen → s.seu.claim.serial.isSome
  slotted : s.seu.holds → s.seu.claim.slot.isSome
  ranged : ∀ n, s.seu.claim.slot = some n → n < 32
  driven : s.seu.press → s.seu.claim.state = .stroke ∧ s.seu.claim.confirmed
  marked : s.rst.sealMarks ≠ [] → (s.seu.claim.state = .recording ∨ s.seu.claim.state = .stroke) ∧ s.seu.press = false ∧
    ∀ j ∈ s.rst.jobs, j.sealed = false
  once : s.rst.sealMarks.length ≤ 1
  engaged : s.seu.claim.state.underWay → s.rsq.runState = .sealing ∨ (s.rsq.runState = .clashed ∧ s.seu.holds = false)
  fresh : s.rsq.runState.inPoints ∨ s.rsq.runState = .enrolling → s.seu.claim.state = .none
  asked : s.rst.reserveAsked → s.rsq.runState = .sealing ∧ s.seu.claim.state = .none
  phased : s.rsq.phase = .settling ∨ s.rsq.phase = .measuring → s.rsq.runState = .settling ∨ s.rsq.runState = .measuring
  starting : s.sys.inReset → s.rsq.runState = .starting

/-! ### Words for the statements -/

/-- The quiet of the line in `t` is what the changes of the line since `s`, oldest first, leave of it (R91, R97): none on a dominant line,
else the time since the line last went recessive; and the 1 ms after a stuck stretch is over once the line has been recessive for it. -/
structure State.LineShown (s : State) (line : List LineEdge) (t : State) : Prop where
  still : line = [] → s.bli.low = false → t.bli.low = false ∧ t.bli.quiet = s.bli.quiet ∧ t.bli.afterStuck = s.bli.afterStuck
  dominant : ∀ before ago, line = before ++ [⟨true, ago⟩] → t.bli.low = true ∧ t.bli.quiet = 0
  recessive : ∀ before fell rose, line = before ++ [⟨true, fell⟩, ⟨false, rose⟩] → t.bli.low = false ∧ t.bli.quiet = rose
  released : ∀ rose, line = [⟨false, rose⟩] → s.bli.low = true →
    t.bli.low = false ∧ t.bli.quiet = rose ∧ t.bli.afterStuck = s.bli.afterStuck
  guarded : ∀ fell rest, line = ⟨true, fell⟩ :: rest → s.bli.low = false → guardTime + fell ≤ s.bli.quiet → t.bli.afterStuck = false
  broken : ∀ fell rose, line = [⟨true, fell⟩, ⟨false, rose⟩] → s.bli.low = false → s.bli.quiet < guardTime + fell →
    t.bli.afterStuck = s.bli.afterStuck

/-- The values each of the four resets leaves, over the cells of the store, the pins and the waiting commands (R1, R8, R12, R16, R18,
R35, R53, R60, R65, R67, R68, R94, R97 to R99, R104, R130, R135, R137 to R139, R153, R164). -/
structure State.ResetValues (t : State) (cause : ResetCause) : Prop where
  held : t.sys = ⟨true, cause, 0, .r125, ⟨false, false, false, false⟩⟩
  meters : ∀ ch, t.meter ch = ⟨.rising, 10, 20, none, false, none, 0⟩
  references : ∀ r, t.pfe.ref r = ⟨0, 1, 0, 4, 1⟩
  mains : t.pfe.zc = ⟨none, 0, false, 0, none⟩
  time : t.time = ⟨0, 0, 0⟩
  engines : ∀ ch, t.engine ch = ⟨.off, .none, 0, ⟨0, 0⟩, 0, 0, false, 0, none, ⟨0, 0, 0, 0, .rf0⟩⟩
  copy : t.ecu.copy = ⟨0, 0, .none, ⟨false, false⟩, 0, 0, ⟨0, 0⟩, 0, 0, 0, 0⟩
  accumulators : ∀ ch, t.ecu.acc.get ch = ⟨0, 0, none, none, false, false, 0⟩
  outcomes : ∀ ch, t.ecu.outcomes.get ch = none ∧ t.rsq.received.get ch = none
  dwells : ∀ ch, t.dwell ch = ⟨.off, 0, 0, none, .none, 0, 0⟩
  plan : t.plt = ⟨List.replicate 48 ⟨.none, 0, false, false, none, none, none, none⟩, 0, 0, false, 1, 0, none⟩
  state : t.rsq.runState = .starting ∧ t.rsq.phase = .none ∧ t.rsq.verdict = none
  point : t.rsq.run = none ∧ t.rsq.seq = 0 ∧ t.rsq.desc = 0 ∧ t.rsq.settle = 0
  roster : t.rsq.roster = List.replicate 60 ⟨.absent, none, none, 0⟩
  timers : t.rsq.enrolWindow = none ∧ t.rsq.allowance = none ∧ t.rsq.barrier = .stopped
  window : t.rsq.window = ⟨.none, ⟨0, 0⟩, 0, .rf0⟩ ∧ t.rsq.figure = none
  tally : t.rsq.tally = ⟨0, 0, 0, 0, 0, none, none⟩
  parts : t.bli.coord = [] ∧ t.bli.report = [] ∧ t.bli.waiting = [] ∧ t.bli.buffer = [] ∧ t.bli.attempt = none
  line : t.bli.stage.inFrame = false ∧ t.bli.w = 0 ∧ t.bli.stuck = false ∧ t.bli.afterStuck = false ∧ t.bli.low = false ∧
    t.bli.unseen = 0 ∧ t.bli.quiet = 0
  counts : t.bli.lineErrors = 0 ∧ t.bli.overruns = 0 ∧ t.bli.lost = 0 ∧ t.bli.strays = 0
  results : t.rrp = ⟨[], 4, 10, none, false, 0, 0, 0xE058, false, none⟩
  serials : t.seu.enable = false ∧ t.seu.block = none ∧ t.seu.watermark = 0 ∧ t.seu.strokeTimeout = 1 ∧ t.seu.voids = []
  claim : t.seu.claim = ⟨.none, none, false, 0, none, none⟩ ∧ t.seu.outcome = none ∧ t.seu.aborted = false
  outputs : t.seu.press = false ∧ t.seu.strokeTimer = none ∧ t.seu.reject = false ∧
    (t.seu.lamps.green, t.seu.lamps.red, t.seu.lamps.amber) = (.dark, .dark, .dark)
  store : t.rst.op = none ∧ t.rst.waiting = [] ∧ t.rst.reservation = none ∧ t.rst.damaged = List.replicate 32 false

/-- The oldest record among the slots of a sort: the one whose number lies furthest behind the last record number, counting back through
the wrap from 1 to 65,535 (R155); of two with one number, which R154 never gives, the lower slot. -/
def State.OldestAmong (s : State) (among : Nat → Prop) (n : Nat) : Prop :=
  let age (k : Nat) : Nat := (s.rst.lastRecord + 65535 - (s.slot k).number) % 65535
  n < 32 ∧ among n ∧ ∀ m, m < 32 → among m → m ≠ n → age m < age n ∨ (age m = age n ∧ n < m)

/-- A slot that a write without a reservation, or a reservation, may take (R155): EMPTY or carrying EXPORTED, held for no record of the
seal unit, waiting or in flight (log entry 44), and not under a write in flight (log entry 8). -/
def State.MayTake (s : State) (n : Nat) : Prop :=
  n < 32 ∧ ((s.slot n).isEmpty = true ∨ (s.slot n).exported = true) ∧ s.rst.reservation ≠ some n ∧
    (∀ m job, s.rst.write = some (m, job) → m ≠ n ∧ job.slot ≠ some n) ∧ ∀ job, .write job ∈ s.rst.waiting → job.slot ≠ some n

/-- The slot chosen is of the first class that holds a free one: EMPTY, DAMAGED with EXPORTED, each by lowest index, and the oldest exported
record (R155). -/
structure State.ChosenSlot (s : State) (chosen : Option Nat) : Prop where
  empty : ∀ n, s.MayTake n → (s.slot n).isEmpty = true → (∀ m, m < n → s.MayTake m → (s.slot m).isEmpty = false) → chosen = some n
  damaged : (∀ m, s.MayTake m → (s.slot m).isEmpty = false) → ∀ n, s.MayTake n → s.isDamaged n = true →
    (∀ m, m < n → s.MayTake m → s.isDamaged m = false) → chosen = some n
  oldest : (∀ m, s.MayTake m → (s.slot m).isEmpty = false ∧ s.isDamaged m = false) → ∀ n, s.OldestAmong s.MayTake n →
    chosen = some n
  full : (∀ m, ¬ s.MayTake m) → chosen = none

/-- The number a new record of a slot takes: the first after the last record number, 65,535 being followed by 1, that no other slot neither
EMPTY nor DAMAGED holds (R154). -/
def State.NumberFor (s : State) (n q : Nat) : Prop :=
  let after (q : Nat) : Nat := if q < 65535 then q + 1 else 1
  let held (q : Nat) : Prop := ∃ m, m < 32 ∧ m ≠ n ∧ (s.slot m).isEmpty = false ∧ s.isDamaged m = false ∧ (s.slot m).number = q
  let number (k : Nat) : Nat := after^[k + 1] s.rst.lastRecord
  ∃ k, q = number k ∧ ¬ held q ∧ ∀ j, j < k → held (number j)

/-- A record write begins on a slot, the rest of the store as it was (R154, R157): with its content step on a slot that is EMPTY with no
programmed content cell, which is one whose bytes are all 0 (log entry 51), whatever its marks (log entry 46), and with its erase on any
other. -/
structure State.WriteBegins (s : State) (n : Nat) (job : WriteJob) (t : State) : Prop where
  blank : (s.slot n).isEmpty = true → (∀ x ∈ (s.slot n).cells, x = 0) → ∃ q, s.NumberFor n q ∧ t.rst = { s.rst with
    op := some (.content n job (recordCells job.record q)), opTimer := some 8000, lastRecord := q }
  used : ¬ ((s.slot n).isEmpty = true ∧ ∀ x ∈ (s.slot n).cells, x = 0) →
    t.rst = { s.rst with op := some (.erase n job), opTimer := some 20000 }

/-- The slot that a record write takes as it begins: the one it is reserved for, or else the one that is chosen then (R157). -/
def State.WritesTo (s : State) (job : WriteJob) (n : Nat) : Prop := job.slot = some n ∨ job.slot = none ∧ s.chooseSlot = some n

/-- The requests that wait begin in an idle store (R156 to R158): none while none waits, else the head. A write takes its slot only then,
and without one raises STORE_FULL. A mark is programmed in 1 ms, but one programmed already is complete at once: on the seal unit's own,
in RECORDING or STROKE, the seal outcome is given, and a station in SEALING enters FINISHED. A head that takes no time makes way for the
next. -/
structure State.NextBegins (s : State) : Prop where
  idle : s.rst.waiting = [] → s.startNext = s
  write : ∀ job rest, s.rst.waiting = .write job :: rest →
    let u : State := s.mapRst fun r => { r with waiting := rest }
    (∀ n, u.WritesTo job n → u.WriteBegins n job s.startNext ∧ s.startNext = { u with rst := s.startNext.rst }) ∧
    (job.slot = none → u.chooseSlot = none → s.startNext = (u.raise .storeFull).startNext)
  mark : ∀ n m seu rest, s.rst.waiting = .mark n m seu :: rest →
    let u : State := s.mapRst fun r => { r with waiting := rest }
    let own := seu = true ∧ (s.seu.claim.state = .recording ∨ s.seu.claim.state = .stroke)
    ((s.slot n).hasMark m = false →
      s.startNext = u.mapRst fun r => { r with op := some (.mark n m seu), opTimer := some 1000 }) ∧
    ((s.slot n).hasMark m = true → ¬ own → s.startNext = u.startNext) ∧
    ((s.slot n).hasMark m = true → own → s.startNext = ((u.mapSeu fun c => { c with
      claim := { c.claim with state := .sealDone, confirm := none }
      outcome := some (if m = .pressed then .sealed else .pressFault) }).mapRsq fun q => { q with
        runState := if q.runState = .sealing then .finished else q.runState }).startNext)

/-- A record handed to the store (R156, R157): its write begins at once in an idle store, where one without a slot raises STORE_FULL and
writes nothing; it joins the tail of the requests that wait; and it is lost where 8 wait, with STORE_FULL and the end of its reservation. -/
structure State.HandsOver (s t : State) (job : WriteJob) : Prop where
  begins : s.rst.op = none → s.rst.waiting = [] → ∀ n, s.WritesTo job n → s.WriteBegins n job t
  full : s.rst.op = none → s.rst.waiting = [] → job.slot = none → s.chooseSlot = none →
    t.rst = s.rst ∧ Event.storeFull.isIn t.rrp.flags = true
  waits : s.rst.op ≠ none → s.rst.waiting.length < 8 → t.rst = { s.rst with waiting := s.rst.waiting ++ [.write job] }
  joins : s.rst.op = none → s.rst.waiting ≠ [] → s.rst.waiting.length < 8 →
    t.rst = (s.mapRst fun r => { r with waiting := r.waiting ++ [.write job] }).startNext.rst
  lost : 8 ≤ s.rst.waiting.length → Event.storeFull.isIn t.rrp.flags = true ∧ t.rst = { s.rst with
    reservation := if job.slot ≠ none ∧ s.rst.reservation = job.slot then none else s.rst.reservation }

/-- The record of a run for a write at level FILED, without a seal serial (R154, R157): the run sequencer's, or the seal unit's with its
seal outcome for its reserved slot (R147). -/
def State.filedJob (s : State) (run : Nat) (v : MeterVerdict) (o : Option SealOutcome) (slot : Option Nat) : WriteJob :=
  ⟨{ run := run, address := s.sys.address, verdict := v, outcome := o, serial := none, tally := s.rsq.tally }, false, slot⟩

/-- The record of a run that ends for the station without a verdict (R64, R157): INCOMPLETE, with no seal outcome and no slot of its own. -/
def State.incompleteJob (s : State) (run : Nat) : WriteJob := s.filedJob run .incomplete none none

/-- The reservation of a station in SEALING, and the claim after it (R143, R147, R155): STORE_FULL without a free slot; with one, it is
reserved and a claim offered, or the block is used up, and the record goes FILED with EXHAUSTED to it. -/
structure State.Reserves (s t : State) (run : Half) : Prop where
  full : s.chooseSlot = none → t.rst = s.rst ∧ t.rsq = { s.rsq with runState := .finished } ∧
    t.seu = { s.seu with claim := { s.seu.claim with state := .sealDone, confirm := none }, outcome := some .storeFull } ∧
    Event.storeFull.isIn t.rrp.flags = true
  claims : ∀ n s0 s1, s.chooseSlot = some n → s.seu.block = some (s0, s1) → s.seu.watermark + 1 ≤ s1 →
    t.rst = { s.rst with reservation := some n } ∧ t.rsq = s.rsq ∧
    t.seu = { s.seu with claim := { s.seu.claim with state := .claimWait, attempts := 1, slot := some n } } ∧
    t.bli.coord ++ t.bli.waiting = s.bli.coord ++ s.bli.waiting ++ [.claim run]
  exhausted : ∀ n, s.chooseSlot = some n → (∀ s0 s1, s.seu.block = some (s0, s1) → s1 < s.seu.watermark + 1) →
    t.rsq = { s.rsq with runState := .finished } ∧ t.bli.coord = s.bli.coord ∧ t.bli.waiting = s.bli.waiting ∧
    ∀ v, s.rsq.verdict = some v →
      (s.mapRst fun r => { r with reservation := some n }).HandsOver t (s.filedJob run.toNat v (some .exhausted) (some n))

/-- The entries of a RESULT: from the head of the queue, the most in order that are at most 4 and fit in 46 bytes (R133). -/
def TakesEntries (q : List Entry) (k : Nat) : Prop :=
  1 ≤ k ∧ k ≤ 4 ∧ k ≤ q.length ∧ ((q.take k).map Entry.size).sum ≤ 46 ∧
    (k = 4 ∨ k = q.length ∨ 46 < ((q.take (k + 1)).map Entry.size).sum)

/-- A RESULT of the entries at the head of `q` joins the reporting part, with the drop count, which becomes 0, and the call is spent (R132,
R133). -/
def State.FormsResult (s t : State) (q : List Entry) (drops : Nat) : Prop :=
  ∃ k, TakesEntries q k ∧ t.bli = { s.bli with report := s.bli.report ++ [.result drops (q.take k)] } ∧
    t.rrp.queue = q.drop k ∧ t.rrp.drops = 0 ∧ t.rrp.call = false

/-- An outcome record of an accuracy channel, as it follows from the point copy, the accumulator and the ending: the mean is the sum over
the kept count, rounded to the nearest integer with halves away from zero, and the spread the max less the min (R42); the outcome is the
first line of R43's table that applies. -/
structure OutcomeRecord.JudgedBy (r : OutcomeRecord) (c : PointCopy) (acc : Accumulator) (e : Ending) : Prop where
  counts : r.kept = acc.n ∧ r.glitchTotal = acc.glitchTotal
  unkept : acc.n = 0 → r.mean = none ∧ r.spread = none
  mean : acc.n ≠ 0 → ∃ m, r.mean = some m ∧ 2 * (acc.sum - m * (acc.n : Int)).natAbs ≤ acc.n ∧
    (2 * (acc.sum - m * (acc.n : Int)).natAbs = acc.n → acc.sum.natAbs ≤ (m * (acc.n : Int)).natAbs)
  spread : acc.n ≠ 0 → ∀ lo hi, acc.min = some lo → acc.max = some hi → r.spread = some (hi - lo).toNat
  timeout : e = .timeout → r.outcome = .invalidTimeout
  noref : e = .noref → r.outcome = .invalidNoref
  mains : e = .mains → r.outcome = .invalidMains
  held : e = .held → r.outcome = .invalidHeld
  double : e = .none → acc.doubleSeen = true → r.outcome = .invalidDouble
  saturatedLow : e = .none → acc.doubleSeen = false → acc.saturated = true → ∀ m, r.mean = some m → m < 0 → r.outcome = .failLow
  saturatedHigh : e = .none → acc.doubleSeen = false → acc.saturated = true → ∀ m, r.mean = some m → 0 ≤ m → r.outcome = .failHigh
  low : e = .none → acc.doubleSeen = false → acc.saturated = false → ∀ m, r.mean = some m → m < c.lower → r.outcome = .failLow
  high : e = .none → acc.doubleSeen = false → acc.saturated = false → ∀ m, r.mean = some m → c.lower ≤ m → c.upper < m →
    r.outcome = .failHigh
  wide : e = .none → acc.doubleSeen = false → acc.saturated = false → ∀ m d, r.mean = some m → r.spread = some d → c.lower ≤ m →
    m ≤ c.upper → c.spreadLimit ≠ 0 → c.spreadLimit < d → r.outcome = .failSpread
  pass : e = .none → acc.doubleSeen = false → acc.saturated = false → ∀ m d, r.mean = some m → r.spread = some d → c.lower ≤ m →
    m ≤ c.upper → c.spreadLimit = 0 ∨ d ≤ c.spreadLimit → r.outcome = .pass

/-- One channel of an accuracy point at the tally's worst point (R63): an outcome of the PASS or FAIL class with a mean takes its place if
there is none, or if its magnitude is strictly greater. -/
def Worst.After (w : Option Worst) (d : Nat) (ch : Channel) (r : Option OutcomeRecord) (w' : Option Worst) : Prop :=
  let takes (m : Int) : Prop := ∃ x, r = some x ∧ x.outcome.isInvalid = false ∧ x.mean = some m ∧
    ∀ old, w = some old → old.mean.natAbs < m.natAbs
  (∀ m, takes m → w' = some ⟨d, ch, m⟩) ∧ ((∀ m, ¬ takes m) → w' = w)

/-- The tally after a point has joined it (R63): each count one higher or as before, up to 65,535; the worst accuracy point over channel A
before channel B; the first failing descriptor. -/
structure Tally.Gains (old new : Tally) (d : Nat) (kind : Kind) (recs : PerChan (Option OutcomeRecord)) (v : PointVerdict)
    (dev : Deviation) : Prop where
  run : new.run = if old.run < 65535 then old.run + 1 else old.run
  passed : new.passed = if v = .pass ∧ old.passed < 65535 then old.passed + 1 else old.passed
  failed : new.failed = if v = .fail ∧ old.failed < 65535 then old.failed + 1 else old.failed
  invalid : new.invalid = if v = .invalid ∧ old.invalid < 65535 then old.invalid + 1 else old.invalid
  agreed : (∀ m x, dev ≠ .disagree m x) → new.disagree = old.disagree
  disagreed : ∀ m x, dev = .disagree m x → new.disagree = if old.disagree < 65535 then old.disagree + 1 else old.disagree
  worst : kind = .accuracy → ∃ w, Worst.After old.worst d .a recs.a w ∧ Worst.After w d .b recs.b new.worst
  kept : kind ≠ .accuracy → new.worst = old.worst
  firstFail : new.firstFail = if v = .fail ∧ old.firstFail = none then some d else old.firstFail

/-- What a barrier close hands on and adds (R49, R61 to R63): from the deviation and the records after it, the point entry goes to the
result reporter, after which events of the next step may still be raised, and the point joins the tally. -/
structure State.ClosesPoint (s t : State) : Prop where
  entry :
    let recs := afterDeviation s.deviation s.maskRecords
    let u := s.handEntry (.point { seq := s.rsq.seq, desc := s.rsq.desc, verdict := pointVerdict recs, mask := s.mask
                                   figure := s.rsq.figure, deviation := s.deviation, chans := recs })
    t.rrp = { u.rrp with flags := t.rrp.flags, statusDue := t.rrp.statusDue } ∧
      (∀ e : Event, e.isIn u.rrp.flags = true → e.isIn t.rrp.flags = true) ∧ t.bli.report.take u.bli.report.length = u.bli.report
  tally :
    let recs := afterDeviation s.deviation s.maskRecords
    s.rsq.tally.Gains t.rsq.tally s.rsq.desc s.current.kind recs (pointVerdict recs) s.deviation

/-- The classification of a slot by the start-up scan: the table of R159, its lines in order. -/
structure Slot.ScannedAs (c : Slot) (damaged : Bool) : Prop where
  empty : c.level1 = false → c.level2 = false → damaged = false
  second : c.level1 = false → c.level2 = true → damaged = true
  check : c.level1 = true → (frameCheck (c.cells.take 28)).toNat ≠ (c.cells.getD 28 0).toNat + 256 * (c.cells.getD 29 0).toNat →
    damaged = true
  serial : c.level1 = true → (frameCheck (c.cells.take 28)).toNat = (c.cells.getD 28 0).toNat + 256 * (c.cells.getD 29 0).toNat →
    (damaged = true ↔ (c.cells.getD 0 0).getLsbD 0 ≠ c.level2)

/-- The tests of take-up, each by the cause that it gives: the table of R76 and its table of ranges. The fields of a kind stand in
descriptors of that kind alone, and those of a channel in its mask alone (R69). -/
def Descriptor.Faults (d : Descriptor) (cyclic : Bool) : PlanCause → Prop
  | .empty => d.kind = .none
  | .stale => cyclic = false ∧ d.completed = true
  | .zeroGate => ∃ a, d.accuracy = some a ∧ ∃ ch g, a.chans.get ch = some g ∧ g.nm = 0
  | .discard => ∃ a, d.accuracy = some a ∧ a.repeats ≤ a.discard
  | .limits => ∃ a, d.accuracy = some a ∧ a.upper < a.lower
  | .range => 48 ≤ d.next ∨
      (∃ f, d.point = some f ∧ (f.tolerance = 0 ∨ f.barrier = 0 ∨
        ∃ ch i, f.inputs.get ch = some i ∧ (i.input ∉ [0, 1] ∨ i.prescaler ∉ [1, 2, 4, 8]))) ∨
      (∃ a, d.accuracy = some a ∧ (a.tg = 0 ∨ (∃ ch g, a.chans.get ch = some g ∧ g.k = 0) ∨ 16 < a.repeats ∨ 3 < a.discard ∨
        a.lower < -999999 ∨ 999999 < a.lower ∨ a.upper < -999999 ∨ 999999 < a.upper ∨ 999999 < a.spread)) ∨
      ∃ f, d.dwell = some f ∧ (f.length = 0 ∨ (d.kind = .creep ∧ 15 < f.number) ∨
        (d.kind = .start ∧ (f.number = 0 ∨ 15 < f.number)))

/-- The fields of a PLAN PUT payload's channels, A first (R102). -/
def PerChan.wire {α : Type} (p : PerChan (Option α)) (bytes : α → List Byte) : List Byte :=
  (p.a.map bytes).getD [] ++ (p.b.map bytes).getD []

/-- The PLAN PUT payload that carries a descriptor to an index (R101, R102); bits 1 to 7 of the flags are ignored. -/
def Descriptor.wire (d : Descriptor) (index : Nat) (flags : Byte) : List Byte :=
  leBytes 1 index ++ leBytes 1 (match d.kind with | .none => 0 | .accuracy => 1 | .creep => 2 | .start => 3) ++ leBytes 1 d.next ++ [flags]
    ++ (match d.point with
        | none => []
        | some f => leBytes 1 f.mask.code ++ leBytes 1 f.settle ++ leBytes 1 f.window ++ leBytes 2 f.tolerance ++ leBytes 2 f.barrier
            ++ f.inputs.wire fun i => leBytes 1 i.input ++ leBytes 1 i.prescaler)
    ++ (match d.accuracy with
        | none => []
        | some a => leBytes 2 a.tg ++ leBytes 1 a.repeats ++ leBytes 1 a.discard ++ leSigned 4 a.lower ++ leSigned 4 a.upper
            ++ leBytes 4 a.spread ++ a.chans.wire fun g => leBytes 2 g.nm ++ leBytes 4 g.k)
    ++ (match d.dwell with
        | none => []
        | some f => leBytes 2 f.length ++ leBytes 1 f.number)

/-- A descriptor that a PLAN PUT can carry: the fields that its kind and mask give it (R69), in their widths (R102), and not completed. -/
structure Descriptor.Carried (d : Descriptor) : Prop where
  fresh : d.completed = false ∧ d.completion = none ∧ d.next < 2 ^ 8
  fields : (d.point.isSome = true ↔ d.kind ≠ .none) ∧ (d.accuracy.isSome = true ↔ d.kind = .accuracy) ∧
    (d.dwell.isSome = true ↔ d.kind = .creep ∨ d.kind = .start)
  point : ∀ f, d.point = some f → f.mask.code ≠ 0 ∧ f.settle < 2 ^ 8 ∧ f.window < 2 ^ 8 ∧ f.tolerance < 2 ^ 16 ∧ f.barrier < 2 ^ 16 ∧
    ∀ ch, (f.inputs.get ch).isSome = f.mask.has ch ∧ ∀ i, f.inputs.get ch = some i → i.input < 2 ^ 8 ∧ i.prescaler < 2 ^ 8
  accuracy : ∀ f a, d.point = some f → d.accuracy = some a →
    a.tg < 2 ^ 16 ∧ a.repeats < 2 ^ 8 ∧ a.discard < 2 ^ 8 ∧ -(2 ^ 31) ≤ a.lower ∧ a.lower < 2 ^ 31 ∧ -(2 ^ 31) ≤ a.upper ∧
    a.upper < 2 ^ 31 ∧ a.spread < 2 ^ 32 ∧
    ∀ ch, (a.chans.get ch).isSome = f.mask.has ch ∧ ∀ g, a.chans.get ch = some g → g.nm < 2 ^ 16 ∧ g.k < 2 ^ 32
  dwell : ∀ f, d.dwell = some f → f.length < 2 ^ 16 ∧ f.number < 2 ^ 8

/-- The settings of a meter input (R1). -/
def MeterInput.settings (m : MeterInput) : EdgeKind × Nat × Nat := (m.edge, m.wg, m.wd)

/-- The settings of both meter inputs (R1). -/
def Pfe.settings (p : Pfe) : PerChan (EdgeKind × Nat × Nat) := ⟨p.meters.a.settings, p.meters.b.settings⟩

end Sys2Proof.Machine

namespace Sys2Proof

/-! ### The frames of the bench controller -/

open Machine in
/-- The kind code and the payload of the frame that brings a command of the bench controller (R100, R102). -/
def Instr.controllerFrame : Instr → Option (Nat × List Byte)
  | .planPut payload => some (1, payload)
  | .planTail run tail => some (2, leBytes 2 run.toNat ++ [tail])
  | .planClear => some (3, [])
  | .runOpen f _ => some (4, leBytes 2 f.run.toNat ++ [f.head, f.tail, f.flags, f.loops] ++ leBytes 4 f.s0.toNat ++ leBytes 4 f.s1.toNat
      ++ [f.window, f.maEdge, f.maWg, f.maWd, f.mbEdge, f.mbWg, f.mbWd, f.tq, f.td, f.stroke])
  | .loadReady run seq desc => some (5, leBytes 2 run.toNat ++ leBytes 2 seq.toNat ++ [desc])
  | .runAbort run => some (6, leBytes 2 run.toNat)
  | .runClose run => some (7, leBytes 2 run.toNat)
  | .holdSet holds => some (8, [holds])
  | .eventClear clear mask => some (9, leBytes 2 clear.toNat ++ leBytes 2 mask.toNat)
  | .statusAsk => some (10, [])
  | .recordAsk selector => some (11, [selector])
  | .recordMark slot number => some (12, [slot] ++ leBytes 2 number.toNat)
  | .storeWipe => some (13, [])
  | .storeSumAsk count => some (14, [count])
  | .restart => some (15, [])
  | _ => none

/-! ### Which commands write which items -/

/-- The command is of this sort, or it is FRAME_RECEIVED with a frame that brings one (R96). -/
def Instr.Brings (c : Instr) (sort : Instr → Prop) : Prop :=
  sort c ∨ ∃ bytes line present f b, c = .frameReceived ⟨bytes, line, present⟩ ∧ Machine.receiveFrame bytes = .good f ∧
    Machine.frameCommand present f = some b ∧ sort b

/-- The four resets (R164, R166). -/
def Instr.MayReset (c : Instr) : Prop :=
  c.Brings fun c => c = .powerOnReset ∨ c = .supplyDipReset ∨ c = .resetPin ∨ c = .restart

/-- RUN OPEN (R107). -/
def Instr.Opens (c : Instr) : Prop := c.Brings fun c => ∃ f present, c = .runOpen f present

/-- LOAD READY (R112). -/
def Instr.Loads (c : Instr) : Prop := c.Brings fun c => ∃ run n d, c = .loadReady run n d

/-- HOLD SET (R168). -/
def Instr.Holds (c : Instr) : Prop := c.Brings fun c => ∃ h, c = .holdSet h

/-- PLAN CLEAR (R73). -/
def Instr.Clears (c : Instr) : Prop := c.Brings fun c => c = .planClear

/-- EVENT CLEAR (R136). -/
def Instr.SetsMask (c : Instr) : Prop := c.Brings fun c => ∃ x m, c = .eventClear x m

/-- RESET_END (R165). -/
def Instr.EndsReset (c : Instr) : Prop := ∃ addr rate heard, c = .resetEnd addr rate heard

/-- The commands of the meter inputs and the mains timing, at which gates and dwells move (chapters 1 and 2). -/
def Instr.Measures (c : Instr) : Prop :=
  (∃ ch, c = .meterActiveEdge ch ∨ c = .glitch ch ∨ c = .pulseAccepted ch ∨ c = .meterInputReturn ch) ∨ c = .zcEdge ∨
    c = .silenceTimerExpiry

/-- The ends of the record store's operations (R157, R158, R162). -/
def Instr.EndsStoreOp (c : Instr) : Prop :=
  c = .eraseEnd ∨ c = .contentStepEnd ∨ c = .levelStepEnd ∨ c = .markEnd ∨ c = .wipeSlotErased ∨ c = .wipeEnd

/-- The commands at which a barrier may close (R116, R118). -/
def Instr.MayClose (c : Instr) : Prop :=
  c = .frameSent ∨ c.Loads ∨ c.Brings fun c => (∃ x run n mask fig, c = .done x run n mask fig) ∨
    (∃ x run n addrs, c = .lapse x run n addrs) ∨ ∃ x run n reason, c = .withdraw x run n reason

/-- The commands at which the station may take up a descriptor, and find a fault in it (R75). -/
def Instr.MayTakeUp (c : Instr) : Prop :=
  c.MayClose ∨ c = .enrolWindowExpiry ∨ c.Brings fun c => (∃ p, c = .planPut p) ∨ ∃ run tail, c = .planTail run tail

/-- SEAL CLAIM and SEAL VOID heard from a peer (R141, R142). -/
def Instr.HearsSerial (c : Instr) : Prop :=
  c.Brings fun c => (∃ x run v, c = .sealClaim x run v) ∨ ∃ x run a v h, c = .sealVoid x run a v h

/-- The run frames of the bench controller and of peers, which a station in FAULTED leaves without effect (R78): each under a position
address that is not the own one, and of the right form. -/
inductive IgnoredInFaulted (own : Nat) : Instr → Prop where
  | loadReady (run seq : Half) (desc : Byte) : IgnoredInFaulted own (.loadReady run seq desc)
  | runAbort (run : Half) : IgnoredInFaulted own (.runAbort run)
  | runClose (run : Half) : IgnoredInFaulted own (.runClose run)
  | planTail (run : Half) (tail : Byte) (h : tail.toNat < 48) : IgnoredInFaulted own (.planTail run tail)
  | enrol (x : BitVec 6) (run : Half) (h : 1 ≤ x.toNat ∧ x.toNat ≤ 60 ∧ x.toNat ≠ own) : IgnoredInFaulted own (.enrol x run)
  | done (x : BitVec 6) (run seq : Half) (mask : Byte) (figure : Option Word)
      (h : 1 ≤ x.toNat ∧ x.toNat ≤ 60 ∧ x.toNat ≠ own) (hm : (Machine.Mask.ofCode mask.toNat).isSome = true) :
      IgnoredInFaulted own (.done x run seq mask figure)
  | lapse (x : BitVec 6) (run seq : Half) (addrs : BitVec 64) (h : 1 ≤ x.toNat ∧ x.toNat ≤ 60 ∧ x.toNat ≠ own)
      (hs : Machine.lapseSetOk addrs = true) : IgnoredInFaulted own (.lapse x run seq addrs)
  | withdraw (x : BitVec 6) (run seq : Half) (reason : Byte) (h : 1 ≤ x.toNat ∧ x.toNat ≤ 60 ∧ x.toNat ≠ own) :
      IgnoredInFaulted own (.withdraw x run seq reason)
  | sealClaim (x : BitVec 6) (run : Half) (serial : Word) (h : 1 ≤ x.toNat ∧ x.toNat ≤ 60 ∧ x.toNat ≠ own) :
      IgnoredInFaulted own (.sealClaim x run serial)
  | sealVoid (x : BitVec 6) (run : Half) (claimer : Byte) (serial watermark : Word)
      (h : 1 ≤ x.toNat ∧ x.toNat ≤ 60 ∧ x.toNat ≠ own) : IgnoredInFaulted own (.sealVoid x run claimer serial watermark)

open Machine in
/-- What a command that does not write an item leaves of it, item by item; a reset writes nearly all. -/
structure Instr.LeavesTheRest (c : Instr) (s t : State) : Prop where
  pending : t.pending = s.pending
  pins : ¬ c.Opens → c ≠ .mpresFall → c ≠ .strokeInactive → c ≠ .strokeEnd → t.pins = s.pins
  time : ¬ c.MayReset → t.time = s.time
  counters : ¬ c.MayReset → ∀ r, c ≠ .referenceEdge r → (t.pfe.ref r).counter = (s.pfe.ref r).counter
  prescalers : ¬ c.MayReset → ¬ c.Loads → ∀ r, (t.pfe.ref r).prescaler = (s.pfe.ref r).prescaler
  mains : ¬ c.MayReset → c ≠ .zcEdge → c ≠ .silenceTimerExpiry → t.pfe.zc = s.pfe.zc
  inputs : ¬ c.MayReset → ¬ c.Opens → t.pfe.settings = s.pfe.settings
  sums : ¬ c.MayReset → ¬ c.Measures → ¬ c.Loads → t.ecu.acc = s.ecu.acc ∧ t.ecu.copy = s.ecu.copy
  outcomes : ¬ c.MayReset → ¬ c.Measures → ¬ c.Loads → ¬ c.Holds → t.ecu.outcomes = s.ecu.outcomes
  plan : ¬ c.MayReset → ¬ c.MayTakeUp → ¬ c.Opens → ¬ c.Clears → t.plt = s.plt
  point : ¬ c.MayReset → ¬ c.MayTakeUp → ¬ c.Opens → t.rsq.seq = s.rsq.seq ∧ t.rsq.desc = s.rsq.desc
  run : ¬ c.MayReset → ¬ c.Opens → t.rsq.run = s.rsq.run
  tally : ¬ c.MayReset → ¬ c.MayClose → ¬ c.Opens → t.rsq.tally = s.rsq.tally
  station : ¬ c.MayReset → ¬ c.EndsReset → ¬ c.Holds → t.sys = s.sys
  mask : ¬ c.MayReset → ¬ c.SetsMask → t.rrp.mask = s.rrp.mask
  thresholds : ¬ c.MayReset → ¬ c.Opens → t.rrp.tq = s.rrp.tq ∧ t.rrp.td = s.rrp.td
  lastSender : ¬ c.MayReset → ¬ c.EndsReset → c ≠ .frameSent → (∀ r, c ≠ .frameReceived r) →
    t.bli.w = s.bli.w
  lost : ¬ c.MayReset → c ≠ .lineLost → t.bli.lost = s.bli.lost
  block : ¬ c.MayReset → ¬ c.Opens →
    t.seu.enable = s.seu.enable ∧ t.seu.block = s.seu.block ∧ t.seu.strokeTimeout = s.seu.strokeTimeout
  watermark : ¬ c.MayReset → ¬ c.Opens → ¬ c.HearsSerial → c ≠ .frameSent → t.seu.watermark = s.seu.watermark
  voids : ¬ c.MayReset → ¬ c.Opens → ¬ c.HearsSerial → t.seu.voids = s.seu.voids
  press : ¬ c.MayReset → ¬ c.Holds → c ≠ .levelStepEnd → c ≠ .strokeEnd → c ≠ .strokeTimerExpiry → t.seu.press = s.seu.press
  reject : ¬ c.MayReset → ¬ c.MayClose → c ≠ .rejectPulseEnd → t.seu.reject = s.seu.reject
  cells : ¬ c.MayReset → ¬ c.EndsStoreOp → t.rst.slots = s.rst.slots
  damaged : ¬ c.MayReset → ¬ c.EndsStoreOp → ¬ c.EndsReset → t.rst.damaged = s.rst.damaged

end Sys2Proof
end

