-- ==== Sys2Proof/WellFormed.lean ====
section
/-! DEFINITION. Which commands a well-behaved bench can send: the addresses, indices and codes that chapter 6 allows in each frame.
A command outside these still has its meaning: its frame is stray (R95, R100). -/

namespace Sys2Proof

/-- The address that a peer's frame comes from. -/
def Instr.sender : Instr → Option (BitVec 6)
  | .enrol x _ | .done x _ _ _ _ | .lapse x _ _ _ | .withdraw x _ _ _ | .sealClaim x _ _ | .sealVoid x _ _ _ _ => some x
  | _ => none

open Machine in
/-- The operands lie where the frame catalogue puts them (R84, R100, R102, R103). -/
def Instr.wf : Instr → Bool
  | .meterActiveEdge _ | .glitch _ | .pulseAccepted _ | .meterInputReturn _ | .referenceEdge _ => true
  | .zcEdge | .silenceTimerExpiry | .mpresFall | .strokeInactive | .strokeEnd => true
  | .powerOnReset | .supplyDipReset | .resetPin | .resetEnd _ _ _ | .restart => true
  | .enrolWindowExpiry | .lateEnrolAllowanceEnd | .barrierTimerExpiry | .delayTimerExpiry | .confirmTimerExpiry => true
  | .strokeTimerExpiry | .rejectPulseEnd | .lampFlashToggle => true
  | .lineStuck _ | .stuckLineReleased | .sendAttemptStart _ | .frameSent | .lineLost | .lineNotFollowing => true
  | .frameReceiveError _ | .frameReceived _ => true
  | .planPut payload => payload.length ≤ 48
  | .planTail _ tail => tail.toNat < 48
  | .planClear | .runOpen _ _ | .loadReady _ _ _ | .runAbort _ | .runClose _ | .holdSet _ | .eventClear _ _ => true
  | .statusAsk | .storeWipe => true
  | .recordAsk selector => selector.toNat < 32 || selector = 255
  | .recordMark slot _ => slot.toNat < 32
  | .storeSumAsk count => count.toNat ≤ 32
  | .enrol sender _ | .withdraw sender _ _ _ | .sealClaim sender _ _ | .sealVoid sender _ _ _ _ => isPosition sender
  | .done sender _ _ mask _ => isPosition sender && (Mask.ofCode mask.toNat).isSome
  | .lapse sender _ _ addrs => isPosition sender && lapseSetOk addrs
  | .eraseEnd | .contentStepEnd | .levelStepEnd | .markEnd | .wipeSlotErased | .wipeEnd => true

end Sys2Proof
end

