-- ==== Sys2Proof/Certificates/Slice0/Obligations.lean ====
section
/-! DEFINITION. The statements for the provers, each a proposition over every state that meets its premises. A premise
State.LampsFollow says that the lamps already show what R65 asks for, so that a command that changes no lamp leaves them; a
premise State.Sized says that the tables have their sizes. Both hold from reset and are kept by every step, which statements of
their own say. -/

open Sys2Proof Sys2Proof.Machine

/-! ### One step -/

/-- A step takes the command at the front of the queue and runs it with the queue's rest. -/
def Obligations.StepRunsTheFrontCommand : Prop :=
  ∀ (c : Instr) (s : State) (rest : List Instr), s.pending = c :: rest → step s = exec c { s with pending := rest }

/-- With no command waiting, no timer due and no wait of an own frame over, an idle step is one CLK8 period: the reference inputs grow
older; every eighth period is a 1 µs tick, at which the time counter, the quiet count and the timers of µs and ms advance; every 10,000th of
those is a 10 ms tick, at which the timers of frame fields do; nothing else changes (R11, R16, R17, R91). That the part ticks on an empty
queue is the model's choice (log entry 1), and so are the ages of the reference inputs in CLK8 periods (log entry 12) and the quiet count in
µs, which runs on a recessive line while no own frame, no stuck stretch and no frame that won over an own one is on it (log entry 13); on a
low line the time since it last showed advances in its place (log entry 1). -/
def Obligations.IdleStepIsOneClockPeriod : Prop :=
  ∀ s : State, s.pending = [] → s.sys.inReset = false → s.dueCommand = none →
    let older (x : RefInput) : RefInput :=
      { x with sinceRaw := 1, sinceAdvance := if x.sinceAdvance < 4 then x.sinceAdvance + 1 else 4 }
    let down (timer : Option Nat) : Option Nat := timer.map (· - 1)
    let aged : Pfe := { s.pfe with rf0 := older s.pfe.rf0, rf1 := older s.pfe.rf1 }
    let quiet := s.bli.attempt = none ∧ s.bli.stuck = false ∧ s.bli.stage.inFrame = false
    let micro : State := { s with
      pfe := { aged with zc := { s.pfe.zc with silence := down s.pfe.zc.silence } }
      time := ⟨0, s.time.counter + 1, s.time.phase + 1⟩
      rsq := { s.rsq with allowance := down s.rsq.allowance }
      bli := { s.bli with
        quiet := if quiet ∧ s.bli.low = false then s.bli.quiet + 1 else s.bli.quiet
        unseen := if quiet ∧ s.bli.low = true then s.bli.unseen + 1 else s.bli.unseen }
      rst := { s.rst with opTimer := down s.rst.opTimer }
      seu := { s.seu with
        claim := { s.seu.claim with confirm := down s.seu.claim.confirm }
        rejectTimer := down s.seu.rejectTimer
        lamps := { s.seu.lamps with flashTimer := down s.seu.lamps.flashTimer } } }
    (s.time.clk + 1 < 8 → step s = .next { s with pfe := aged, time := { s.time with clk := s.time.clk + 1 } }) ∧
    (8 ≤ s.time.clk + 1 → s.time.phase + 1 < 10000 → step s = .next micro) ∧
    (8 ≤ s.time.clk + 1 → 10000 ≤ s.time.phase + 1 → step s = .next { micro with
      time := ⟨0, s.time.counter + 1, 0⟩
      rsq := { micro.rsq with
        enrolWindow := down s.rsq.enrolWindow
        barrier := match s.rsq.barrier with | .running n => .running (n - 1) | b => b }
      rrp := { s.rrp with delay := down s.rrp.delay }
      seu := { micro.seu with strokeTimer := down s.seu.strokeTimer } })

/-! ### Resets and start-up (sections 11.1 and 10.3) -/

/-- The four resets leave the values of ResetValues: those the manual states, and the model's where it states none (address 0 and 125
kbit/s, log entry 4; the ages of the reference inputs, log entry 12; the meter input's level, the reference input of an engine and of the
window, the kinds and the mask in the copies, the delay's call, the abort taken, the line's level and the time after a stuck stretch, log
entry 35). They keep the last record number, the pins (log entry 3), the waiting commands (log entry 10) and, with no operation in flight,
every cell (R164). -/
def Obligations.ResetsLeaveTheStatedValues : Prop :=
  ∀ (s : State) (c : Instr) (cause : ResetCause),
    (c, cause) ∈ [(.powerOnReset, .powerOn), (.supplyDipReset, .supplyDip), (.resetPin, .resetPin)] ∨
      (c = .restart ∧ s.takesFrames = true ∧
        cause = if s.rsq.runState = .clashed then .restartClashed else .restart) →
    ∃ t, exec c s = .next t ∧ t.ResetValues cause ∧ t.rst.lastRecord = s.rst.lastRecord ∧
      (s.rst.op = none → t.rst.slots = s.rst.slots) ∧ t.pins = s.pins ∧ t.pending = s.pending

/-- RESET_END reads the straps. With valid ones the station ends in IDLE, with the store scanned by the table of R159 and HELLO at the head
of the reporting part, before a STATUS. Of the frames heard meanwhile w takes the last good one's sender; every one is discarded: none
clashes, enters the receive buffer or is taken by an owner, and only errors and strays are counted (R94, R95, R99). With a strap error it is
in STRAP_ERROR, with its line interface and its store as they were (R159, R165). That what was heard in start-up comes with the command is
the model's choice (log entry 13), and so is that no edge of an input falls in it (log entry 47). -/
def Obligations.ResetEndReadsTheStraps : Prop :=
  (∀ c : Slot, c.ScannedAs c.scanDamaged) ∧
  ∀ (s : State) (addr : BitVec 6) (rate : BitVec 2) (heard : List Heard), s.sys.inReset = true →
    let frames := heard.filterMap fun h => match h with
      | .frame bytes _ _ => (match receiveFrame bytes with | .good f => some f | .error _ => none)
      | .error _ => none
    let stray (f : RxFrame) : Bool :=
      let k := f.kind.toNat
      let sent := (f.sender = 0 ∧ 1 ≤ k ∧ k ≤ 15) ∨ (1 ≤ f.sender.toNat ∧ f.sender.toNat ≤ 60 ∧ 32 ≤ k ∧ k ≤ 42)
      f.sender ≠ addr ∧ (f.target = addr ∨ f.target = 63) ∧ ¬ (sent ∧ (k = 32 ∨ 39 ≤ k ∨ formFits k f.payload = true))
    (s.rsq.runState = .starting → s.bli.report = [] → 1 ≤ addr.toNat → addr.toNat ≤ 60 → rate.toNat < 3 →
      ∃ t, exec (.resetEnd addr rate heard) s = .next t ∧ t.rsq = { s.rsq with runState := .idle } ∧ t.sys.inReset = false ∧
        t.sys.address = addr.toNat ∧
        t.sys.rate = (if rate = 0 then .r125 else if rate = 1 then .r250 else .r500) ∧
        t.sys.cause = s.sys.cause ∧ t.rst = { s.rst with damaged := s.rst.slots.map Slot.scanDamaged } ∧
        t.bli.report.head? = some (.hello s.sys.cause.code t.freeCount (t.damagedCount 32) s.rst.lastRecord) ∧
        (∀ f ∈ t.bli.report.tail, f = .status) ∧
        (Event.storeDamaged.isIn t.rrp.flags = true ↔
          Event.storeDamaged.isIn s.rrp.flags = true ∨ ∃ c ∈ s.rst.slots, c.scanDamaged = true ∧ c.exported = false) ∧
        (Event.addressClash.isIn t.rrp.flags = true ↔
          Event.addressClash.isIn s.rrp.flags = true ∨ s.sys.cause = .restartClashed) ∧
        t.bli.w = ((frames.map RxFrame.sender).getLast?).getD s.bli.w ∧
        t.bli.buffer = s.bli.buffer ∧ t.bli.coord = s.bli.coord ∧ t.bli.waiting = s.bli.waiting ∧
        t.bli.overruns = s.bli.overruns ∧ t.bli.lost = s.bli.lost ∧
        (s.bli.strays ≤ 65535 → t.bli.strays = min 65535 (s.bli.strays + (frames.filter stray).length)) ∧
        (s.bli.lineErrors ≤ 65535 → t.bli.lineErrors = min 65535 (s.bli.lineErrors + (heard.length - frames.length))) ∧
        t.plt = s.plt ∧ t.pfe = s.pfe ∧ t.gates = s.gates ∧ t.ecu = s.ecu) ∧
    (addr.toNat = 0 ∨ 60 < addr.toNat ∨ rate.toNat = 3 →
      ∃ t, exec (.resetEnd addr rate heard) s = .next t ∧ t.rsq.runState = .strapError ∧ t.sys.inReset = false ∧
        t.bli = s.bli ∧ t.rst = s.rst ∧ t.rrp = s.rrp ∧
        (t.seu.lamps.green, t.seu.lamps.red, t.seu.lamps.amber) = (.dark, .dark, .flash2))

/-! ### Pulse inputs and gates (chapters 1 and 2, section 4.2) -/

/-- On a live input that is back at its earlier level an active edge begins a pending pulse, with the time stamp and the snapshot of the
reference counter its channel names, and on any other it changes nothing; a glitch is dropped and counted up to 255, with the time of the
last accepted edge kept, and a mains cycle held behind it is then taken; the return after an accepted pulse frees the input (R2 to R4, R27,
R28, R57). That the command itself says how long the pulse stood is the model's choice (log entry 9). -/
def Obligations.MeterPulseBeginsAndIsDropped : Prop :=
  ∀ (ch : Channel) (s : State), s.LampsFollow →
    let dropped : State := s.mapMeter ch fun m => { m with
      pulse := none, glitches := if m.glitches < 255 then m.glitches + 1 else m.glitches }
    let ended (o : ChanOutcome) : Prop := ∃ t r, exec (.glitch ch) s = .next t ∧ t.ecu.outcomes.get ch = some r ∧ r.outcome = o
    (s.alive = true → s.live ch = true → (s.meter ch).pulse = none → (s.meter ch).active = false →
      exec (.meterActiveEdge ch) s = .next (s.mapMeter ch fun m => { m with
        pulse := some ⟨s.time.counter, ⟨(s.pfe.ref (s.inputOf ch)).counter, (s.pfe.ref (s.inputOf ch)).prescaler⟩⟩ })) ∧
    (s.live ch = false ∨ (s.meter ch).pulse ≠ none ∨ (s.meter ch).active = true →
      exec (.meterActiveEdge ch) s = .next s) ∧
    (s.alive = true → s.live ch = true → (s.meter ch).pulse ≠ none →
      (s.heldStamp ch = none → exec (.glitch ch) s = .next dropped) ∧
      (∀ c, (s.engine ch).held = some c → (s.engine ch).runs = true →
        ((s.engine ch).timeout + 1 ≠ (s.engine ch).params.tg → exec (.glitch ch) s = .next (dropped.mapEngine ch fun g =>
          { g with held := none, timeout := g.timeout + 1 })) ∧
        ((s.engine ch).timeout + 1 = (s.engine ch).params.tg → ended .invalidTimeout)) ∧
      (∀ c, (s.engine ch).held = none → (s.dwell ch).held = some c → (s.dwell ch).state = .counting →
        ((s.dwell ch).cycles + 1 ≠ (s.dwell ch).length → exec (.glitch ch) s = .next (dropped.mapDwell ch fun d =>
          { d with held := none, cycles := d.cycles + 1 })) ∧
        ((s.dwell ch).cycles + 1 = (s.dwell ch).length → ended (if (s.dwell ch).kind = .creep then .pass else .failStart)))) ∧
    (s.alive = true → s.live ch = true → (s.meter ch).pulse = none →
      exec (.meterInputReturn ch) s = .next (s.mapMeter ch fun m => { m with active := false }))

/-- The first accepted edge in ARMED opens gate 1 at its stamp and snapshot, and clears the glitch count. In an open gate an edge less than
Wd × 100 µs after the last accepted edge marks the gate and is not counted; one exactly that far, or farther, is counted (R4, R5, R20 to
R22). A mains cycle held behind the pulse is taken too, in the order of the stamps: before the edge that opens gate 1, whose timeout
count then is 0, or after it, where it is the first cycle of gate 1; beside an edge that marks or counts either order gives the same. The
cycle that brings the timeout count to Tg ends the channel with INVALID_TIMEOUT (R27, R28). That the earlier of two stamps is the one behind
by less than half a wrap is the model's reading (log entry 14). -/
def Obligations.AcceptedEdgesOpenAndCount : Prop :=
  ∀ (ch : Channel) (s : State) (p : Pulse), s.alive = true → (s.meter ch).pulse = some p →
    let kept (t : State) : Prop := t.ecu = s.ecu ∧ t.rsq = s.rsq ∧ t.plt = s.plt ∧ t.rrp = s.rrp ∧ t.bli = s.bli ∧ t.rst = s.rst
    let opened (cycles : Nat) : Prop := ∃ t, exec (.pulseAccepted ch) s = .next t ∧ kept t ∧
      t.engine ch = { s.engine ch with
        state := .open, gate := 1, latch := p.snap, start := p.stamp, edges := 0, double := false, timeout := cycles, held := none } ∧
      t.meter ch = { s.meter ch with pulse := none, active := true, lastEdge := some p.stamp, glitches := 0 }
    let timedOut : Prop := ∃ t r, exec (.pulseAccepted ch) s = .next t ∧ (t.engine ch).runs = false ∧ t.ecu.acc = s.ecu.acc ∧
      t.ecu.outcomes.get ch = some r ∧ r.outcome = .invalidTimeout
    ((s.engine ch).state = .armed →
      (s.heldStamp ch = none → opened 0) ∧
      ∀ c, (s.engine ch).held = some c → (s.dwell ch).state ≠ .counting →
        (c ≠ p.stamp ∧ (p.stamp - c).toNat < 2 ^ 31 →
          ((s.engine ch).timeout + 1 ≠ (s.engine ch).params.tg → opened 0) ∧
          ((s.engine ch).timeout + 1 = (s.engine ch).params.tg → timedOut)) ∧
        (c = p.stamp ∨ 2 ^ 31 ≤ (p.stamp - c).toNat →
          ((s.engine ch).params.tg ≠ 1 → opened 1) ∧ ((s.engine ch).params.tg = 1 → timedOut))) ∧
    ∀ last, (s.engine ch).state = .open → (s.meter ch).lastEdge = some last →
      ((p.stamp - last).toNat < (s.meter ch).wd * 100 →
        (s.heldStamp ch = none → ∃ t, exec (.pulseAccepted ch) s = .next t ∧ kept t ∧
          t.engine ch = { s.engine ch with double := true } ∧
          t.meter ch = { s.meter ch with pulse := none, active := true, lastEdge := some p.stamp }) ∧
        (∀ c, (s.engine ch).held = some c →
          ((s.engine ch).timeout + 1 ≠ (s.engine ch).params.tg → ∃ t, exec (.pulseAccepted ch) s = .next t ∧ kept t ∧
            t.engine ch = { s.engine ch with double := true, held := none, timeout := (s.engine ch).timeout + 1 } ∧
            t.meter ch = { s.meter ch with pulse := none, active := true, lastEdge := some p.stamp }) ∧
          ((s.engine ch).timeout + 1 = (s.engine ch).params.tg → (s.dwell ch).state ≠ .counting → timedOut))) ∧
      ((s.meter ch).wd * 100 ≤ (p.stamp - last).toNat → (s.engine ch).edges + 1 < (s.engine ch).params.nm →
        (s.heldStamp ch = none → ∃ t, exec (.pulseAccepted ch) s = .next t ∧ kept t ∧
          t.engine ch = { s.engine ch with edges := (s.engine ch).edges + 1 } ∧
          t.meter ch = { s.meter ch with pulse := none, active := true, lastEdge := some p.stamp }) ∧
        (∀ c, (s.engine ch).held = some c → (s.engine ch).timeout + 1 ≠ (s.engine ch).params.tg →
          ∃ t, exec (.pulseAccepted ch) s = .next t ∧ kept t ∧ t.engine ch = { s.engine ch with
            edges := (s.engine ch).edges + 1, held := none, timeout := (s.engine ch).timeout + 1 } ∧
          t.meter ch = { s.meter ch with pulse := none, active := true, lastEdge := some p.stamp }) ∧
        (∀ c, (s.engine ch).held = some c → (s.engine ch).timeout + 1 = (s.engine ch).params.tg →
          (s.dwell ch).state ≠ .counting → timedOut))

/-- The edge that brings the count to Nm closes the gate: the channel's accumulator takes the sample with Mp the difference of the
snapshots, and the next gate opens at the same edge while gates are left and Mp is not 0; the last gate's edge ends the channel with its
record, and an Mp of 0 ends it with INVALID_NOREF (R22 to R24, R26, R40, R44). Of the edge and a held mains cycle the one with the earlier
stamp is taken first. A cycle before the edge ends the channel with INVALID_TIMEOUT when it brings the timeout count to Tg, and else leaves
the edge its effect. One behind the edge that opens the next gate is that gate's first cycle, which ends the channel with INVALID_TIMEOUT at
a Tg of 1; behind the last gate's edge, or one with an Mp of 0, it changes nothing (R27, R28). Each sample's gate entry, with the fields of
R41's table, is handed to the result reporter; a cycle that ends the channel before the edge hands on none. The outcome is the channel's
record by its ending (R44), which GateErrorIsRoundedAndClamped gives by its table. That the earlier of two stamps is the one behind by less
than half a wrap is the model's reading (log entry 14). -/
def Obligations.ClosingEdgeSharesItsSnapshot : Prop :=
  ∀ (ch : Channel) (s : State) (p : Pulse) (last : Word), s.alive = true → (s.meter ch).pulse = some p →
    (s.engine ch).state = .open → (s.meter ch).lastEdge = some last → (s.meter ch).wd * 100 ≤ (p.stamp - last).toNat →
    (s.engine ch).edges + 1 = (s.engine ch).params.nm → (s.dwell ch).state ≠ .counting →
    let sample : GateSample :=
      { channel := ch, gate := (s.engine ch).gate, nm := (s.engine ch).params.nm
        mp := (p.snap.count - (s.engine ch).latch.count).toNat, prescaler := p.snap.prescaler
        duration := (p.stamp - (s.engine ch).start).toNat / 1000, glitches := (s.meter ch).glitches
        double := (s.engine ch).double }
    let acc := (s.ecu.acc.get ch).take s.ecu.copy.discard (s.ecu.copy.k.get ch) sample
    let entry : GateEntry :=
      { channel := ch, seq := s.ecu.copy.seq, gate := sample.gate, error := sample.error (s.ecu.copy.k.get ch)
        discarded := decide (sample.gate ≤ s.ecu.copy.discard), saturated := sample.saturated (s.ecu.copy.k.get ch)
        double := sample.double, glitches := sample.glitches, duration := sample.duration }
    let reported (u t : State) : Prop := t.rrp = u.rrp ∧ t.bli.report = u.bli.report
    let handed : State := s.handEntry (.gate entry)
    let gates := (s.engine ch).params.repeats + (s.engine ch).params.discard
    let moves := p.snap.count ≠ (s.engine ch).latch.count
    let opens (cycles : Nat) : Prop := ∃ t, exec (.pulseAccepted ch) s = .next t ∧
      t.engine ch = { s.engine ch with
        gate := (s.engine ch).gate + 1, latch := p.snap, start := p.stamp, edges := 0, double := false, timeout := cycles, held := none } ∧
      (t.meter ch).glitches = 0 ∧ t.rsq = s.rsq ∧ t.ecu.acc.get ch = acc ∧ reported handed t
    let closes : Prop := ∃ t, exec (.pulseAccepted ch) s = .next t ∧ t.ecu.acc.get ch = acc ∧ (t.engine ch).runs = false ∧
      t.ecu.outcomes.get ch = some (accuracyRecord s.ecu.copy acc .none) ∧ reported handed t
    let ends (e : Ending) (o : ChanOutcome) (a : Accumulator) (u : State) : Prop := ∃ t r, exec (.pulseAccepted ch) s = .next t ∧
      t.ecu.acc.get ch = a ∧ (t.engine ch).runs = false ∧ t.ecu.outcomes.get ch = some r ∧ r.outcome = o ∧
      r = accuracyRecord s.ecu.copy a e ∧ reported u t
    let edge (cycles : Nat) : Prop :=
      (moves → (s.engine ch).gate < gates → opens cycles) ∧ (moves → gates ≤ (s.engine ch).gate → closes) ∧
        (¬ moves → ends .noref .invalidNoref acc handed)
    (s.heldStamp ch = none → edge 0) ∧
    ∀ c, (s.engine ch).held = some c →
      (c ≠ p.stamp ∧ (p.stamp - c).toNat < 2 ^ 31 →
        ((s.engine ch).timeout + 1 ≠ (s.engine ch).params.tg → edge 0) ∧
        ((s.engine ch).timeout + 1 = (s.engine ch).params.tg →
          ends .timeout .invalidTimeout (s.ecu.acc.get ch) s)) ∧
      (c = p.stamp ∨ 2 ^ 31 ≤ (p.stamp - c).toNat →
        ((s.engine ch).params.tg ≠ 1 → edge 1) ∧
        ((s.engine ch).params.tg = 1 →
          (moves → (s.engine ch).gate < gates → ends .timeout .invalidTimeout acc handed) ∧
            (moves → gates ≤ (s.engine ch).gate → closes) ∧ (¬ moves → ends .noref .invalidNoref acc handed)))

/-- On a creep point the edge past the allowed count ends the channel with FAIL_CREEP, on a start point the edge that reaches the required
count ends it with PASS; an edge short of that is counted, and one less than Wd × 100 µs after the last accepted edge ends it with
INVALID_DOUBLE (R5, R55, R56, R58). -/
def Obligations.DwellEdgeEndsTheChannel : Prop :=
  ∀ (ch : Channel) (s : State) (p : Pulse), s.alive = true → (s.meter ch).pulse = some p →
    (s.engine ch).state = .off → (s.dwell ch).state = .counting → s.heldStamp ch = none →
    let far := ∀ last, (s.meter ch).lastEdge = some last → (s.meter ch).wd * 100 ≤ (p.stamp - last).toNat
    let given (o : ChanOutcome) : Prop := ∃ t, exec (.pulseAccepted ch) s = .next t ∧
      t.ecu.outcomes.get ch = some ⟨o, none, none, 0, 0⟩ ∧ t.rsq.received.get ch = some ⟨o, none, none, 0, 0⟩
    let counted : Prop := ∃ t, exec (.pulseAccepted ch) s = .next t ∧ t.rsq = s.rsq ∧ t.ecu.outcomes = s.ecu.outcomes ∧
      t.dwell ch = { s.dwell ch with edges := (s.dwell ch).edges + 1 } ∧ (t.meter ch).lastEdge = some p.stamp
    (far → (s.dwell ch).kind = .creep → ((s.dwell ch).number < (s.dwell ch).edges + 1 → given .failCreep) ∧
      ((s.dwell ch).edges + 1 ≤ (s.dwell ch).number → counted)) ∧
    (far → (s.dwell ch).kind = .start → ((s.dwell ch).edges + 1 = (s.dwell ch).number → given .pass) ∧
      ((s.dwell ch).edges + 1 < (s.dwell ch).number → counted)) ∧
    (¬ far → given .invalidDouble)

/-- A raw edge within 125 ns of the one before is not taken; else the divider counts, and on its wrap the counter advances unless it
advanced less than 500 ns ago (R8, R11). Times stand as CLK8 periods (log entry 12). -/
def Obligations.ReferenceEdgeAdvancesTheCounter : Prop :=
  ∀ (r : RefName) (s : State), s.LampsFollow → s.alive = true →
    exec (.referenceEdge r) s = .next (s.mapPfe fun p => p.mapRef r fun x =>
      if x.sinceRaw = 0 then x
      else if x.divider + 1 < x.prescaler then { x with divider := x.divider + 1, sinceRaw := 0 }
      else if x.sinceAdvance < 4 then { x with divider := 0, sinceRaw := 0 }
      else { x with divider := 0, sinceRaw := 0, counter := x.counter + 1, sinceAdvance := 0 })

/-! ### Mains timing (section 1.3) -/

/-- In a station that measures nothing a ZC edge is noise under 8 ms, a counted cycle up to 25 ms with mains present, and a good or a first
edge of a run without; one more than 25 ms late, with mains present, loses it: mains-present is cleared, MAINS_LOST raised, and the edge
begins a good run (R12 to R15). -/
def Obligations.ZcEdgeIsJudgedByItsSpacing : Prop :=
  ∀ s : State, s.LampsFollow → s.alive = true → s.rsq.phase = .none ∨ s.rsq.phase = .ended → s.live .a = false →
    s.live .b = false →
    let z : Zc := { s.pfe.zc with lastEdge := some s.time.counter, silence := some 100000 }
    let after (z : Zc) : State := s.mapPfe fun p => { p with zc := z }
    (s.pfe.zc.lastEdge = none → exec .zcEdge s = .next (after { z with goodRun := 1 })) ∧
    ∀ last, s.pfe.zc.lastEdge = some last →
      let e := (s.time.counter - last).toNat
      (e < 8000 → exec .zcEdge s = .next s) ∧
      (8000 ≤ e → e ≤ 25000 → s.pfe.zc.present = true → exec .zcEdge s = .next (after { z with cycles := z.cycles + 1 })) ∧
      (8000 ≤ e → e ≤ 25000 → s.pfe.zc.present = false → s.pfe.zc.goodRun ≠ 3 →
        exec .zcEdge s = .next (after { z with goodRun := z.goodRun + 1 })) ∧
      (8000 ≤ e → e ≤ 25000 → s.pfe.zc.present = false → s.pfe.zc.goodRun = 3 →
        exec .zcEdge s = .next (after { z with goodRun := 0, present := true })) ∧
      (25000 < e → s.pfe.zc.present = false → exec .zcEdge s = .next (after { z with goodRun := 1 })) ∧
      (25000 < e → s.pfe.zc.present = true →
        let lost := (after { z with goodRun := 1, present := false }).raise .mainsLost
        exec .zcEdge s = .next lost ∧ lost.pfe.zc.present = false ∧ Event.mainsLost.isIn lost.rrp.flags = true ∧ lost.rsq = s.rsq)

/-- A point enters MEASURING at its last settling cycle, at once at a LOAD READY with settle 0 or mains absent, and at mains loss (R50).
Each channel of its mask that is held ends with INVALID_HELD, each other with INVALID_MAINS while mains is absent, and else is armed with
the descriptor's parameters and a fresh input (R2, R19, R54); the window waits for its cycle, or is absent with window 0 or without mains
(R59, R60). When no channel is armed and the window is absent, the point ends in the same event, with its DONE (R51). A settling cycle
before the last is counted. -/
def Obligations.EntryToMeasuringArmsTheChannels : Prop :=
  ∀ (c : Instr) (s : State) (f : PointFields), s.alive = true → s.rsq.runState ≠ .clashed → s.current.point = some f →
    s.current.kind ≠ .none →
    let cycle := c = .zcEdge ∧ s.pfe.zc.present = true ∧ s.rsq.phase = .settling ∧ s.live .a = false ∧ s.live .b = false ∧
      ∃ last, s.pfe.zc.lastEdge = some last ∧ 8000 ≤ (s.time.counter - last).toNat ∧ (s.time.counter - last).toNat ≤ 25000
    let loaded := ∃ run n d, c = .loadReady run n d ∧ s.takesFrames = true ∧ s.rsq.run = some run ∧ s.rsq.runState = .waitLoad ∧
      n.toNat = s.rsq.seq ∧ d.toNat = s.rsq.desc ∧ (f.settle = 0 ∨ s.pfe.zc.present = false)
    let lost := c = .silenceTimerExpiry ∧ s.pfe.zc.present = true ∧ s.pfe.zc.silence ≠ none ∧ s.rsq.phase = .settling ∧
      s.live .a = false ∧ s.live .b = false
    let mains : Bool := s.pfe.zc.present && c ≠ .silenceTimerExpiry
    let arms (ch : Channel) : Prop := f.mask.has ch = true ∧ s.sys.holds.chan ch = false ∧ mains = true
    let gives (t : State) (ch : Channel) (o : ChanOutcome) : Prop := ∃ r, t.ecu.outcomes.get ch = some r ∧ r.outcome = o
    let fresh (t : State) (ch : Channel) : Prop :=
      t.meter ch = { s.meter ch with pulse := none, active := false, lastEdge := none, glitches := 0 }
    (s.LampsFollow → cycle → s.rsq.settle + 1 ≠ f.settle → exec c s = .next ((s.mapPfe fun p => { p with zc := { p.zc with
      lastEdge := some s.time.counter, silence := some 100000, cycles := p.zc.cycles + 1 } }).mapRsq fun q =>
        { q with settle := q.settle + 1 })) ∧
    ((cycle ∧ s.rsq.settle + 1 = f.settle ∨ lost) ∧ s.rsq.received = ⟨none, none⟩ ∨ loaded →
      ∃ t, exec c s = .next t ∧
        (∀ ch, f.mask.has ch = true →
          (s.sys.holds.chan ch = true → gives t ch .invalidHeld) ∧
          (s.sys.holds.chan ch = false → mains = false → gives t ch .invalidMains) ∧
          (arms ch → s.current.kind = .accuracy → ∀ a g, s.current.accuracy = some a → a.chans.get ch = some g →
            fresh t ch ∧ t.engine ch = { GateEngine.reset with
              state := .armed, params := ⟨g.nm, a.repeats, a.discard, a.tg, s.inputOf ch⟩ }) ∧
          (arms ch → s.current.kind ≠ .accuracy → ∀ w, s.current.dwell = some w →
            fresh t ch ∧ t.dwell ch = ⟨.counting, 0, 0, none, s.current.kind, w.length, w.number⟩)) ∧
        (arms .a ∨ arms .b ∨ f.window ≠ 0 ∧ mains = true →
          t.rsq.runState = .measuring ∧ t.rsq.phase = .measuring ∧ t.bli.coord = s.bli.coord ∧ t.rsq.figure = none ∧
          t.rsq.window.state = (if f.window = 0 ∨ mains = false then .absent else .waiting)) ∧
        (¬ arms .a → ¬ arms .b → f.window = 0 ∨ mains = false →
          t.rsq.runState = .barrier ∧ t.rsq.phase = .ended ∧
          ∃ chans, .done s.runNumber s.rsq.seq f.mask none chans ∈ t.bli.coord ++ t.bli.waiting))

/-- In MEASURING a counted mains cycle raises each running gate's timeout count and each dwell's cycle count, ending the channel at the
length with INVALID_TIMEOUT, PASS or FAIL_START, unless a pulse is pending, behind which it is held (R27, R28, R57). It starts the waiting
window and closes it at its length with the figure (R60). Once every channel has its record and the window has given its figure or lost it,
the point ends: BARRIER, with the DONE of what was found (R51). -/
def Obligations.CountedCycleInMeasuring : Prop :=
  ∀ (s : State) (f : PointFields) (last : Word), s.alive = true → s.pfe.zc.present = true → s.pfe.zc.lastEdge = some last →
    8000 ≤ (s.time.counter - last).toNat → (s.time.counter - last).toNat ≤ 25000 → s.rsq.phase = .measuring →
    s.rsq.runState = .measuring → s.current.point = some f → s.pointOver = false →
    (∀ ch, s.live ch = true → f.mask.has ch = true ∧ s.rsq.received.get ch = none) →
    ∃ t, exec .zcEdge s = .next t ∧
      t.pfe.zc = { s.pfe.zc with lastEdge := some s.time.counter, silence := some 100000, cycles := s.pfe.zc.cycles + 1 } ∧
      (∀ ch, (s.engine ch).runs = true →
        ((s.meter ch).pulse ≠ none → t.engine ch = { s.engine ch with held := some s.time.counter }) ∧
        ((s.meter ch).pulse = none →
          ((s.engine ch).timeout + 1 ≠ (s.engine ch).params.tg →
            t.engine ch = { s.engine ch with timeout := (s.engine ch).timeout + 1 }) ∧
          ((s.engine ch).timeout + 1 = (s.engine ch).params.tg →
            ∃ r, t.rsq.received.get ch = some r ∧ t.ecu.outcomes.get ch = some r ∧ r.outcome = .invalidTimeout))) ∧
      (∀ ch, (s.engine ch).runs = false → (s.dwell ch).state = .counting →
        ((s.meter ch).pulse ≠ none → t.dwell ch = { s.dwell ch with held := some s.time.counter }) ∧
        ((s.meter ch).pulse = none →
          ((s.dwell ch).cycles + 1 ≠ (s.dwell ch).length →
            t.dwell ch = { s.dwell ch with cycles := (s.dwell ch).cycles + 1 }) ∧
          ((s.dwell ch).cycles + 1 = (s.dwell ch).length → t.rsq.received.get ch =
            some ⟨if (s.dwell ch).kind = .creep then .pass else .failStart, none, none, 0, 0⟩))) ∧
      (s.rsq.window.state = .waiting → t.rsq.figure = s.rsq.figure ∧ t.rsq.window = ⟨.running,
        ⟨(s.pfe.ref s.rsq.window.input).counter, (s.pfe.ref s.rsq.window.input).prescaler⟩, 0, s.rsq.window.input⟩) ∧
      (s.rsq.window.state = .running →
        (s.rsq.window.cycles + 1 ≠ f.window → t.rsq.figure = s.rsq.figure ∧
          t.rsq.window = { s.rsq.window with cycles := s.rsq.window.cycles + 1 }) ∧
        (s.rsq.window.cycles + 1 = f.window → t.rsq.window.state = .complete ∧ t.rsq.figure =
          some (((s.pfe.ref s.rsq.window.input).counter - s.rsq.window.start.count).toNat *
            (s.pfe.ref s.rsq.window.input).prescaler))) ∧
      let complete := (∀ ch, f.mask.has ch = true → t.rsq.received.get ch ≠ none) ∧ t.rsq.window.state.settled = true
      (complete → t.rsq.runState = .barrier ∧ t.rsq.phase = .ended ∧
        .done s.runNumber s.rsq.seq f.mask t.rsq.figure ⟨if f.mask.a then t.rsq.received.a else none,
          if f.mask.b then t.rsq.received.b else none⟩ ∈ t.bli.coord ++ t.bli.waiting) ∧
      (¬ complete → t.rsq.runState = .measuring ∧ t.rsq.phase = .measuring ∧ t.bli = s.bli)

/-- Mains lost, by 100 ms of silence or by an edge more than 25 ms late, clears mains-present, raises MAINS_LOST and ends every running
channel of the point with INVALID_MAINS (R14, R29, R58). A figure window that waits or runs becomes ABSENT with no figure (R60), and a point
that then has every record and a settled window ends with its DONE (R51); in one that goes on, an engine so ended has dropped its working
state, the held cycle with it (R28; that it drops the rest with no cycle held is log entry 36). In a station that measures nothing, in a run
or not, the loss by silence clears mains-present and raises MAINS_LOST, and nothing more. Silence without mains present only stops its
timer. -/
def Obligations.MainsLossEndsRunningChannels : Prop :=
  ∀ s : State,
    (∀ (c : Instr) (last : Word), s.pfe.zc.present = true → s.rsq.phase = .measuring →
      (∀ ch, s.live ch = true → s.mask.has ch = true ∧ s.rsq.received.get ch = none) →
      (c = .silenceTimerExpiry ∧ s.pfe.zc.silence ≠ none) ∨
        (c = .zcEdge ∧ s.alive = true ∧ s.pfe.zc.lastEdge = some last ∧ 25000 < (s.time.counter - last).toNat) →
      let lost := s.rsq.window.state = .waiting ∨ s.rsq.window.state = .running
      let complete := (∀ ch, s.mask.has ch = true → s.live ch = true ∨ s.rsq.received.get ch ≠ none) ∧
        s.rsq.window.state ≠ .none
      ∃ t, exec c s = .next t ∧ t.pfe.zc.present = false ∧ Event.mainsLost.isIn t.rrp.flags = true ∧
        (∀ ch, s.live ch = true → ∃ r, t.ecu.outcomes.get ch = some r ∧ r.outcome = .invalidMains) ∧
        (c = .zcEdge → t.pfe.zc.goodRun = 1) ∧
        (lost → t.rsq.window.state = .absent ∧ t.rsq.figure = none) ∧
        (¬ lost → t.rsq.window = s.rsq.window ∧ t.rsq.figure = s.rsq.figure) ∧
        (s.rsq.runState = .measuring → s.pointOver = false →
          (complete → t.rsq.runState = .barrier ∧ t.rsq.phase = .ended ∧
            .done s.runNumber s.rsq.seq s.mask t.rsq.figure ⟨if s.mask.a then t.rsq.received.a else none,
              if s.mask.b then t.rsq.received.b else none⟩ ∈ t.bli.coord ++ t.bli.waiting) ∧
          (¬ complete → t.rsq.runState = .measuring ∧ t.rsq.phase = .measuring ∧ t.bli.coord = s.bli.coord ∧
            ∀ ch, (s.engine ch).runs = true → t.engine ch = { GateEngine.reset with
              state := .doneCh, ending := .mains, params := (s.engine ch).params }))) ∧
    (s.LampsFollow → s.pfe.zc.present = true → s.pfe.zc.silence ≠ none → s.rsq.phase = .none ∨ s.rsq.phase = .ended →
      s.live .a = false → s.live .b = false →
      let lost := (s.mapPfe fun p => { p with zc := { p.zc with present := false, silence := none } }).raise .mainsLost
      exec .silenceTimerExpiry s = .next lost ∧ lost.pfe.zc.present = false ∧ Event.mainsLost.isIn lost.rrp.flags = true ∧
        lost.rsq = s.rsq) ∧
    (s.LampsFollow → s.pfe.zc.present = false → exec .silenceTimerExpiry s =
      .next (s.mapPfe fun p => { p with zc := { p.zc with silence := none } }))

/-! ### Arithmetic and verdicts (chapters 3 and 4) -/

/-- The gate error is the exact quotient of the expected count less the actual one by the actual one, in ppm, rounded to the nearest
integer, halves away from zero; it lies above −1,000,000 before rounding, and the two counts in the ranges that the manual gives (R38). The
rounded error is clamped to ±999,999, and the gate is saturated when it lies outside, below only as −1,000,000, from a quotient of at most
−999,999.5 (R39): the gate entry carries both, a kept gate takes both into the accumulator, and a discarded one only its glitches (R40). A
gate without a reference count has no error, and takes only its glitches there (R37). The outcome record of a channel is formed of point
copy, accumulator and ending: the mean is the sum over the kept count, rounded to the nearest integer with halves away from zero, and the
spread the max less the min (R42); the outcome is the first line of R43's table that applies, each by its condition. -/
def Obligations.GateErrorIsRoundedAndClamped : Prop :=
  (∀ (nm k m : Nat), 0 < m →
    let mq : Int := ((m * 65536 : Nat) : Int)
    let num : Int := (((nm * k : Nat) : Int) - mq) * 1000000
    let e := rawGateError nm k m
    2 * (num - e * mq).natAbs ≤ mq.natAbs ∧
      (2 * (num - e * mq).natAbs = mq.natAbs → num.natAbs ≤ (e * mq).natAbs) ∧
      (0 < nm → 0 < k → 1 ≤ nm * k ∧ -1000000 ≤ e ∧ -(1000000 * mq) < num) ∧
      (nm ≤ 65535 → k < 2 ^ 32 → nm * k ≤ 281470681677825) ∧
      (m ≤ (2 ^ 32 - 1) * 8 → 65536 ≤ mq ∧ mq ≤ 2251799813160960)) ∧
  (∀ (acc : Accumulator) (seq d k : Nat) (x : GateSample), x.mp * x.prescaler ≠ 0 →
    let raw := rawGateError x.nm k (x.mp * x.prescaler)
    let e : Int := max (-999999) (min 999999 raw)
    let mq : Int := ((x.mp * x.prescaler * 65536 : Nat) : Int)
    (0 < x.nm → 0 < k → (raw < -999999 ↔ raw = -1000000) ∧
      (raw = -1000000 ↔ 2 * ((((x.nm * k : Nat) : Int) - mq) * 1000000) ≤ -1999999 * mq)) ∧
    (x.entry seq d k).error = some e ∧ ((x.entry seq d k).saturated = true ↔ raw < -999999 ∨ 999999 < raw) ∧
      (acc.take d k x).glitchTotal = acc.glitchTotal + x.glitches ∧
      (x.gate ≤ d → acc.take d k x = { acc with glitchTotal := acc.glitchTotal + x.glitches }) ∧
      (d < x.gate → (acc.take d k x).n = acc.n + 1 ∧ (acc.take d k x).sum = acc.sum + e ∧
        ((acc.take d k x).saturated = true ↔ acc.saturated = true ∨ raw < -999999 ∨ 999999 < raw) ∧
        (acc.take d k x).doubleSeen = (acc.doubleSeen || x.double) ∧
        (acc.take d k x).min = some (match acc.min with | none => e | some m => min m e) ∧
        (acc.take d k x).max = some (match acc.max with | none => e | some m => max m e))) ∧
  (∀ (acc : Accumulator) (seq d k : Nat) (x : GateSample), x.mp * x.prescaler = 0 →
    (x.entry seq d k).error = none ∧ (x.entry seq d k).saturated = false ∧
      acc.take d k x = { acc with glitchTotal := acc.glitchTotal + x.glitches }) ∧
  ∀ (c : PointCopy) (acc : Accumulator) (e : Ending), (accuracyRecord c acc e).JudgedBy c acc e

/-- The deviation record: UNCHECKED without an own figure, with fewer than three figures, or with a median of 0; else the lower median of
the sorted set, and DISAGREE exactly when the deviation, rounded down, exceeds the tolerance (R47, R48). -/
def Obligations.DeviationComparesWithTheLowerMedian : Prop :=
  ∀ (own : Option Nat) (peers : List Nat) (tol : Nat),
    (own = none → deviationRecord own peers tol = .unchecked) ∧
    ∀ f, own = some f →
      (peers.length + 1 < 3 → deviationRecord own peers tol = .unchecked) ∧
      (3 ≤ peers.length + 1 → ∃ sorted : List Nat, sorted.Perm (f :: peers) ∧ sorted.Pairwise (· ≤ ·) ∧
        let median := sorted.getD (peers.length / 2) 0
        let dev := (((f : Int) - (median : Int)).natAbs * 1000000) / median
        (median = 0 → deviationRecord own peers tol = .unchecked) ∧
        (median ≠ 0 → dev ≤ tol → deviationRecord own peers tol = .agree median (min dev 999999)) ∧
        (median ≠ 0 → tol < dev → deviationRecord own peers tol = .disagree median (min dev 999999)))

/-- The deviation record of a barrier close is taken over the figure set: the own figure, and the figure of every other address whose entry
is ENROLLED with the point as its last DONE and a figure, equal ones kept (R46). A DISAGREE turns every PASS and FAIL outcome into
INVALID_REF_DISAGREE, and nothing else in a record, so the point's verdict is INVALID; without one the records stay. The verdict is INVALID,
FAIL or PASS by the worst class among the channels (R61, R62). -/
def Obligations.PointVerdictTakesTheWorstClass : Prop :=
  (∀ s : State, ∃ peers : List Nat, s.deviation = deviationRecord s.rsq.figure peers s.ecu.copy.tolerance ∧
    ∀ v, peers.count v = ((List.range' 1 60).filter fun x =>
      let e := rosterAt s.rsq.roster x
      x ≠ s.sys.address ∧ e.status = .enrolled ∧ e.lastDone = some s.rsq.seq ∧ e.figure = some v).length) ∧
  ∀ (dev : Deviation) (recs : PerChan (Option OutcomeRecord)),
    let after := afterDeviation dev recs
    let has (q : ChanOutcome → Prop) : Prop := ∃ ch r, after.get ch = some r ∧ q r.outcome
    (pointVerdict after = .invalid ↔ has fun o => o.isInvalid = true) ∧
    (pointVerdict after = .fail ↔ (¬ has fun o => o.isInvalid = true) ∧ has fun o => o.isFail = true) ∧
    ((∃ m d, dev = .disagree m d) → ((∃ ch r, recs.get ch = some r) → pointVerdict after = .invalid) ∧
      ∀ ch, after.get ch = (recs.get ch).map fun r =>
        if r.outcome.isInvalid then r else { r with outcome := .invalidRefDisagree }) ∧
    ((∀ m d, dev ≠ .disagree m d) → after = recs)

/-- At run end the verdict is FAIL with a failed point, else INVALID with an invalid one, else PASS (R64). A PASS with sealing enabled goes
to SEALING with the chosen slot reserved and a claim offered, at once or at the end of the store's operation in flight; it is STORE_FULL
with no free slot, and EXHAUSTED with no serial left, whose FILED record goes to the reserved slot (R143, R147). Any other end goes to
FINISHED with the run's record handed to the store, and REJECT pulsed for 200 ms unless it is PASS (R67, R125, R157; log entries 46 and 51).
A reservation that has waited for the end of the operation is made then, and only then, with what follows from it (R143, R155). The slot
chosen is the lowest EMPTY one, else the lowest that is DAMAGED with EXPORTED, else the one with the oldest exported record (R155), where no
slot held for another record of the seal unit, and none under a write in flight, is chosen (the model's reading, log entries 8 and 44). That
the point phase is then none is the model's reading (log entry 23). -/
def Obligations.RunEndGivesTheVerdict : Prop :=
  (∀ s : State, s.ChosenSlot s.chooseSlot) ∧
  (∀ (s : State) (run : Half), s.rst.reserveAsked = true → s.rsq.run = some run → s.rsq.runState = .sealing →
    (s.mapRst fun r => { r with reserveAsked := false }).Reserves s.reserveNow run) ∧
  ∀ (s : State) (run : Half), s.rsq.run = some run → s.rsq.runState = .barrier →
    let v : MeterVerdict := if 0 < s.rsq.tally.failed then .fail else if 0 < s.rsq.tally.invalid then .invalid else .pass
    let record (o : Option SealOutcome) (slot : Option Nat) : WriteJob :=
      ⟨{ run := run.toNat, address := s.sys.address, verdict := v, outcome := o, serial := none, tally := s.rsq.tally }, false, slot⟩
    let seals := v = .pass ∧ s.seu.enable = true
    s.endRun.rsq.verdict = some v ∧ s.endRun.rsq.tally = s.rsq.tally ∧ s.endRun.rsq.phase = .none ∧
    (¬ seals → s.endRun.rsq.runState = .finished ∧
      (v ≠ .pass → s.endRun.seu.reject = true ∧ s.endRun.seu.rejectTimer = some 200000) ∧
      (v = .pass → s.endRun.seu.reject = s.seu.reject)) ∧
    (s.rst.op = none → s.rst.waiting = [] →
      (¬ seals → s.endRun.seu.claim = s.seu.claim) ∧
      (¬ seals → s.chooseSlot = none → s.endRun.rst = s.rst ∧ Event.storeFull.isIn s.endRun.rrp.flags = true) ∧
      (∀ n, ¬ seals → s.chooseSlot = some n → s.endRun.rst.write = some (n, record none none) ∧
        s.endRun.rst.reservation = s.rst.reservation) ∧
      (seals → s.chooseSlot = none → s.endRun.rsq.runState = .finished ∧
        s.endRun.seu.outcome = some .storeFull ∧ Event.storeFull.isIn s.endRun.rrp.flags = true ∧ s.endRun.rst = s.rst) ∧
      ∀ n s0 s1, seals → s.chooseSlot = some n → s.seu.block = some (s0, s1) →
        (s.seu.watermark + 1 ≤ s1 → s.endRun.rsq.runState = .sealing ∧ s.endRun.rst = { s.rst with reservation := some n } ∧
          s.endRun.seu.claim = { s.seu.claim with state := .claimWait, attempts := 1, slot := some n } ∧
          .claim run ∈ s.endRun.bli.coord ++ s.endRun.bli.waiting) ∧
        (s1 < s.seu.watermark + 1 → s.endRun.rsq.runState = .finished ∧ s.endRun.seu.outcome = some .exhausted ∧
          s.endRun.seu.claim.state = .sealDone ∧ s.endRun.seu.claim.confirmed = false ∧
          s.endRun.rst.write = some (n, record (some .exhausted) (some n)))) ∧
    (s.rst.op ≠ none →
      (seals → s.endRun.rsq.runState = .sealing ∧ s.endRun.rst = { s.rst with reserveAsked := true } ∧
        s.endRun.seu = s.seu ∧ s.endRun.bli = s.bli) ∧
      (¬ seals → s.rst.waiting.length < 8 → s.endRun.seu.claim = s.seu.claim ∧
        s.endRun.rst = { s.rst with waiting := s.rst.waiting ++ [.write (record none none)] })) ∧
    (¬ seals → s.HandsOver s.endRun (record none none)) ∧
    (seals → s.rst.op = none →
      ((s.mapRsq fun q => { q with runState := .sealing, verdict := some .pass, phase := .none }).Reserves s.endRun run))

/-! ### The bench line (chapter 6) -/

/-- What a station sends as a frame, every receiver takes for that frame: sender, kind, target and payload (R88, R89, R94, R101). -/
def Obligations.ReceiverReadsTheFrameSent : Prop :=
  ∀ (sender target kind : Nat) (payload : List Byte), sender < 64 → target < 64 → kind < 256 → payload.length ≤ 48 →
    receiveFrame (frameBytes sender kind target payload) =
      .good ⟨BitVec.ofNat 6 sender, BitVec.ofNat 8 kind, BitVec.ofNat 6 target, payload⟩

/-- The coordination frames a station sends bring its peers the commands with the same run, sequence number, mask, figure, list, reason and
serials (R100, R103). -/
def Obligations.PeersReadTheCoordinationFrames : Prop :=
  ∀ (x tgt : BitVec 6) (run : Half) (n : Nat) (list : List Nat) (serial : Nat),
    let reads (f : CoordFrame) (c : Instr) : Prop :=
      frameCommand false ⟨x, BitVec.ofNat 8 (coordPayload f list serial).1, tgt, (coordPayload f list serial).2⟩ = some c ∧
        formFits (coordPayload f list serial).1 (coordPayload f list serial).2 = true
    reads (.enrol run) (.enrol x run) ∧
    (n < 65536 → ∀ (m : Mask) (fig : Option Nat) (ch : PerChan (Option OutcomeRecord)), m.code ≠ 0 →
      (∀ c, (ch.get c).isSome = m.has c) → (∀ v, fig = some v → v < 2 ^ 32) →
      reads (.done run n m fig ch)
        (.done x run (BitVec.ofNat 16 n) (BitVec.ofNat 8 m.code) (fig.map (BitVec.ofNat 32)))) ∧
    (n < 65536 → list ≠ [] → (∀ k ∈ list, 1 ≤ k ∧ k ≤ 60) →
      reads (.lapse run n) (.lapse x run (BitVec.ofNat 16 n) (BitVec.ofNat 64 (lapseSet list)))) ∧
    (n < 65536 → ∀ r, reads (.withdraw run n r) (.withdraw x run (BitVec.ofNat 16 n) (BitVec.ofNat 8 r.code))) ∧
    (serial < 2 ^ 32 → reads (.claim run) (.sealClaim x run (BitVec.ofNat 32 serial))) ∧
    (∀ a v h, a < 256 → v < 2 ^ 32 → h < 2 ^ 32 →
      reads (.void run a v h) (.sealVoid x run (BitVec.ofNat 8 a) (BitVec.ofNat 32 v) (BitVec.ofNat 32 h)))

/-- An attempt begins only on a line that is recessive and has been so, without a break, for 40 + 8r bit times, with r the own address less
w less 1, modulo 64, and, since a stuck stretch, for 1 ms (R87, R90, R91, R97); with another station's frame or noise on the line, or since,
the station defers, its quiet count and its 1 ms as the line shows them (R91, R97). The attempt takes the head of the coordination part, and
the reporting part's only when that part is empty (R93, R98): of each kind with the contents its owner fixed, a LAPSE with the entries that
are behind its point now, dropped if there are none (R119), a STATUS with the station's state now (R103, R137). That the command shows the
changes of the line is the model's choice (log entry 13), the test of the 1 ms at a break its reading (log entry 27), and so is the free
count of a STATUS (log entry 44). -/
def Obligations.AttemptWaitsItsTurnAndTakesCoordinationFirst : Prop :=
  ∀ (s : State) (line : List LineEdge), s.LampsFollow → s.alive = true → s.sys.address ≤ 60 →
    let r := (s.sys.address + 64 - s.bli.w.toNat + 63) % 64
    let bit := if s.sys.rate = .r125 then 8 else if s.sys.rate = .r250 then 4 else 2
    let shown := s.see line
    let clear := s.bli.attempt = none ∧ s.bli.stage.inFrame = false ∧ s.bli.stuck = false
    let waited := shown.bli.low = false ∧ (40 + 8 * r) * bit ≤ shown.bli.quiet ∧ (shown.bli.afterStuck = true → 1000 ≤ shown.bli.quiet)
    let c : Instr := .sendAttemptStart line
    let goes (part : TxPart) (kind target : Nat) (payload : List Byte) (list : List Nat) : Prop :=
      exec c s = .next (shown.mapBli fun b => { b with
        quiet := 0, afterStuck := false
        attempt := some ⟨part, frameBytes s.sys.address kind target payload, list, 0, false, s.time.counter, shown.bli.quiet⟩ })
    let told (kind : Nat) (payload : List Byte) : Prop := goes .coordination kind 63 payload []
    let reports (f : ReportFrame) (kind : Nat) (payload : List Byte) : Prop :=
      ∀ rest, s.bli.coord = [] → s.bli.report = f :: rest → goes .reporting kind 0 payload []
    let count (st : PeerStatus) : Nat := (s.rsq.roster.filter fun e => e.status = st).length
    s.LineShown line shown ∧ (¬ clear → exec c s = .next s) ∧
    (clear → ¬ waited ∨ (s.bli.coord = [] ∧ s.bli.report = []) → exec c s = .next shown) ∧
    (clear → waited →
      (∀ run rest, s.bli.coord = .enrol run :: rest → told 33 (leBytes 2 run.toNat)) ∧
      (∀ run n m fig (chans : PerChan (Option OutcomeRecord)) rest, s.bli.coord = .done run n m fig chans :: rest →
        told 34 (leBytes 2 run.toNat ++ leBytes 2 n ++ leBytes 1 m.code ++ leBytes 1 (if fig.isSome then 1 else 0)
          ++ leBytes 4 (fig.getD 0) ++ doneChannelBytes chans.a ++ doneChannelBytes chans.b)) ∧
      (∀ run n rest, s.bli.coord = .lapse run n :: rest →
        let behind := (List.range 61).filter fun x =>
          (rosterAt s.rsq.roster x).status = .enrolled ∧ (rosterAt s.rsq.roster x).reached n = false
        (behind ≠ [] →
          goes .coordination 35 63 (leBytes 2 run.toNat ++ leBytes 2 n ++ leBytes 8 (lapseSet behind)) behind) ∧
        (behind = [] → s.bli.waiting = [] → rest.length < 6 →
          exec c s = exec c (s.mapBli fun b => { b with coord := rest }))) ∧
      (∀ run n reason rest, s.bli.coord = .withdraw run n reason :: rest →
        told 36 (leBytes 2 run.toNat ++ leBytes 2 n ++ leBytes 1 reason.code)) ∧
      (∀ run x v h rest, s.bli.coord = .void run x v h :: rest →
        told 38 (leBytes 2 run.toNat ++ leBytes 1 x ++ leBytes 4 v ++ leBytes 4 h)) ∧
      (∀ cause free damaged last, reports (.hello cause free damaged last) 32
        (leBytes 1 cause ++ leBytes 1 free ++ leBytes 1 damaged ++ leBytes 2 last)) ∧
      (∀ drops entries, reports (.result drops entries) 39
        (leBytes 1 drops ++ leBytes 1 entries.length ++ (entries.map Entry.bytes).flatten)) ∧
      reports .status 40 (leBytes 1 s.rsq.runState.code ++ leBytes 2 s.runNumber.toNat ++ leBytes 2 s.rsq.seq
        ++ leBytes 1 s.rsq.desc ++ leBytes 1 (count .enrolled) ++ leBytes 1 (count .lapsed) ++ leBytes 1 (count .withdrawn)
        ++ leBytes 2 s.rrp.flags.toNat ++ leBytes 2 s.rrp.mask.toNat ++ leBytes 1 s.sys.holds.code
        ++ leBytes 2 s.bli.lineErrors ++ leBytes 2 s.bli.overruns ++ leBytes 2 s.bli.lost ++ leBytes 2 s.bli.strays
        ++ leBytes 4 s.seu.watermark ++ leBytes 1 s.freeCount ++ leBytes 1 (meterVerdictCode s.rsq.verdict)
        ++ leBytes 1 (sealOutcomeCode s.seu.outcome)
        ++ (match s.rrp.lastRefusal with
            | some x => leBytes 1 x.kind ++ leBytes 1 x.cause.code
            | none => [0, 0])
        ++ (match s.plt.fault with
            | some x => leBytes 1 x.cause.code ++ leBytes 1 x.desc ++ leBytes 2 x.seq ++ leBytes 1 (completionCode x.completion)
            | none => [0, 0, 0, 0, 0])) ∧
      (∀ p, reports (.record p) 41 p) ∧
      ∀ sum damaged, reports (.storeSum sum damaged) 42 (leBytes 2 sum ++ leBytes 1 damaged))

/-- A claim's serial is formed at the attempt as H + 1, and a claim that has none left ends the sealing with EXHAUSTED (R144). The confirm
timer of an open claim confirms it: RECORDING, the serial fixed, and the record handed over at level SEALED for the reserved slot (R145,
R148), where the write waits for the store's operation in flight, and with the store idle begins at once (R156, R157). The record of a
sealing that ends with EXHAUSTED goes to the reserved slot at level FILED (R147). That the marks of an EMPTY slot call for no erase is the
model's reading (log entry 46), and that a slot with no programmed content cell is one whose bytes are all 0 its choice (log entry 51). -/
def Obligations.OwnClaimIsFormedAndConfirmed : Prop :=
  (∀ (s : State) (line : List LineEdge) (run : Half) (rest : List CoordFrame) (s0 s1 : Nat), (s.see line).mayStart = true →
    s.bli.coord = .claim run :: rest → s.rsq.run = some run → s.seu.claim.state = .claimWait →
    s.seu.block = some (s0, s1) →
    (s.seu.watermark + 1 ≤ s1 → ∃ t a, exec (.sendAttemptStart line) s = .next t ∧ t.bli.attempt = some a ∧
      a.part = .coordination ∧ a.serial = s.seu.watermark + 1 ∧ t.seu.claim = s.seu.claim ∧ t.bli.coord = s.bli.coord ∧
      t.rsq = s.rsq ∧ t.rst = s.rst ∧
      a.bytes = frameBytes s.sys.address 37 63 (leBytes 2 run.toNat ++ leBytes 4 (s.seu.watermark + 1))) ∧
    (s1 < s.seu.watermark + 1 → ∃ t, exec (.sendAttemptStart line) s = .next t ∧
      t.seu.claim.state = .sealDone ∧ t.seu.claim.confirmed = false ∧ t.seu.outcome = some .exhausted ∧
      t.seu.press = s.seu.press ∧ t.rst.slots = s.rst.slots ∧
      (s.rsq.runState = .sealing → t.rsq = { s.rsq with runState := .finished }) ∧
      ∀ n v, s.seu.claim.slot = some n → s.rsq.verdict = some v →
        s.HandsOver t (s.filedJob run.toNat v (some .exhausted) (some n)))) ∧
  (∀ (s : State) (n v : Nat), s.seu.claim.state = .claimOpen → s.seu.claim.slot = some n → s.seu.claim.serial = some v →
    s.rst.waiting.length < 8 → s.rst.op ≠ none ∨ s.rst.waiting = [] →
    ∃ t j, exec .confirmTimerExpiry s = .next t ∧
      t.seu.claim = { s.seu.claim with state := .recording, confirmed := true, confirm := none } ∧ t.seu.press = s.seu.press ∧
      j.sealed = true ∧ j.slot = some n ∧ j.record.serial = some v ∧ j.record.outcome = some .sealed ∧
      j.record.tally = s.rsq.tally ∧ t.rsq = s.rsq ∧
      (s.rst.op ≠ none → t.rst = { s.rst with waiting := s.rst.waiting ++ [.write j] }) ∧
      (s.rst.op = none → s.WriteBegins n j t))

/-- A frame sent leaves its part, and w is the own address; the quiet count starts at the frame's last dominant bit (R91, R93). The places
of the coordination part go to the frames kept for it, the earliest first (R98, R108). The owner is told: nothing follows a WITHDRAW and a
SEAL VOID; the own SEAL CLAIM, whose sending sets H to its serial, opens the claim and starts the 50 ms of the confirm timer (R144, R145),
and one that an abort has ended meanwhile sets H alone (R151); the own ENROL enrols the station or takes it to WAIT_LOAD when its window has
closed (R111); and the own LAPSE has its list applied to the own roster, which closes the barrier (R121). Behind a frame that leaves the
reporting part, a due STATUS is queued first (R137); then the requests that wait in the receive buffer are taken in their order, each as its
command, until the part is full (R96); then, with none left that waits, the test for a RESULT follows (R132 to R134; log entry 43). How the
quiet count is kept is the model's choice (log entry 13), and the phase none in WAIT_LOAD its reading (log entry 23), as is that the H of a
run opened since never falls (R140, log entry 40). -/
def Obligations.SentFrameLeavesItsPart : Prop :=
  ∀ (s : State) (a : Attempt), s.LampsFollow → s.bli.attempt = some a → s.bli.afterStuck = false →
    let ended : State := s.mapBli fun b => { b with
      stage := RxStage.reset, low := false, quiet := recessiveTail a.bytes * s.sys.rate.bitTime, attempt := none
      w := BitVec.ofNat 6 s.sys.address }
    let sent (rest : List CoordFrame) : State := ended.mapBli fun b => { b with
      coord := rest ++ s.bli.waiting.take (6 - rest.length), waiting := s.bli.waiting.drop (6 - rest.length) }
    (a.part = .coordination →
      (∀ run n reason rest, s.bli.coord = .withdraw run n reason :: rest → exec .frameSent s = .next (sent rest)) ∧
      (∀ run x v h rest, s.bli.coord = .void run x v h :: rest → exec .frameSent s = .next (sent rest)) ∧
      (∀ run rest, s.bli.coord = .claim run :: rest → s.rsq.run = some run → s.seu.claim.state = .claimWait →
        a.serial = s.seu.watermark + 1 →
        exec .frameSent s = .next ((sent rest).mapSeu fun u => { u with
          watermark := a.serial
          claim := { u.claim with state := .claimOpen, serial := some a.serial, confirm := some 50000 } })) ∧
      (∀ run rest, s.bli.coord = .claim run :: rest → s.rsq.run ≠ some run ∨ s.seu.claim.state ≠ .claimWait →
        exec .frameSent s = .next ((sent rest).mapSeu fun u => { u with
          watermark := if u.watermark < a.serial then a.serial else u.watermark })) ∧
      (∀ run rest, s.bli.coord = .enrol run :: rest → s.rsq.run = some run → s.rsq.runState = .enrolling →
        (s.rsq.enrolWindow ≠ none →
          exec .frameSent s = .next ((sent rest).mapRsq fun q => { q with enrolSent := true })) ∧
        (s.rsq.enrolWindow = none → (s.descriptor s.plt.head).judge s.plt.cyclic = none →
          ∃ t, exec .frameSent s = .next t ∧ t.bli = (sent rest).bli ∧ t.plt = s.plt ∧ t.rst = s.rst ∧
            t.rsq = { s.rsq with runState := .waitLoad, phase := .none, seq := 0, desc := s.plt.head, enrolSent := true })) ∧
      (∀ run rest, s.bli.coord = .lapse run s.rsq.seq :: rest → s.rsq.run = some run → s.rsq.runState = .barrier → s.Sized →
        s.sys.address ∉ a.list → s.ownEntry.reached s.rsq.seq = true →
        ∃ t, exec .frameSent s = .next t ∧ t.rsq.runState ≠ .barrier ∧ t.rsq.barrier = .stopped ∧
          (s.mapRsq fun q => { q with roster := t.rsq.roster }).ClosesPoint t ∧
          ∀ x ∈ a.list, 1 ≤ x → x ≤ 60 → let e := rosterAt s.rsq.roster x
            rosterAt t.rsq.roster x =
              if e.status = .enrolled ∨ e.status = .absent then { e with status := .lapsed } else e)) ∧
    (∀ f rest, a.part = .reporting → s.bli.report = f :: rest → s.rrp.statusDue = false → s.rrp.queue = [] → s.bli.buffer = [] →
      exec .frameSent s = .next (ended.mapBli fun b => { b with report := rest })) ∧
    (∀ f rest, a.part = .reporting → s.bli.report = f :: rest → s.Sized → s.rsq.runState ≠ .clashed →
      let left : State := ended.mapBli fun b => { b with report := rest }
      let u : State := if s.rrp.statusDue = true then
          (left.mapBli fun b => { b with report := rest ++ [.status] }).mapRrp fun r => { r with statusDue := false }
        else left
      let called := u.rrp.queue ≠ [] ∧ (u.rrp.tq ≤ u.rrp.queue.length ∨ (∃ e ∈ u.rrp.queue, e.isPoint = true) ∨ u.rrp.call = true) ∧
        (∀ g ∈ u.bli.report, isResult g = false) ∧ u.bli.report.length < 4 ∧ s.sys.holds.reporting = false
      let asks (q : RxFrame) (c : Instr) : Prop := (q.kind = 10 ∧ c = .statusAsk) ∨
        (∃ n, q.kind = 11 ∧ q.payload = [n] ∧ (n.toNat < 32 ∨ n = 255) ∧ c = .recordAsk n) ∨
        ∃ n, q.kind = 14 ∧ q.payload = [n] ∧ n.toNat ≤ 32 ∧ c = .storeSumAsk n
      (s.bli.buffer = [] → ¬ called → exec .frameSent s = .next u) ∧
      (s.bli.buffer = [] → called → ∃ t, exec .frameSent s = .next t ∧ u.FormsResult t u.rrp.queue u.rrp.drops ∧
        t.rrp.delay = (if t.rrp.queue = [] then none else if s.rrp.td = 0 then s.rrp.delay else some s.rrp.td) ∧
        t.rrp.flags = s.rrp.flags ∧ t.rrp.statusDue = false ∧ t.rsq = s.rsq ∧ t.rst = s.rst ∧ t.seu = s.seu) ∧
      (s.bli.buffer ≠ [] → s.rrp.statusDue = true → exec .frameSent s = .next u) ∧
      ∀ q more c v, s.bli.buffer = q :: more → s.rrp.statusDue = false → s.takesFrames = true → asks q c →
        exec c (left.mapBli fun b => { b with buffer := more }) = .next v →
        (v.bli.report.length = 4 → exec .frameSent s = .next v) ∧
        (v.bli.report.length < 4 → exec .frameSent s = exec .frameSent ((s.mapBli fun b => { b with buffer := more }).mapRrp fun r =>
          { r with lastRefusal := v.rrp.lastRefusal })))

/-- The sending of the own DONE sets the own last-done and figure and starts the barrier timer; the barrier closes at once when every
enrolled peer has reached the point, and the point is then, in a non-cyclic run, written back as completed, its entry, with the fields of
R49's table, is handed to the result reporter, and it joins the tally in each of its items (R49, R63, R80, R109, R116, R117). The next step
is the first line of the table that applies: run end, PAUSED at the tail, or WAIT_LOAD for s + 1 with take-up of the head or of next, or its
fault, which hands the record of the run to the store (R123, R157; log entries 46 and 51); the loop counter rises at a descriptor that is
last in a cyclic run (R75, R77, R81 to R83). -/
def Obligations.OwnDoneSentStartsOrClosesTheBarrier : Prop :=
  ∀ (s : State) (a : Attempt) (run : Half) (m : Mask) (fig : Option Nat) (chans : PerChan (Option OutcomeRecord))
    (rest : List CoordFrame) (f : PointFields), s.bli.attempt = some a → a.part = .coordination →
    s.bli.coord = .done run s.rsq.seq m fig chans :: rest → s.rsq.run = some run → s.rsq.runState = .barrier →
    s.Sized → 1 ≤ s.sys.address → s.sys.address ≤ 60 → s.ownEntry.reached s.rsq.seq = false → s.ownEntry.status = .enrolled →
    s.current.point = some f →
    ((∃ x, 1 ≤ x ∧ x ≤ 60 ∧ x ≠ s.sys.address ∧ (rosterAt s.rsq.roster x).status = .enrolled ∧
        (rosterAt s.rsq.roster x).reached s.rsq.seq = false) →
      ∃ t, exec .frameSent s = .next t ∧
        t.rsq = { s.rsq with
          barrier := .running f.barrier
          roster := s.rsq.roster.set (s.sys.address - 1) { s.ownEntry with lastDone := some s.rsq.seq, figure := fig } } ∧
        t.plt = s.plt ∧ t.rrp = s.rrp ∧ t.rst = s.rst) ∧
    ((∀ x, 1 ≤ x → x ≤ 60 → x ≠ s.sys.address → (rosterAt s.rsq.roster x).status = .enrolled →
        (rosterAt s.rsq.roster x).reached s.rsq.seq = true) →
      ∃ t, exec .frameSent s = .next t ∧ t.rsq.runState ≠ .barrier ∧ t.rsq.barrier = .stopped ∧ s.ClosesPoint t ∧
        t.rsq.tally.run = (if s.rsq.tally.run < 65535 then s.rsq.tally.run + 1 else s.rsq.tally.run) ∧
        (s.plt.cyclic = false → s.rsq.desc < 48 → t.descriptor s.rsq.desc = { s.current with
          completed := true, completion := some (pointVerdict (afterDeviation s.deviation s.maskRecords)) }) ∧
        let d := s.current
        let loop := if s.plt.cyclic = true ∧ d.last = true then s.plt.loop + 1 else s.plt.loop
        let ends := s.rsq.seq = 65535 ∨ (d.last = true ∧ (s.plt.cyclic = false ∨ loop = s.plt.loops))
        let pauses := d.last = false ∧ s.rsq.desc = s.plt.tail
        let next := if d.last = true then s.plt.head else d.next
        t.plt.loop = loop ∧ t.plt.head = s.plt.head ∧ t.plt.tail = s.plt.tail ∧
        (ends → (t.rsq.runState = .finished ∨ t.rsq.runState = .sealing) ∧ t.rsq.verdict ≠ none ∧
          t.rsq.seq = s.rsq.seq ∧ t.rsq.desc = s.rsq.desc) ∧
        (¬ ends → pauses → t.rsq.runState = .paused ∧ t.rsq.verdict = s.rsq.verdict ∧
          t.rsq.seq = s.rsq.seq ∧ t.rsq.desc = s.rsq.desc) ∧
        (¬ ends → ¬ pauses → t.rsq.seq = s.rsq.seq + 1 ∧ t.rsq.desc = next ∧
          ((t.descriptor next).judge s.plt.cyclic = none → t.rsq.runState = .waitLoad ∧ t.rsq.verdict = s.rsq.verdict) ∧
          ∀ cause, (t.descriptor next).judge s.plt.cyclic = some cause → t.rsq.runState = .faulted ∧
            s.HandsOver t (t.incompleteJob run.toNat) ∧
            t.plt.fault = some ⟨cause, next, s.rsq.seq + 1, if cause = .stale then (t.descriptor next).completion else none⟩))

/-- A frame that loses the line, or whose line does not follow, stays at the head of its part; the first counts a loss and goes on receiving
the frame that won, the second counts a line error, which it raises, and its quiet count goes on from the last dominant bit that the line
followed, or from before the attempt (R91, R92). LINE_STUCK is raised once for a stretch of more than 20 ms, and its release lets no attempt
begin for 1 ms (R17, R97). That the stretch's beginning comes as a stamp with the command is the model's form (log entry 9), how the quiet
count is kept, with the bit that was not followed told by the time since the beginning of the attempt, its choice (log entry 13), and how
the 1 ms is kept its reading (log entry 27). -/
def Obligations.LineTroubleIsCounted : Prop :=
  ∀ (s : State) (a : Attempt) (since : Word), s.LampsFollow →
    let bit := s.sys.rate.bitTime
    let time := (s.time.counter - a.begun).toNat
    (s.bli.attempt = some a → a.withdrawn = false →
      exec .lineLost s = .next (s.mapBli fun b => { b with
        stage := { RxStage.reset with inFrame := true }, low := true, unseen := 0, quiet := 0, attempt := none
        lost := if b.lost < 65535 then b.lost + 1 else b.lost }) ∧
      ∃ t, exec .lineNotFollowing s = .next t ∧ t.bli.coord = s.bli.coord ∧
        t.bli.report.take s.bli.report.length = s.bli.report ∧ t.bli.attempt = none ∧ t.bli.lost = s.bli.lost ∧
        t.bli.stage = RxStage.reset ∧ t.bli.low = false ∧ (time < bit → t.bli.quiet = a.quietBefore + time) ∧
        (∀ k, 1 ≤ k → k < 12 → k * bit ≤ time → time < (k + 1) * bit → t.bli.quiet = time - k * bit) ∧
        (∀ pre rest, lineBits a.bytes = pre ++ true :: rest → pre.length * bit + bit ≤ time →
          (∀ d ∈ rest.take (time / bit - pre.length - 1), d = false) → t.bli.quiet = time - (pre.length + 1) * bit) ∧
        t.bli.lineErrors = (if s.bli.lineErrors < 65535 then s.bli.lineErrors + 1 else s.bli.lineErrors) ∧
        Event.lineError.isIn t.rrp.flags = true ∧ t.rsq = s.rsq ∧ t.seu = s.seu ∧ t.rst = s.rst) ∧
    (s.alive = true → s.bli.stuck = false →
      (20000 < (s.time.counter - since).toNat → ∃ t, exec (.lineStuck since) s = .next t ∧ t.bli.stuck = true ∧
        t.bli.dominantSince = since ∧ t.bli.low = true ∧ t.bli.quiet = 0 ∧ Event.lineStuck.isIn t.rrp.flags = true ∧ t.rsq = s.rsq ∧
        t.bli.coord = s.bli.coord ∧ t.rst = s.rst) ∧
      ((s.time.counter - since).toNat ≤ 20000 → exec (.lineStuck since) s = .next s)) ∧
    (s.alive = true → s.bli.stuck = true → exec (.lineStuck since) s = .next s ∧
      exec .stuckLineReleased s = .next (s.mapBli fun b => { b with
        stuck := false, stage := RxStage.reset, low := false, quiet := 0, afterStuck := true }))

/-- A frame in error is discarded: the line error count and the event rise, w and the receive buffer stay (R94), whether it comes as
FRAME_RECEIVE_ERROR or as characters in error. The stage hunts, and the quiet count and the 1 ms after a stuck stretch are as the line shows
them (R91, R94, R97), whose changes come with the command by the model's choice (log entries 13 and 27). The event calls for a STATUS when
it was clear and the notify mask holds it (R135, R137). -/
def Obligations.ReceptionErrorIsCounted : Prop :=
  ∀ (s : State) (c : Instr) (line : List LineEdge), s.takesFrames = true →
    (∃ e, c = .frameReceiveError ⟨e, line⟩) ∨
      (∃ bytes present e, c = .frameReceived ⟨bytes, line, present⟩ ∧ receiveFrame bytes = .error e) →
    ∃ t, exec c s = .next t ∧ t.bli.w = s.bli.w ∧ t.bli.buffer = s.bli.buffer ∧ t.bli.strays = s.bli.strays ∧
      t.bli.stage = RxStage.reset ∧ s.LineShown line t ∧
      t.bli.lineErrors = (if s.bli.lineErrors < 65535 then s.bli.lineErrors + 1 else s.bli.lineErrors) ∧
      t.rrp.flags = s.rrp.flags ||| 1#16 ∧ t.rsq = s.rsq ∧ t.plt = s.plt ∧ t.rst = s.rst ∧ t.bli.coord = s.bli.coord ∧
      (s.rrp.mask.getLsbD 0 = false ∨ s.rrp.flags.getLsbD 0 = true → t.bli.report = s.bli.report) ∧
      (s.rrp.mask.getLsbD 0 = true → s.rrp.flags.getLsbD 0 = false → s.bli.report = [] → s.rsq.runState ≠ .clashed →
        t.bli.report = [.status])

/-- A frame of another sender sets w. One for another station, and a HELLO, RESULT, STATUS, RECORD or STORE SUM, does nothing else; one of
an unknown kind, of a kind that its sender may not send, or of another form is stray. One that its owner takes acts at its entry as the
command it brings, whatever requests wait; a request waits in the buffer while the reporting part is full, and any frame but a RESTART that
finds the buffer full is lost with RX_OVERRUN (R90, R91, R95, R96, R166). Each frame of the bench controller, with its fields laid out as in
R102, brings its command with those fields. The quiet count starts at the frame's last dominant bit, and the 1 ms after a stuck line is over
if it was when the frame began, or at an earlier break of the line (R91, R97): that the changes of the line come with the command is the
model's choice (log entry 13), the test of the 1 ms its reading (log entry 27), and its choice, too, is that the frame acts as the command
of its kind (log entry 11), and that it passes a waiting request of its own owner (log entry 48). -/
def Obligations.AcceptedFrameEntersTheBuffer : Prop :=
  (∀ (c : Instr) (x target : BitVec 6) (kind : Nat) (payload : List Byte) (present : Bool), c.controllerFrame = some (kind, payload) →
    c.wf = true → (∀ f level, c = .runOpen f level → level = present) →
    frameCommand present ⟨x, BitVec.ofNat 8 kind, target, payload⟩ = some c ∧ formFits kind payload = true) ∧
  ∀ (s : State) (sender kind target : Nat) (payload : List Byte) (line : List LineEdge) (present : Bool), s.takesFrames = true →
    s.LampsFollow → 1 ≤ s.sys.address → s.sys.address ≤ 60 → sender < 64 → sender ≠ s.sys.address → kind < 256 → target < 64 →
    payload.length ≤ 48 →
    let bytes := frameBytes sender kind target payload
    let c : Instr := .frameReceived ⟨bytes, line, present⟩
    let f : RxFrame := ⟨BitVec.ofNat 6 sender, BitVec.ofNat 8 kind, BitVec.ofNat 6 target, payload⟩
    let bit := s.sys.rate.bitTime
    let before := (s.see line).bli
    let heard : State := s.mapBli fun b => { b with
      stage := RxStage.reset, low := false, unseen := before.unseen, quiet := recessiveTail bytes * bit, w := BitVec.ofNat 6 sender
      afterStuck := before.afterStuck &&
        (before.low || decide (before.quiet < 1000 + (13 + 10 * (6 + payload.length)) * bit)) }
    let addressed := target = s.sys.address ∨ target = 63
    let sent := (sender = 0 ∧ 1 ≤ kind ∧ kind ≤ 15) ∨ (1 ≤ sender ∧ sender ≤ 60 ∧ 32 ≤ kind ∧ kind ≤ 42)
    let unread := kind = 32 ∨ 39 ≤ kind
    let waits := (kind = 10 ∨ kind = 11 ∨ kind = 14) ∧ s.bli.report.length = 4
    (¬ addressed ∨ (sent ∧ unread) → exec c s = .next heard) ∧
    (addressed → ¬ sent ∨ (¬ unread ∧ formFits kind payload = false) →
      exec c s = .next (heard.mapBli fun b => { b with strays := if b.strays < 65535 then b.strays + 1 else b.strays })) ∧
    (addressed → sent → ¬ unread → formFits kind payload = true →
      (kind = 15 → exec c s = exec .restart heard) ∧
      (kind ≠ 15 →
        (s.bli.buffer.length < 4 → s.bli.report.length ≤ 4 →
          (waits → exec c s = .next (heard.mapBli fun b => { b with buffer := b.buffer ++ [f] })) ∧
          (¬ waits → ∃ b, frameCommand present f = some b ∧ exec c s = exec b heard)) ∧
        (s.bli.buffer.length = 4 → ∃ t, exec c s = .next t ∧ t.bli.buffer = s.bli.buffer ∧ t.bli.w = BitVec.ofNat 6 sender ∧
          t.bli.overruns = (if s.bli.overruns < 65535 then s.bli.overruns + 1 else s.bli.overruns) ∧
          Event.rxOverrun.isIn t.rrp.flags = true ∧ t.rsq = s.rsq ∧ t.plt = s.plt ∧ t.seu = s.seu)))

/-- A frame received under the own address puts the station in CLASHED with ADDRESS_CLASH raised: both transmit parts are empty, its point
is left, and an enrolled station without a verdict takes INCOMPLETE, with its record handed to the store; a sealing whose claim has not been
confirmed is ABORTED, with its record handed over for the reserved slot if it has one; and any other station hands none over (R147, R151,
R157, R167; log entries 46 and 51). That the point phase is none also where no point was in progress is the model's reading (log entry 23).
-/
def Obligations.OwnAddressHeardClashes : Prop :=
  ∀ (s : State) (kind target : Nat) (payload : List Byte) (line : List LineEdge) (present : Bool), s.takesFrames = true →
    1 ≤ s.sys.address → s.sys.address ≤ 60 → s.rsq.runState ≠ .clashed → target < 64 → kind < 256 → payload.length ≤ 48 →
    ∃ t, exec (.frameReceived ⟨frameBytes s.sys.address kind target payload, line, present⟩) s = .next t ∧
      t.rsq.runState = .clashed ∧ Event.addressClash.isIn t.rrp.flags = true ∧ t.bli.coord = [] ∧ t.bli.report = [] ∧
      t.bli.waiting = [] ∧ t.bli.attempt = none ∧ t.rrp.statusDue = false ∧ t.rsq.phase = .none ∧
      t.rsq.enrolWindow = none ∧ t.rsq.allowance = none ∧ t.rsq.barrier = .stopped ∧ t.plt = s.plt ∧
      t.rst.slots = s.rst.slots ∧ t.sys = s.sys ∧
      t.rsq.verdict = (if s.unsettled then some .incomplete else s.rsq.verdict) ∧
      (s.unsettled = true → s.HandsOver t (s.incompleteJob ((s.rsq.run.map BitVec.toNat).getD 0))) ∧
      (s.unsettled = false → s.rsq.runState ≠ .sealing → t.rst = s.rst) ∧
      (s.rsq.runState = .sealing →
        (s.seu.claim.state = .none → s.rst.reserveAsked = true →
          t.seu.outcome = some .aborted ∧ t.rst = { s.rst with reserveAsked := false }) ∧
        (∀ run n v, s.seu.claim.state = .claimWait ∨ s.seu.claim.state = .claimOpen → s.rsq.run = some run →
          s.seu.claim.slot = some n → s.rsq.verdict = some v →
          t.seu.outcome = some .aborted ∧ s.HandsOver t (s.filedJob run.toNat v (some .aborted) (some n))) ∧
        (s.seu.claim.state = .recording ∨ s.seu.claim.state = .stroke → t.rst = s.rst ∧ t.seu.claim = s.seu.claim))

/-- A command that chapter 6 gives no valid frame (an index, selector, mask, address set or sender outside its values) is stray, and nothing
else changes, whatever run it names (log entry 24); one from a peer under the own address puts the station in CLASHED, as its reception
would (log entry 26) (R84, R95, R100, R167). -/
def Obligations.IllFormedCommandsAreStray : Prop :=
  ∀ (c : Instr) (s : State), s.takesFrames = true → s.LampsFollow →
    ((∀ x, c.sender = some x → x.toNat ≠ s.sys.address) → c.wf = false →
      exec c s = .next (s.mapBli fun b => { b with strays := if b.strays < 65535 then b.strays + 1 else b.strays })) ∧
    (∀ x, c.sender = some x → x.toNat = s.sys.address → s.rsq.runState ≠ .clashed →
      ∃ t, exec c s = .next t ∧ t.rsq.runState = .clashed ∧ Event.addressClash.isIn t.rrp.flags = true ∧
        t.bli.coord = [] ∧ t.bli.report = [] ∧ t.plt = s.plt)

/-! ### The plan table (chapter 5) -/

/-- A PLAN PUT of the right form writes its descriptor, completed no; while the point in SETTLING, MEASURING or BARRIER uses the index it is
refused with IN_PROGRESS and PLAN_REFUSED, in WAIT_LOAD the new descriptor is judged, where a fault hands the record of the run to the store
(R77, R123, R157; log entries 46 and 51), and one of the wrong form is stray (R70 to R72). The payload, laid out as in R102, gives the
descriptor with its fields; its form is wrong by the index, the kind code, the mask code or the length (R70). -/
def Obligations.PlanPutWritesOrIsRefused : Prop :=
  (∀ (i : Nat) (d : Descriptor) (flags : Byte), i < 48 → d.Carried → flags.getLsbD 0 = d.last →
    readPlanPut (d.wire i flags) = some (i, d)) ∧
  (∀ p : List Byte,
    let byte (k : Nat) : Nat := (p.getD k 0).toNat
    readPlanPut p = none ↔ 48 ≤ byte 0 ∨ 3 < byte 1 ∨ (byte 1 = 0 ∧ p.length ≠ 4) ∨ (byte 1 ≠ 0 ∧ (byte 4 = 0 ∨ 3 < byte 4 ∨ p.length ≠
      if byte 1 = 1 then (if byte 4 = 3 then 43 else 35) else if byte 4 = 3 then 18 else 16))) ∧
  ∀ (s : State) (p : List Byte), s.takesFrames = true → s.LampsFollow → s.Sized →
    (readPlanPut p = none → exec (.planPut p) s = .next (s.mapBli fun b => { b with
      strays := if b.strays < 65535 then b.strays + 1 else b.strays })) ∧
    ∀ i d, readPlanPut p = some (i, d) →
      let written : State := s.mapPlt fun q => { q with plan := q.plan.set i d }
      let protects := s.rsq.runState = .settling ∨ s.rsq.runState = .measuring ∨ s.rsq.runState = .barrier
      (i < 48 ∧ d.completed = false ∧ d.completion = none) ∧
      (i ≠ s.rsq.desc → exec (.planPut p) s = .next written) ∧
      (¬ protects → s.rsq.runState ≠ .waitLoad → exec (.planPut p) s = .next written) ∧
      (i = s.rsq.desc → s.rsq.runState = .waitLoad → d.judge s.plt.cyclic = none → exec (.planPut p) s = .next written) ∧
      (∀ c, i = s.rsq.desc → s.rsq.runState = .waitLoad → d.judge s.plt.cyclic = some c →
        ∃ t, exec (.planPut p) s = .next t ∧ t.rsq.runState = .faulted ∧ t.rsq.verdict = some .incomplete ∧
          s.HandsOver t (s.incompleteJob ((s.rsq.run.map BitVec.toNat).getD 0)) ∧
          t.plt = { written.plt with fault := some ⟨c, i, s.rsq.seq, if c = .stale then d.completion else none⟩ }) ∧
      (i = s.rsq.desc → protects →
        ∃ t, exec (.planPut p) s = .next t ∧ t.plt = s.plt ∧ t.rsq = s.rsq ∧
          Event.planRefused.isIn t.rrp.flags = true ∧ t.rrp.lastRefusal = some ⟨1, .inProgress⟩)

/-- PLAN TAIL of the current run sets the tail; in PAUSED a reachable tail releases the station to WAIT_LOAD for s + 1 with the paused
descriptor's next, if that passes take-up, and one not reachable leaves it paused; of another run it is ignored (R84, R85). PLAN CLEAR is
refused in a run with IN_RUN; outside one it empties the plan and the fault record, and takes FAULTED to IDLE (R73). The phase none in
WAIT_LOAD is the model's reading (log entry 23). -/
def Obligations.PlanTailAndClear : Prop :=
  ∀ (s : State) (run : Half) (tail : Byte), s.takesFrames = true → s.LampsFollow →
    let set : State := s.mapPlt fun q => { q with tail := tail.toNat }
    (tail.toNat < 48 →
      (s.rsq.run ≠ some run ∨ s.rsq.runState.takesTail = false → exec (.planTail run tail) s = .next s) ∧
      (s.rsq.run = some run → s.rsq.runState.takesTail = true →
        (s.rsq.runState ≠ .paused ∨ s.reachable tail.toNat = false → exec (.planTail run tail) s = .next set) ∧
        (s.rsq.runState = .paused → s.reachable tail.toNat = true →
          (s.descriptor s.current.next).judge s.plt.cyclic = none →
          ∃ t, exec (.planTail run tail) s = .next t ∧ t.plt = { s.plt with tail := tail.toNat } ∧ t.rst = s.rst ∧
            t.bli = s.bli ∧ t.rrp = s.rrp ∧
            t.rsq = { s.rsq with runState := .waitLoad, phase := .none, seq := s.rsq.seq + 1, desc := s.current.next }))) ∧
    ((s.rsq.runState.refusesClear = true → ∃ t, exec .planClear s = .next t ∧ t.plt = s.plt ∧ t.rsq = s.rsq ∧
        Event.planRefused.isIn t.rrp.flags = true ∧ t.rrp.lastRefusal = some ⟨3, .inRun⟩ ∧ t.rst = s.rst) ∧
      (s.rsq.runState.refusesClear = false → ∃ t, exec .planClear s = .next t ∧
        t.plt = { s.plt with plan := List.replicate 48 Descriptor.reset, fault := none } ∧
        t.rsq = { s.rsq with runState := if s.rsq.runState = .faulted then .idle else s.rsq.runState } ∧
        t.rrp = s.rrp ∧ t.bli = s.bli ∧ t.rst = s.rst))

/-! ### The run (chapter 7) -/

/-- A malformed RUN OPEN is stray and nothing else, and one of the current run is ignored, as is any in FAULTED and CLASHED (R99, R106). One
taken in IDLE, FINISHED or WITHDRAWN sets up every block, and the station enrols with a meter present and a head that is not NONE (R107, R1,
R74, R130, R139). In ENROLLING and at a point it acts first as RUN ABORT; so it does in SEALING, where it is then taken if the sealing has
ended and refused with IN_PROGRESS if not, as it is when the abort has been taken before (R106, R127). The level of MPRES goes with the
command, and the pin takes it (log entry 6); that the point phase becomes none is the model's reading (log entry 23). -/
def Obligations.RunOpenSetsUpEveryBlock : Prop :=
  ∀ (s : State) (f : RunOpenFields) (present : Bool), s.takesFrames = true → s.LampsFollow →
    let malformed := f.s0 = 0 ∨ f.s1.toNat < f.s0.toNat ∨ 48 ≤ f.head.toNat ∨ 48 ≤ f.tail.toNat
    let enrols := present = true ∧ (s.descriptor f.head.toNat).kind ≠ .none
    let pinned : State := s.mapPins fun p => { p with mpres := present }
    let c : Instr := .runOpen f present
    (malformed → exec c s = .next (pinned.mapBli fun b => { b with
      strays := if b.strays < 65535 then b.strays + 1 else b.strays })) ∧
    (¬ malformed → s.rsq.run = some f.run ∨ s.rsq.runState = .faulted ∨ s.rsq.runState = .clashed → exec c s = .next pinned) ∧
    (¬ malformed → s.rsq.run ≠ some f.run →
      (∀ run, s.rsq.run = some run → s.rsq.runState.inPoints = true ∨ s.rsq.runState = .enrolling →
        ∃ u, exec (.runAbort run) pinned = .next u ∧ u.rsq.runState.takesOpen = true ∧ exec c s = exec c u) ∧
      (s.rsq.runState = .sealing → s.seu.aborted = true →
        exec c s = .next (pinned.mapRrp fun r => { r with lastRefusal := some ⟨4, .inProgress⟩ })) ∧
      (s.rsq.runState = .sealing → s.seu.aborted = false →
        (s.seu.claim.state = .none → s.rst.reserveAsked = true →
          ∃ t, exec c s = .next t ∧ t.rsq.runState = .enrolling ∧ t.rsq.run = some f.run ∧ t.seu.outcome = none ∧
            t.seu.claim.state = .none ∧ t.rst = { s.rst with reserveAsked := false } ∧ t.plt.head = f.head.toNat) ∧
        (s.seu.claim.state = .claimWait ∨ s.seu.claim.state = .claimOpen →
          ∃ t, exec c s = .next t ∧ t.rsq.runState = .enrolling ∧ t.rsq.run = some f.run ∧ t.seu.outcome = none ∧
            t.seu.claim.state = .none ∧ t.plt.head = f.head.toNat) ∧
        (s.seu.claim.state = .recording ∨ s.seu.claim.state = .stroke →
          ∃ t, exec c s = .next t ∧ t.rsq.runState = .sealing ∧ t.rsq.run = s.rsq.run ∧ t.rsq.verdict = s.rsq.verdict ∧
            t.rrp.lastRefusal = some ⟨4, .inProgress⟩ ∧ t.seu.aborted = true ∧
            t.seu.claim = s.seu.claim ∧ t.seu.press = s.seu.press ∧ t.rst = s.rst ∧ t.plt = s.plt))) ∧
    (¬ malformed → s.rsq.run ≠ some f.run → s.rsq.runState.takesOpen = true → s.rrp.queue = [] → s.Sized →
      1 ≤ s.sys.address → s.sys.address ≤ 60 → s.bli.coord.length < 6 → s.bli.waiting = [] →
      ∃ t, exec c s = .next t ∧
        t.rsq = { s.rsq with
          runState := .enrolling, run := some f.run, seq := 0, desc := f.head.toNat, verdict := none, tally := Tally.reset
          barrier := .stopped, enrolWindow := some (max 1 f.window.toNat), allowance := none, enrolSent := false
          phase := .none, roster := t.rsq.roster } ∧
        (enrols → t.bli.coord = s.bli.coord ++ [.enrol f.run] ∧
          t.rsq.roster = (List.replicate 60 RosterEntry.reset).set (s.sys.address - 1) ⟨.enrolled, none, none, 0⟩) ∧
        (¬ enrols → t.bli.coord = s.bli.coord ∧ t.rsq.roster = List.replicate 60 RosterEntry.reset) ∧
        t.plt = { s.plt with head := f.head.toNat, tail := f.tail.toNat, cyclic := f.flags.getLsbD 0
                             loops := max 1 f.loops.toNat, loop := 0 } ∧
        t.seu.enable = f.flags.getLsbD 1 ∧ t.seu.block = some (f.s0.toNat, f.s1.toNat) ∧
        t.seu.watermark = f.s0.toNat - 1 ∧ t.seu.strokeTimeout = max 1 f.stroke.toNat ∧ t.seu.voids = [] ∧
        t.seu.claim = ⟨.none, none, false, 0, none, none⟩ ∧ t.seu.outcome = none ∧ t.seu.aborted = false ∧
        t.seu.press = s.seu.press ∧
        t.rrp = { s.rrp with tq := min 16 (max 1 f.tq.toNat), td := f.td.toNat } ∧
        t.meter .a = { s.meter .a with
          edge := if f.maEdge.getLsbD 0 then .falling else .rising
          wg := if f.maWg = 0 then 10 else f.maWg.toNat, wd := if f.maWd = 0 then 20 else f.maWd.toNat } ∧
        t.meter .b = { s.meter .b with
          edge := if f.mbEdge.getLsbD 0 then .falling else .rising
          wg := if f.mbWg = 0 then 10 else f.mbWg.toNat, wd := if f.mbWd = 0 then 20 else f.mbWd.toNat } ∧
        t.pins = pinned.pins ∧ t.rst = s.rst ∧ t.gates = s.gates ∧ t.ecu = s.ecu)

/-- At the expiry of the enrol window a station whose ENROL was sent stands in WAIT_LOAD for the head, or in FAULTED with the cause when the
head fails take-up, and any other in IDLE and not enrolled; the allowance starts, but the withdrawal into FAULTED stops it and hands the
record of the run to the store (R110, R111, R77, R123, R157; log entries 46 and 51). A descriptor is judged at take-up by the first test
that applies: EMPTY, STALE, ZERO_GATE, DISCARD, LIMITS, RANGE (R76). The phase none in WAIT_LOAD is the model's reading (log entry 23). -/
def Obligations.EnrolWindowExpiryDecides : Prop :=
  (∀ (d : Descriptor) (cyclic : Bool) (c : PlanCause),
    d.judge cyclic = some c ↔ d.Faults cyclic c ∧ ∀ e : PlanCause, e.code < c.code → ¬ d.Faults cyclic e) ∧
  ∀ (s : State) (n : Nat), s.rsq.enrolWindow = some n → s.rsq.runState = .enrolling → s.Sized →
    1 ≤ s.sys.address → s.sys.address ≤ 60 →
    (s.rsq.enrolSent = true → (s.descriptor s.plt.head).judge s.plt.cyclic = none →
      ∃ t, exec .enrolWindowExpiry s = .next t ∧ t.plt = s.plt ∧ t.bli = s.bli ∧ t.rst = s.rst ∧
        t.rsq = { s.rsq with runState := .waitLoad, phase := .none, seq := 0, desc := s.plt.head
                             enrolWindow := none, allowance := some 20000 }) ∧
    (∀ c, s.rsq.enrolSent = true → (s.descriptor s.plt.head).judge s.plt.cyclic = some c →
      ∃ t, exec .enrolWindowExpiry s = .next t ∧ t.rsq.runState = .faulted ∧ t.rsq.verdict = some .incomplete ∧
        s.HandsOver t (s.incompleteJob ((s.rsq.run.map BitVec.toNat).getD 0)) ∧
        Event.planFault.isIn t.rrp.flags = true ∧ t.ownEntry.status = .withdrawn ∧ t.rsq.allowance = none ∧
        .withdraw s.runNumber 0 .planFault ∈ t.bli.coord ++ t.bli.waiting ∧
        t.plt = { s.plt with fault := some ⟨c, s.plt.head, 0,
          if c = .stale then (s.descriptor s.plt.head).completion else none⟩ }) ∧
    (s.rsq.enrolSent = false → s.enrolOnLine = false →
      ∃ t, exec .enrolWindowExpiry s = .next t ∧ t.rsq.runState = .idle ∧ t.ownEntry.status = .absent ∧
        t.rsq.enrolWindow = none ∧ t.rsq.allowance = some 20000 ∧ .enrol s.runNumber ∉ t.bli.coord ++ t.bli.waiting ∧
        t.plt = s.plt ∧ t.rst = s.rst)

/-- What the other timers do: the late-ENROL allowance and the REJECT pulse end alone (R67, R110); the barrier timer queues a LAPSE for the
point (R119); a flashing lamp toggles and starts its next half period (R66). The command itself says that the time has passed (log entry 9).
-/
def Obligations.TimersExpire : Prop :=
  ∀ s : State, s.LampsFollow →
    exec .lateEnrolAllowanceEnd s = .next (s.mapRsq fun q => { q with allowance := none }) ∧
    exec .rejectPulseEnd s = .next (s.mapSeu fun u => { u with reject := false, rejectTimer := none }) ∧
    (∀ n, s.rsq.barrier = .running n → s.rsq.runState = .barrier → s.bli.coord.length < 6 → s.bli.waiting = [] →
      exec .barrierTimerExpiry s = .next ((s.mapRsq fun q => { q with barrier := .expired }).mapBli fun b => { b with
        coord := b.coord ++ [.lapse s.runNumber s.rsq.seq] })) ∧
    ∀ n, s.seu.lamps.flashTimer = some n →
      exec .lampFlashToggle s = .next (s.mapSeu fun u => { u with lamps := { u.lamps with
        flashLit := !u.lamps.flashLit
        flashTimer := if u.lamps.amber = .flash2 then some 250000 else if u.lamps.green = .flash1 then some 500000 else none } })

/-- LOAD READY in WAIT_LOAD for n with descriptor dn, by the first line of the table that applies (R112): an older point is ignored, a later
one withdraws with OUT_OF_STEP, another descriptor with PLAN_MISMATCH, and the point named begins in SETTLING (R50), where each reference
input that it names takes its prescaler, channel A's first, and clears its divider if that is a new one (R9). In PAUSED one that names the
paused descriptor's next extends the tail, and the station takes the descriptor up and goes on as in WAIT_LOAD for s + 1, or has its plan
fault; any other is ignored up to s, and withdraws with PLAN_MISMATCH for s + 1 and with OUT_OF_STEP beyond (R86, R113). In SETTLING and
MEASURING one up to the point in progress is ignored, and a later one withdraws with OUT_OF_STEP (R113). In ENROLLING one is ignored before
the own ENROL has been sent, and after that acts as the expiry of the window and goes on as in WAIT_LOAD, or has the head's plan fault
(R111). A station that withdraws, or has a plan fault, hands the record of the run to the store (R123, R157; log entries 46 and 51). That
the phase is none in WAIT_LOAD, and after a withdrawal from WAIT_LOAD or PAUSED, is the model's reading (log entry 23). -/
def Obligations.LoadReadyInWaitLoadAndPaused : Prop :=
  ∀ (s : State) (run n : Half) (d : Byte), s.takesFrames = true → s.LampsFollow → s.rsq.run = some run →
    let leaves (t : State) (reason : WithdrawReason) : Prop := t.rsq.runState = .withdrawn ∧ t.rsq.phase = .none ∧
      .withdraw run s.rsq.seq reason ∈ t.bli.coord ++ t.bli.waiting ∧ t.rsq.verdict = some .incomplete ∧ t.plt = s.plt ∧
      s.HandsOver t (s.incompleteJob run.toNat)
    (s.rsq.runState = .settling ∨ s.rsq.runState = .measuring →
      (n.toNat ≤ s.rsq.seq → exec (.loadReady run n d) s = .next s) ∧
      (s.rsq.seq < n.toNat → ∃ t, exec (.loadReady run n d) s = .next t ∧ leaves t .outOfStep ∧
        Event.outOfStep.isIn t.rrp.flags = true)) ∧
    (s.rsq.runState = .enrolling →
      (s.rsq.enrolSent = false → exec (.loadReady run n d) s = .next s) ∧
      (s.rsq.enrolSent = true →
        ((s.descriptor s.plt.head).judge s.plt.cyclic = none →
          exec (.loadReady run n d) s = exec (.loadReady run n d) (s.mapRsq fun q => { q with
            runState := .waitLoad, phase := .none, seq := 0, desc := s.plt.head, enrolWindow := none, allowance := some 20000 })) ∧
        ∀ c, (s.descriptor s.plt.head).judge s.plt.cyclic = some c → ∃ t, exec (.loadReady run n d) s = .next t ∧
          t.rsq.runState = .faulted ∧ t.rsq.verdict = some .incomplete ∧ t.rsq.enrolWindow = none ∧
          s.HandsOver t (s.incompleteJob run.toNat) ∧
          .withdraw run 0 .planFault ∈ t.bli.coord ++ t.bli.waiting ∧ Event.planFault.isIn t.rrp.flags = true ∧
          t.plt = { s.plt with
            fault := some ⟨c, s.plt.head, 0, if c = .stale then (s.descriptor s.plt.head).completion else none⟩ })) ∧
    (s.rsq.runState = .waitLoad →
      (n.toNat < s.rsq.seq → exec (.loadReady run n d) s = .next s) ∧
      (s.rsq.seq < n.toNat → ∃ t, exec (.loadReady run n d) s = .next t ∧ t.rsq.runState = .withdrawn ∧
        .withdraw run s.rsq.seq .outOfStep ∈ t.bli.coord ++ t.bli.waiting ∧ Event.outOfStep.isIn t.rrp.flags = true ∧
        t.rsq.verdict = some .incomplete ∧ t.plt = s.plt ∧ s.HandsOver t (s.incompleteJob run.toNat)) ∧
      (n.toNat = s.rsq.seq → d.toNat ≠ s.rsq.desc → ∃ t, exec (.loadReady run n d) s = .next t ∧
        t.rsq.runState = .withdrawn ∧ .withdraw run s.rsq.seq .planMismatch ∈ t.bli.coord ++ t.bli.waiting ∧
        (Event.outOfStep.isIn t.rrp.flags = Event.outOfStep.isIn s.rrp.flags) ∧ t.rsq.verdict = some .incomplete ∧
        t.plt = s.plt ∧ s.HandsOver t (s.incompleteJob run.toNat)) ∧
      (∀ f, n.toNat = s.rsq.seq → d.toNat = s.rsq.desc → s.current.point = some f → f.settle ≠ 0 → s.pfe.zc.present = true →
        let takes (t : State) (r : RefName) (k : Nat) : Prop := t.pfe.ref r =
          if (s.pfe.ref r).prescaler = k then s.pfe.ref r else { s.pfe.ref r with prescaler := k, divider := 0 }
        let names (ch : Channel) (r : RefName) (k : Nat) : Prop := ∃ i, f.inputs.get ch = some i ∧ refOfCode i.input = r ∧ i.prescaler = k
        ∃ t, exec (.loadReady run n d) s = .next t ∧ t.pfe.meters = s.pfe.meters ∧ t.pfe.zc = s.pfe.zc ∧
          (∀ r k, names .a r k → takes t r k) ∧
          (∀ r k, (∀ j, ¬ names .a r j) → names .b r k → takes t r k) ∧
          (∀ r, (∀ ch k, ¬ names ch r k) → t.pfe.ref r = s.pfe.ref r) ∧
          t.rsq = { s.rsq with runState := .settling, phase := .settling, settle := 0, received := ⟨none, none⟩ } ∧
          t.bli = s.bli ∧ t.plt = s.plt ∧
          t.rrp = s.rrp ∧ t.rst = s.rst ∧ t.gates = s.gates ∧ t.ecu = s.ecu)) ∧
    (s.rsq.runState = .paused →
      (d.toNat ≠ s.current.next →
        (n.toNat ≤ s.rsq.seq → exec (.loadReady run n d) s = .next s) ∧
        (n.toNat = s.rsq.seq + 1 → ∃ t, exec (.loadReady run n d) s = .next t ∧ leaves t .planMismatch ∧
          Event.outOfStep.isIn t.rrp.flags = Event.outOfStep.isIn s.rrp.flags) ∧
        (s.rsq.seq + 1 < n.toNat → ∃ t, exec (.loadReady run n d) s = .next t ∧ leaves t .outOfStep ∧
          Event.outOfStep.isIn t.rrp.flags = true)) ∧
      (d.toNat = s.current.next → d.toNat < 48 →
        ((s.descriptor d.toNat).judge s.plt.cyclic = none →
          exec (.loadReady run n d) s = exec (.loadReady run n d) ((s.mapPlt fun p => { p with tail := d.toNat }).mapRsq
            fun q => { q with runState := .waitLoad, phase := .none, seq := s.rsq.seq + 1, desc := d.toNat })) ∧
        ∀ c, (s.descriptor d.toNat).judge s.plt.cyclic = some c → ∃ t, exec (.loadReady run n d) s = .next t ∧
          t.rsq.runState = .faulted ∧ t.rsq.verdict = some .incomplete ∧ s.HandsOver t (s.incompleteJob run.toNat) ∧
          t.plt = { s.plt with
            tail := d.toNat
            fault := some ⟨c, d.toNat, s.rsq.seq + 1, if c = .stale then (s.descriptor d.toNat).completion else none⟩ }))

/-- A LOAD READY for n + 1 closes the barrier of n: it raises the unheard count of each silent peer and lapses one at its third, the point
entry is handed to the result reporter, and the point joins the tally in each of its items (R118, R49, R63). One up to n is ignored, and one
beyond n + 1 withdraws with OUT_OF_STEP and hands the record of the run to the store (R113, R123, R157; log entries 46 and 51). That the
phase is then none is the model's reading (log entry 23). -/
def Obligations.LoadReadyClosesTheBarrier : Prop :=
  ∀ (s : State) (run n : Half) (d : Byte), s.takesFrames = true → s.rsq.run = some run → s.rsq.runState = .barrier →
    (n.toNat ≤ s.rsq.seq → s.LampsFollow → exec (.loadReady run n d) s = .next s) ∧
    (s.rsq.seq + 1 < n.toNat → ∃ t, exec (.loadReady run n d) s = .next t ∧ t.rsq.runState = .withdrawn ∧ t.rsq.phase = .none ∧
      t.rsq.barrier = .stopped ∧ .withdraw run s.rsq.seq .outOfStep ∈ t.bli.coord ++ t.bli.waiting ∧
      Event.outOfStep.isIn t.rrp.flags = true ∧ t.rsq.verdict = some .incomplete ∧ t.rsq.tally = s.rsq.tally ∧ t.plt = s.plt ∧
      s.HandsOver t (s.incompleteJob run.toNat)) ∧
    (n.toNat = s.rsq.seq + 1 → s.Sized →
      ∃ t, exec (.loadReady run n d) s = .next t ∧ (t.rsq.runState = .barrier → t.rsq.seq = s.rsq.seq + 1) ∧
        t.rsq.barrier = .stopped ∧ s.ClosesPoint t ∧
        t.rsq.tally.run = (if s.rsq.tally.run < 65535 then s.rsq.tally.run + 1 else s.rsq.tally.run) ∧
        ∀ x, 1 ≤ x → x ≤ 60 → x ≠ s.sys.address →
          let e := rosterAt s.rsq.roster x
          rosterAt t.rsq.roster x =
            if e.status = .enrolled ∧ e.reached s.rsq.seq = false then
              { e with unheard := min 3 (e.unheard + 1), status := if 2 ≤ e.unheard then .lapsed else .enrolled }
            else e)

/-- RUN ABORT of the current run gives an enrolled station without a verdict INCOMPLETE and FINISHED, an ENROLLING one whose ENROL was not
sent IDLE, and a sealing whose claim is not confirmed ABORTED, with no serial left in the claim (log entry 19); it removes the run's ENROL,
DONE and LAPSE frames that are not on the line, and in SEALING the voids, and leaves the plan. The record of the run is handed to the store,
INCOMPLETE, or ABORTED for the reserved slot (R147, R157; log entries 46 and 51). A write or stroke in flight goes on; a second abort there,
and one after the end, change nothing (R126, R127, R151; log entry 41). That the phase is none also for a station aborted in WAIT_LOAD,
BARRIER or PAUSED is the model's reading (log entry 23). -/
def Obligations.RunAbortGivesIncomplete : Prop :=
  ∀ (s : State) (run : Half), s.takesFrames = true → s.LampsFollow → s.rsq.run = some run →
    s.Sized → s.bli.attempt = none → 1 ≤ s.sys.address → s.sys.address ≤ 60 →
    (s.unsettled = true → ∃ t, exec (.runAbort run) s = .next t ∧ t.rsq.runState = .finished ∧
      t.rsq.verdict = some .incomplete ∧ t.rsq.phase = .none ∧ t.rsq.barrier = .stopped ∧ t.rsq.allowance = none ∧
      t.plt = s.plt ∧ (s.rsq.phase = .settling ∨ s.rsq.phase = .measuring → t.live .a = false ∧ t.live .b = false) ∧
      (s.seu.claim.state = .none → s.rst.reserveAsked = false → s.HandsOver t (s.incompleteJob run.toNat)) ∧
      ∀ f ∈ t.bli.coord ++ t.bli.waiting, isAbortedOf run f = false) ∧
    (s.rsq.runState = .enrolling → s.rsq.enrolSent = false → s.seu.claim.state = .none → s.rst.reserveAsked = false →
      ∃ t, exec (.runAbort run) s = .next t ∧ t.rsq.runState = .idle ∧ t.rsq.verdict = s.rsq.verdict ∧
        t.ownEntry.status = .absent ∧ t.rst = s.rst ∧ t.plt = s.plt) ∧
    (s.rsq.runState = .sealing → s.seu.aborted = true → exec (.runAbort run) s = .next s) ∧
    (s.rsq.runState = .sealing → s.seu.aborted = false → s.seu.claim.state = .none → s.rst.reserveAsked = true →
      ∃ t, exec (.runAbort run) s = .next t ∧ t.rsq.runState = .finished ∧ t.seu.outcome = some .aborted ∧
        t.rst = { s.rst with reserveAsked := false }) ∧
    (s.rsq.runState = .sealing → s.seu.aborted = false → s.seu.claim.state = .recording ∨ s.seu.claim.state = .stroke →
      ∃ t, exec (.runAbort run) s = .next t ∧ t.rsq.runState = .sealing ∧ t.rsq.verdict = s.rsq.verdict ∧ t.rst = s.rst ∧
        t.seu = { s.seu with aborted := true } ∧
        ∀ f ∈ t.bli.coord ++ t.bli.waiting, isSealOf run f = false) ∧
    (s.rsq.runState = .sealing → s.seu.aborted = false → s.seu.claim.state = .claimWait ∨ s.seu.claim.state = .claimOpen →
      ∃ t, exec (.runAbort run) s = .next t ∧ t.rsq.runState = .finished ∧ t.rsq.verdict = s.rsq.verdict ∧
        t.seu.claim.state = .sealDone ∧ t.seu.claim.serial = none ∧ t.seu.outcome = some .aborted ∧
        (∀ n v, s.seu.claim.slot = some n → s.rsq.verdict = some v →
          s.HandsOver t (s.filedJob run.toNat v (some .aborted) (some n))) ∧
        ∀ f ∈ t.bli.coord ++ t.bli.waiting, isSealOf run f = false) ∧
    (s.rsq.runState = .finished ∨ s.rsq.runState = .withdrawn ∨ s.rsq.runState = .idle →
      exec (.runAbort run) s = .next s)

/-- RUN CLOSE returns FINISHED and WITHDRAWN to IDLE with verdict, seal outcome, record store and run number as they were; in ENROLLING and
at a point it acts first as RUN ABORT and ends in IDLE, INCOMPLETE if the station was enrolled; a station in SEALING whose write or stroke
goes on refuses it with IN_PROGRESS (R127, R128). The record of a run so aborted is handed to the store (R126, R157; log entries 46 and 51).
-/
def Obligations.RunCloseReturnsToIdle : Prop :=
  ∀ (s : State) (run : Half), s.takesFrames = true → s.LampsFollow → s.rsq.run = some run →
    (s.rsq.runState = .finished ∨ s.rsq.runState = .withdrawn →
      exec (.runClose run) s = .next (s.mapRsq fun q => { q with runState := .idle })) ∧
    (s.rsq.runState.inPoints = true ∨ s.rsq.runState = .enrolling → ∃ t, exec (.runClose run) s = .next t ∧
      t.rsq.runState = .idle ∧ t.rsq.verdict = (if s.unsettled then some .incomplete else s.rsq.verdict) ∧ t.plt = s.plt ∧
      (s.unsettled = true → s.seu.claim.state = .none → s.rst.reserveAsked = false → s.HandsOver t (s.incompleteJob run.toNat))) ∧
    (s.rsq.runState = .sealing → s.seu.claim.state = .recording ∨ s.seu.claim.state = .stroke →
      ∃ t, exec (.runClose run) s = .next t ∧ t.rsq.runState = .sealing ∧ t.rrp.lastRefusal = some ⟨7, .inProgress⟩ ∧
        t.seu.claim = s.seu.claim ∧ t.seu.press = s.seu.press ∧ t.rst = s.rst)

/-- A fall of MPRES in a run withdraws an enrolled station with METER_REMOVED: WITHDRAW is queued, the verdict is INCOMPLETE and its point
is left; before the own ENROL is sent it takes the own entry to ABSENT; outside a run it changes nothing but the pin (R111, R123, R124). The
record of the run is handed to the store (R123, R157; log entries 46 and 51). That the phase is none also for a station in WAIT_LOAD,
BARRIER or PAUSED is the model's reading (log entry 23). -/
def Obligations.MeterRemovalWithdraws : Prop :=
  ∀ (s : State) (run : Half), s.alive = true → s.rsq.run = some run → s.Sized → 1 ≤ s.sys.address → s.sys.address ≤ 60 →
    (s.unsettled = true → ∃ t, exec .mpresFall s = .next t ∧ t.rsq.runState = .withdrawn ∧
      t.rsq.verdict = some .incomplete ∧ t.ownEntry.status = .withdrawn ∧ t.rsq.phase = .none ∧ t.rsq.barrier = .stopped ∧
      .withdraw run s.rsq.seq .meterRemoved ∈ t.bli.coord ++ t.bli.waiting ∧ t.pins.mpres = false ∧ t.plt = s.plt ∧
      s.HandsOver t (s.incompleteJob run.toNat) ∧
      Event.outOfStep.isIn t.rrp.flags = Event.outOfStep.isIn s.rrp.flags) ∧
    (s.rsq.runState = .enrolling → s.rsq.enrolSent = false → s.enrolOnLine = false → ∃ t, exec .mpresFall s = .next t ∧
      t.rsq.runState = .enrolling ∧ t.ownEntry.status = .absent ∧ .enrol run ∉ t.bli.coord ++ t.bli.waiting ∧
      t.rsq.verdict = s.rsq.verdict ∧ t.rst = s.rst) ∧
    (s.rsq.runState.inPoints = false → s.rsq.runState ≠ .enrolling → s.LampsFollow →
      exec .mpresFall s = .next (s.mapPins fun p => { p with mpres := false }))

/-! ### Frames heard from peers (sections 7.2 to 7.7) -/

/-- During the window or the allowance an ENROL makes an ABSENT entry ENROLLED and no other; after both it is ignored (R110). A WITHDRAW
makes its sender's entry WITHDRAWN if it is ENROLLED or ABSENT, and closes the barrier when no other enrolled entry is behind (R122, R116),
with the point entry handed on and the point in the tally (R49, R63). -/
def Obligations.PeersJoinAndLeave : Prop :=
  ∀ (s : State) (x : BitVec 6) (run n : Half) (reason : Byte), s.takesFrames = true →
    1 ≤ x.toNat → x.toNat ≤ 60 → x.toNat ≠ s.sys.address →
    s.rsq.run = some run → s.Sized → s.rsq.runState.takesRoster = true →
    let e := rosterAt s.rsq.roster x.toNat
    let e' := if e.status = .enrolled ∨ e.status = .absent then { e with status := .withdrawn } else e
    let entered (e : RosterEntry) : State := s.mapRsq fun q => { q with roster := q.roster.set (x.toNat - 1) e }
    (s.LampsFollow →
      (s.rsq.enrolWindow ≠ none ∨ s.rsq.allowance ≠ none → e.status = .absent →
        exec (.enrol x run) s = .next (entered { e with status := .enrolled })) ∧
      (e.status ≠ .absent ∨ (s.rsq.enrolWindow = none ∧ s.rsq.allowance = none) → exec (.enrol x run) s = .next s) ∧
      (s.rsq.runState ≠ .barrier → exec (.withdraw x run n reason) s = .next (entered e'))) ∧
    (s.rsq.runState = .barrier →
      (∀ y, 1 ≤ y → y ≤ 60 → y ≠ x.toNat → (rosterAt s.rsq.roster y).status = .enrolled →
        (rosterAt s.rsq.roster y).reached s.rsq.seq = true) →
      ∃ t, exec (.withdraw x run n reason) s = .next t ∧ t.rsq.runState ≠ .barrier ∧ rosterAt t.rsq.roster x.toNat = e' ∧
        (entered e').ClosesPoint t)

/-- A DONE from an enrolled peer is recorded, and then shows whether the bench is ahead: it withdraws the station with OUT_OF_STEP exactly
when its point is n or later in WAIT_LOAD for n, and later than n in SETTLING, MEASURING, BARRIER and PAUSED (R114, R115). A barrier stays
while another enrolled entry is behind, and closes when none is (R116), with the point entry handed on and the point in the tally (R49,
R63). A withdrawal hands the record of the run to the store (R123, R157; log entries 46 and 51). -/
def Obligations.DoneShowsTheBenchAhead : Prop :=
  ∀ (s : State) (x : BitVec 6) (run n : Half) (mask : Byte) (fig : Option Word), s.takesFrames = true →
    1 ≤ x.toNat → x.toNat ≤ 60 → x.toNat ≠ s.sys.address →
    (Mask.ofCode mask.toNat).isSome = true → s.rsq.run = some run → s.Sized → s.rsq.runState.takesRoster = true →
    (rosterAt s.rsq.roster x.toNat).status = .enrolled →
    let e := rosterAt s.rsq.roster x.toNat
    let e' := if e.reached n.toNat then e else { e with lastDone := some n.toNat, figure := fig.map BitVec.toNat, unheard := 0 }
    let ahead := (s.rsq.runState = .waitLoad ∧ s.rsq.seq ≤ n.toNat) ∨
      ((s.rsq.runState = .settling ∨ s.rsq.runState = .measuring ∨ s.rsq.runState = .barrier ∨ s.rsq.runState = .paused) ∧
        s.rsq.seq < n.toNat)
    (ahead → ∃ t, exec (.done x run n mask fig) s = .next t ∧ t.rsq.runState = .withdrawn ∧
      Event.outOfStep.isIn t.rrp.flags = true ∧ .withdraw run s.rsq.seq .outOfStep ∈ t.bli.coord ++ t.bli.waiting ∧
      rosterAt t.rsq.roster x.toNat = e' ∧ s.HandsOver t (s.incompleteJob run.toNat)) ∧
    (¬ ahead → ∃ t, exec (.done x run n mask fig) s = .next t ∧ t.rsq.runState ≠ .withdrawn ∧
      Event.outOfStep.isIn t.rrp.flags = Event.outOfStep.isIn s.rrp.flags ∧ rosterAt t.rsq.roster x.toNat = e') ∧
    (¬ ahead → s.rsq.runState ≠ .barrier → s.LampsFollow →
      exec (.done x run n mask fig) s = .next (s.mapRsq fun q => { q with roster := q.roster.set (x.toNat - 1) e' })) ∧
    (¬ ahead → s.rsq.runState = .barrier →
      ((∃ y, 1 ≤ y ∧ y ≤ 60 ∧ y ≠ x.toNat ∧ (rosterAt s.rsq.roster y).status = .enrolled ∧
          (rosterAt s.rsq.roster y).reached s.rsq.seq = false) → s.LampsFollow →
        exec (.done x run n mask fig) s = .next (s.mapRsq fun q => { q with roster := q.roster.set (x.toNat - 1) e' })) ∧
      ((∀ y, 1 ≤ y → y ≤ 60 → y ≠ x.toNat → (rosterAt s.rsq.roster y).status = .enrolled →
          (rosterAt s.rsq.roster y).reached s.rsq.seq = true) → e.reached n.toNat = false → n.toNat = s.rsq.seq →
        ∃ t, exec (.done x run n mask fig) s = .next t ∧ t.rsq.runState ≠ .barrier ∧ t.rsq.barrier = .stopped ∧
          (s.mapRsq fun q => { q with roster := q.roster.set (x.toNat - 1) e' }).ClosesPoint t))

/-- A LAPSE for the point in progress, or for the point last closed, that does not name the station lapses the enrolled and absent entries
it lists and takes every other enrolled peer as done; in BARRIER the test follows, and the barrier closes unless the own entry is behind. A
barrier that closes hands on the point entry and adds the point to the tally (R49, R63). One that names the station takes it out with
LAPSED, INCOMPLETE, the record of the run handed to the store, and no WITHDRAW; one for another point is ignored (R120, R121, R157; log
entries 46 and 51). That the own entry is not taken as done is the model's reading (log entry 17). -/
def Obligations.LapseHeardDecidesTheBarrier : Prop :=
  ∀ (s : State) (x : BitVec 6) (run n : Half) (addrs : BitVec 64), s.takesFrames = true → s.LampsFollow →
    1 ≤ x.toNat → x.toNat ≤ 60 → x.toNat ≠ s.sys.address → lapseSetOk addrs = true → s.rsq.run = some run → s.Sized →
    1 ≤ s.sys.address → s.sys.address ≤ 60 →
    let c : Instr := .lapse x run n addrs
    let current := n.toNat = s.rsq.seq ∧ (s.rsq.runState = .settling ∨ s.rsq.runState = .measuring ∨
      s.rsq.runState = .barrier ∨ s.rsq.runState = .paused)
    let closed := n.toNat + 1 = s.rsq.seq ∧ (s.rsq.runState = .waitLoad ∨ s.rsq.runState = .settling ∨ s.rsq.runState = .measuring)
    let decided (t : State) : Prop := t.ownEntry.lastDone = s.ownEntry.lastDone ∧ t.gates = s.gates ∧ t.ecu = s.ecu ∧
      ∀ y, 1 ≤ y → y ≤ 60 → y ≠ s.sys.address →
        let e := rosterAt s.rsq.roster y
        rosterAt t.rsq.roster y =
          if addrs.getLsbD y = true then
            (if e.status = .enrolled ∨ e.status = .absent then { e with status := .lapsed } else e)
          else if e.status = .enrolled ∧ e.reached n.toNat = false then { e with lastDone := some n.toNat, figure := none }
          else e
    let behind := s.ownEntry.status = .enrolled ∧ s.ownEntry.reached s.rsq.seq = false
    (¬ current → ¬ closed → exec c s = .next s) ∧
    (current ∨ closed → addrs.getLsbD s.sys.address = false → ∃ t, exec c s = .next t ∧ decided t ∧
      (s.rsq.runState ≠ .barrier ∨ behind → t.rsq = { s.rsq with roster := t.rsq.roster } ∧ t.rrp = s.rrp ∧
        t.ownEntry = s.ownEntry) ∧
      (s.rsq.runState = .barrier → ¬ behind → t.rsq.runState ≠ .barrier ∧ t.rsq.barrier = .stopped ∧
        (s.mapRsq fun q => { q with roster := t.rsq.roster }).ClosesPoint t)) ∧
    (current ∨ closed → addrs.getLsbD s.sys.address = true →
      ∃ t, exec c s = .next t ∧ t.rsq.runState = .withdrawn ∧ t.ownEntry.status = .lapsed ∧
        t.rsq.verdict = some .incomplete ∧ Event.lapsed.isIn t.rrp.flags = true ∧ t.plt = s.plt ∧
        s.HandsOver t (s.incompleteJob run.toNat) ∧
        (∀ m r, .withdraw run m r ∈ t.bli.coord ++ t.bli.waiting → .withdraw run m r ∈ s.bli.coord ++ s.bli.waiting))

/-! ### Results, events, holds (chapter 8, section 11.3) -/

/-- EVENT CLEAR clears the flags it names, replaces the notify mask, and changes nothing else (R136). -/
def Obligations.EventClearClearsAndMasks : Prop :=
  ∀ (s : State) (clear mask : Half), s.takesFrames = true → s.LampsFollow →
    exec (.eventClear clear mask) s = .next (s.mapRrp fun r => { r with flags := r.flags &&& ~~~clear, mask := mask })

/-- An entry handed on joins the tail of the result queue and restarts the delay timer (with Td 0 none starts, and one still running keeps
its count, which is the model's reading, log entry 43); with 16 entries there the drop count rises and REPORT_DROPPED is raised, and a gate
entry is dropped, while a point entry takes the place of the oldest gate entry, or of the oldest point entry if there is none; while the
reporting block is held nothing joins (R131, R133, R134). After a join, and at the expiry of the delay timer, which calls for a frame, a
RESULT is formed when one is called for, by Tq entries, a point entry or the timer, and none waits, the part has room and no STATUS is due:
from the head of the queue, the most entries in order that are at most 4 and fit in 46 bytes, with the drop count, which becomes 0. Else the
entries and the call stay; with the queue empty the timer only stops (R132 to R134). -/
def Obligations.EntriesJoinTheQueueAndLeaveInResults : Prop :=
  let clear (s : State) : Prop := s.bli.report.any isResult = false ∧ s.bli.report.length < 4 ∧ s.rrp.statusDue = false
  (∀ (s : State) (e : Entry), s.sys.holds.reporting = true → s.handEntry e = s) ∧
  (∀ (s : State) (e : Entry), s.sys.holds.reporting = false → s.rsq.runState ≠ .clashed →
    let t := s.handEntry e
    let u := if s.rrp.queue.length < 16 then s else s.raise .reportDropped
    let started : Option Nat := if s.rrp.td = 0 then s.rrp.delay else some s.rrp.td
    let bumped := if s.rrp.drops < 255 then s.rrp.drops + 1 else s.rrp.drops
    let joined (q : List Entry) (drops : Nat) : Prop :=
      let called := clear u ∧ (s.rrp.tq ≤ q.length ∨ (∃ x ∈ q, x.isPoint = true) ∨ s.rrp.call = true)
      (¬ called → t.bli = u.bli ∧ t.rrp.queue = q ∧ t.rrp.drops = drops ∧ t.rrp.call = s.rrp.call ∧ t.rrp.delay = started) ∧
      (called → u.FormsResult t q drops ∧ t.rrp.delay = if t.rrp.queue = [] then none else started)
    t.rsq = s.rsq ∧ t.ecu = s.ecu ∧ t.rst = s.rst ∧ t.rrp.flags = u.rrp.flags ∧ t.rrp.statusDue = u.rrp.statusDue ∧
    (s.rrp.queue.length < 16 → joined (s.rrp.queue ++ [e]) s.rrp.drops) ∧
    (16 ≤ s.rrp.queue.length → Event.reportDropped.isIn t.rrp.flags = true ∧
      (∀ g, e = .gate g → t.rrp.queue = s.rrp.queue ∧ t.rrp.drops = bumped ∧ t.rrp.delay = s.rrp.delay ∧ t.bli = u.bli) ∧
      (∀ p, e = .point p →
        (∀ pre g post, s.rrp.queue = pre ++ .gate g :: post → (∀ x ∈ pre, x.isPoint = true) → joined (pre ++ post ++ [e]) bumped) ∧
        ((∀ x ∈ s.rrp.queue, x.isPoint = true) → joined (s.rrp.queue.tail ++ [e]) bumped)))) ∧
  ∀ (s : State) (n : Nat), s.rrp.delay = some n →
    (s.rrp.queue ≠ [] → clear s → s.sys.holds.reporting = false → s.rsq.runState ≠ .clashed →
      ∃ t, exec .delayTimerExpiry s = .next t ∧ s.FormsResult t s.rrp.queue s.rrp.drops ∧
        t.rrp.delay = (if t.rrp.queue = [] ∨ s.rrp.td = 0 then none else some s.rrp.td) ∧
        t.rrp.flags = s.rrp.flags ∧ t.rsq = s.rsq ∧ t.rst = s.rst) ∧
    (s.LampsFollow → s.rrp.queue ≠ [] → ¬ clear s ∨ s.sys.holds.reporting = true →
      exec .delayTimerExpiry s = .next (s.mapRrp fun r => { r with delay := none, call := true })) ∧
    (s.LampsFollow → s.rrp.queue = [] → exec .delayTimerExpiry s = .next (s.mapRrp fun r => { r with delay := none }))

/-- HOLD SET replaces the hold set and leaves the plan table, the mains timing, the timebase and the reference counters. A newly held
channel is not live, and the working state of its input is reset. Its gate engine, if it was running, is in DONE_CH with INVALID_HELD, one
in DONE_CH stays with its ending, each with its other items at their reset values, and one in OFF is left; its dwell count is ENDED if it
was counting or ended and OFF if not, its other items at their reset values (the items that the rules do not name: log entry 37); a channel
in use has its record with INVALID_HELD. When that completes the point, the point ends, and takes engines and dwell counts to OFF (R32,
R51). A channel not newly held is left as it is. A newly held reporting block is emptied (R7, R30, R58, R68, R133, R168). A newly held press
is released. A stroke in STROKE ends at once: PRESS_FAULT is raised, and its mark is asked for (R150). The mark begins in an idle store,
where no request waits (R156), or waits behind the operation in flight (one programmed already waits there too: log entry 50), and the claim
and the run state stay. Where the store is idle and the slot carries the mark already, or where 8 requests wait, the mark is complete at
once: the seal outcome PRESS_FAULT is given, and a station in SEALING enters FINISHED, while one in CLASHED stays there (R149, R156, R158,
R167). With no stroke to end, the store, the claim and the seal outcome are left as they are. -/
def Obligations.HoldSetEndsWhatItHolds : Prop :=
  ∀ (s : State) (h : Byte), s.takesFrames = true →
    let new : Holds := ⟨h.getLsbD 0, h.getLsbD 1, h.getLsbD 2, h.getLsbD 3⟩
    let held (ch : Channel) : Prop := new.chan ch = true ∧ s.sys.holds.chan ch = false
    let ended (ch : Channel) : Prop := held ch ∧ s.live ch = true
    let ends : Prop := s.rsq.phase = .measuring ∧ s.rsq.window.state.settled = true ∧ (ended .a ∨ ended .b) ∧
      ∀ ch, s.mask.has ch = true → s.rsq.received.get ch ≠ none ∨ ended ch
    let sound : Prop :=
      ∀ ch, s.live ch = true → s.mask.has ch = true ∧ s.rsq.received.get ch = none ∧ (s.engine ch).state ≠ .doneCh
    let stroke : Prop := h.getLsbD 3 = true ∧ s.sys.holds.press = false ∧ s.seu.claim.state = .stroke ∧ s.seu.press = true
    let marked : Prop := (s.slot s.sealSlot).pressFault = true
    let begins : Prop := stroke ∧ s.rst.op = none ∧ s.rst.waiting = [] ∧ ¬ marked
    let waits : Prop := stroke ∧ s.rst.op ≠ none ∧ s.rst.waiting.length < 8
    let completes : Prop := stroke ∧ ((s.rst.op = none ∧ s.rst.waiting = [] ∧ marked) ∨ 8 ≤ s.rst.waiting.length)
    ∃ t, exec (.holdSet h) s = .next t ∧ t.sys = { s.sys with holds := new } ∧
      t.plt = s.plt ∧ t.pfe.zc = s.pfe.zc ∧ t.time = s.time ∧ t.pfe.rf0 = s.pfe.rf0 ∧ t.pfe.rf1 = s.pfe.rf1 ∧
      t.rsq.roster = s.rsq.roster ∧ t.rsq.tally = s.rsq.tally ∧ t.rsq.verdict = s.rsq.verdict ∧ t.rst.slots = s.rst.slots ∧
      t.seu.watermark = s.seu.watermark ∧ t.rrp.mask = s.rrp.mask ∧
      (∀ ch, held ch → t.live ch = false ∧
        t.meter ch = { s.meter ch with pulse := none, active := false, lastEdge := none, glitches := 0 } ∧
        (¬ ends →
          ((s.engine ch).runs = true → t.engine ch = { GateEngine.reset with state := .doneCh, ending := .held }) ∧
          ((s.engine ch).state = .doneCh →
            t.engine ch = { GateEngine.reset with state := .doneCh, ending := (s.engine ch).ending }) ∧
          ((s.engine ch).state = .off → t.engine ch = s.engine ch) ∧
          t.dwell ch = { Dwell.reset with state := if (s.dwell ch).state = .off then .off else .ended }) ∧
        (sound → s.live ch = true → ∃ r, t.ecu.outcomes.get ch = some r ∧ r.outcome = .invalidHeld)) ∧
      (∀ ch, ¬ held ch → ¬ ends → t.meter ch = s.meter ch ∧ t.engine ch = s.engine ch ∧ t.dwell ch = s.dwell ch) ∧
      (sound → ends → t.rsq.runState = .barrier ∧ t.rsq.phase = .ended ∧
        ∀ ch, t.live ch = false ∧ t.dwell ch = Dwell.reset ∧ t.engine ch = { GateEngine.reset with
          ending := if held ch ∧ (s.engine ch).runs = true then .held else (s.engine ch).ending }) ∧
      (sound → ¬ ends → t.rsq.phase = s.rsq.phase ∧
        (¬ stroke ∨ begins ∨ waits → t.rsq.runState = s.rsq.runState) ∧
        (completes → t.rsq.runState = if s.rsq.runState = .sealing then .finished else s.rsq.runState)) ∧
      (h.getLsbD 2 = true → s.sys.holds.reporting = false → t.rrp.queue = [] ∧ t.rrp.drops = 0 ∧ t.rrp.delay = none) ∧
      (h.getLsbD 3 = true → s.sys.holds.press = false → t.seu.press = false ∧ t.seu.strokeTimer = none) ∧
      (stroke → Event.pressFault.isIn t.rrp.flags = true) ∧
      (begins → t.seu.claim = s.seu.claim ∧ t.seu.outcome = s.seu.outcome ∧
        t.rst = { s.rst with op := some (.mark s.sealSlot .pressFault true), opTimer := some 1000 }) ∧
      (waits → t.seu.claim = s.seu.claim ∧ t.seu.outcome = s.seu.outcome ∧
        t.rst = { s.rst with waiting := s.rst.waiting ++ [.mark s.sealSlot .pressFault true] }) ∧
      (completes → t.rst = s.rst ∧ t.seu.outcome = some .pressFault ∧ t.seu.claim.state = .sealDone ∧
        t.seu.claim.serial = s.seu.claim.serial ∧ t.seu.claim.confirmed = s.seu.claim.confirmed) ∧
      (¬ stroke → t.rst = s.rst ∧ t.seu.claim = s.seu.claim ∧ t.seu.outcome = s.seu.outcome)

/-! ### Seal serials and the press (chapter 9) -/

/-- A claim above H raises H and nothing else; a stale one raises SEAL_CONFLICT and is answered with a void of the present H, once for each
pair (R141). -/
def Obligations.ClaimHeardRaisesOrIsVoided : Prop :=
  ∀ (s : State) (x : BitVec 6) (run : Half) (v : Word), s.takesFrames = true →
    1 ≤ x.toNat → x.toNat ≤ 60 → x.toNat ≠ s.sys.address → s.rsq.run = some run → s.rsq.runState.takesSeal = true →
    (s.seu.watermark < v.toNat → s.LampsFollow →
      exec (.sealClaim x run v) s = .next (s.mapSeu fun u => { u with watermark := v.toNat })) ∧
    (v.toNat ≤ s.seu.watermark →
      ∃ t, exec (.sealClaim x run v) s = .next t ∧ Event.sealConflict.isIn t.rrp.flags = true ∧
        t.seu.watermark = s.seu.watermark ∧ t.seu.claim = s.seu.claim ∧ t.rsq = s.rsq ∧ t.rst = s.rst ∧
        ((x.toNat, v.toNat) ∈ s.seu.voids ∨ s.bli.coord.length = 6 →
          t.bli.coord = s.bli.coord ∧ t.bli.waiting = s.bli.waiting ∧ t.seu.voids = s.seu.voids) ∧
        ((x.toNat, v.toNat) ∉ s.seu.voids → s.bli.coord.length < 6 → s.bli.waiting = [] →
          t.bli.coord = s.bli.coord ++ [.void run x.toNat v.toNat s.seu.watermark] ∧
          t.seu.voids = (if s.seu.voids.length < 8 then s.seu.voids else s.seu.voids.drop 1) ++ [(x.toNat, v.toNat)]))

/-- A void heard raises H to the watermark it carries. One for the open own claim sends it back to CLAIM_WAIT with a new attempt, or ends
the sealing with SEAL_FAILED at the fourth; one for the confirmed serial raises LATE_VOID and changes no claim; one for another claimer only
joins the list (R142, R146). The record of a sealing that ends with SEAL_FAILED is handed over at level FILED for the reserved slot (R147,
R157; log entries 46 and 51). -/
def Obligations.VoidHeardActsOnTheOwnClaim : Prop :=
  ∀ (s : State) (x : BitVec 6) (run : Half) (a : Byte) (v h : Word), s.takesFrames = true → 1 ≤ x.toNat → x.toNat ≤ 60 →
    x.toNat ≠ s.sys.address → s.rsq.run = some run → s.rsq.runState.takesSeal = true →
    let c : Instr := .sealVoid x run a v h
    let voids := if (a.toNat, v.toNat) ∈ s.seu.voids then s.seu.voids
      else (if s.seu.voids.length < 8 then s.seu.voids else s.seu.voids.drop 1) ++ [(a.toNat, v.toNat)]
    (a.toNat ≠ s.sys.address → s.LampsFollow →
      exec c s = .next (s.mapSeu fun u => { u with watermark := max u.watermark h.toNat, voids := voids })) ∧
    (a.toNat = s.sys.address → s.seu.claim.serial = some v.toNat →
      (s.seu.claim.state = .claimOpen → s.seu.claim.attempts < 4 → ∃ t, exec c s = .next t ∧
        t.seu = { t.seu with
          claim := { s.seu.claim with state := .claimWait, serial := none, confirm := none, attempts := s.seu.claim.attempts + 1 }
          watermark := max s.seu.watermark h.toNat, voids := voids, press := s.seu.press, outcome := s.seu.outcome } ∧
        .claim run ∈ t.bli.coord ++ t.bli.waiting ∧ t.rst = s.rst ∧ t.rsq = s.rsq) ∧
      (s.seu.claim.state = .claimOpen → 4 ≤ s.seu.claim.attempts → ∃ t, exec c s = .next t ∧
        t.seu.claim.state = .sealDone ∧ t.seu.claim.confirmed = false ∧ t.seu.outcome = some .sealFailed ∧
        Event.sealFailed.isIn t.rrp.flags = true ∧ t.seu.watermark = max s.seu.watermark h.toNat ∧
        ∀ n u, s.seu.claim.slot = some n → s.rsq.verdict = some u →
          s.HandsOver t (s.filedJob run.toNat u (some .sealFailed) (some n))) ∧
      (s.seu.claim.state = .recording ∨ s.seu.claim.state = .stroke ∨ s.seu.claim.state = .sealDone →
        s.seu.claim.confirmed = true → ∃ t, exec c s = .next t ∧ t.seu.claim = s.seu.claim ∧ t.seu.press = s.seu.press ∧
        Event.lateVoid.isIn t.rrp.flags = true ∧ t.seu.watermark = max s.seu.watermark h.toNat ∧ t.rst = s.rst ∧
        t.rsq = s.rsq))

/-- In STROKE the sensor, once seen inactive, ends the stroke: PRESS is released, the timer stopped and the mark PRESSED asked for; the
timer's expiry releases PRESS, raises PRESS_FAULT and asks for the mark PRESS_FAULT (R149). That the pin's level outside STROKE is kept is
the model's (log entry 3). -/
def Obligations.StrokeEndReleasesThePress : Prop :=
  ∀ s : State, s.LampsFollow →
    (s.seu.claim.state = .stroke → s.seu.press = true → exec .strokeInactive s =
      .next ((s.mapPins fun p => { p with stroke := false }).mapSeu fun u => { u with seenInactive := true })) ∧
    (s.seu.press = false →
      exec .strokeInactive s = .next (s.mapPins fun p => { p with stroke := false }) ∧
      exec .strokeEnd s = .next (s.mapPins fun p => { p with stroke := true })) ∧
    (s.seu.claim.state = .stroke → s.seu.press = true → s.rst.op = none → s.rst.waiting = [] →
      (s.seu.seenInactive = true → (s.slot s.sealSlot).pressed = false →
        exec .strokeEnd s = .next (((s.mapPins fun p => { p with stroke := true }).mapSeu fun u =>
          { u with press := false, strokeTimer := none }).mapRst fun r => { r with
            op := some (.mark s.sealSlot .pressed true), opTimer := some 1000 })) ∧
      (s.seu.seenInactive = false → exec .strokeEnd s = .next (s.mapPins fun p => { p with stroke := true })) ∧
      (∀ n, s.seu.strokeTimer = some n → (s.slot s.sealSlot).pressFault = false →
        ∃ t, exec .strokeTimerExpiry s = .next t ∧ t.seu = { s.seu with press := false, strokeTimer := none } ∧
          Event.pressFault.isIn t.rrp.flags = true ∧ t.rsq = s.rsq ∧
          t.rst = { s.rst with op := some (.mark s.sealSlot .pressFault true), opTimer := some 1000 }))

/-! ### The record store (chapter 10) -/

/-- The three steps of a record write, and a mark (R157, R158): the erase clears the slot and its damaged entry, the content step programs
what was formed at its beginning, the level step its level, the mark its cell. The record number is the first after the last record number,
65,535 being followed by 1, that no other slot neither EMPTY nor DAMAGED holds (R154). At the end of each, a reservation that waits for it
is made, as RunEndGivesTheVerdict says what that does (R143, R155); behind a level step and a mark the requests that wait then begin in
their order, and a write takes its slot only then (R156, R157). That a reservation is made at the end of the erase and of the content step
too, and that the marks of an EMPTY slot call for no erase, are the model's readings (log entries 30 and 46); that an erased content cell
reads 0 is its choice (log entry 51). -/
def Obligations.StoreStepsChangeTheirSlot : Prop :=
  (∀ s : State, s.rst.op = none → s.NextBegins) ∧ (∀ s : State, s.rst.reserveAsked = false → s.reserveNow = s) ∧
  ∀ (s : State) (n : Nat) (job : WriteJob), s.Sized → n < 32 → s.LampsFollow →
    (s.rst.op = some (.erase n job) → ∃ q, s.NumberFor n q ∧
      exec .eraseEnd s = .next (s.mapRst fun r => { r with
        slots := r.slots.set n ⟨List.replicate 30 0, false, false, false, false, false⟩, damaged := r.damaged.set n false
        lastRecord := q, op := some (.content n job (recordCells job.record q)), opTimer := some 8000 }).reserveNow) ∧
    (∀ cells, s.rst.op = some (.content n job cells) →
      exec .contentStepEnd s = .next (s.mapRst fun r => { r with
        slots := r.slots.set n { s.slot n with cells := cells }, op := some (.level n job), opTimer := some 1000 }).reserveNow) ∧
    (s.rst.op = some (.level n job) → job.sealed = false →
      exec .levelStepEnd s = .next (s.mapRst fun r => { r with
        slots := r.slots.set n { s.slot n with level1 := true }, op := none, opTimer := none
        reservation := if r.reservation = job.slot then none else r.reservation }).reserveNow.startNext) ∧
    (∀ m, s.rst.op = some (.mark n m false) →
      exec .markEnd s = .next (s.mapRst fun r => { r with
        slots := r.slots.set n ((s.slot n).withMark m), op := none, opTimer := none }).reserveNow.startNext)

/-- The completion of the sealed write drives the press, or with the press held gives PRESS_FAULT and no stroke, its mark asked for at the
tail of the requests that wait, where with 8 waiting it counts as programmed (R148, R149, R156; log entry 50); the programmed mark gives the
seal outcome and FINISHED (R149, R158). The requests that wait then begin in their order, as StoreStepsChangeTheirSlot says (R156). -/
def Obligations.SealedWriteLeadsToTheStroke : Prop :=
  ∀ (s : State) (n : Nat) (job : WriteJob), s.Sized → n < 32 → s.rst.reserveAsked = false →
    s.seu.claim.slot = some n →
    let given (u : State) (o : SealOutcome) : State := (u.mapSeu fun c => { c with
      claim := { c.claim with state := .sealDone, confirm := none }, outcome := some o }).mapRsq fun q => { q with
        runState := if q.runState = .sealing then .finished else q.runState }
    (s.rst.op = some (.level n job) → job.sealed = true → s.seu.claim.state = .recording →
      let written : State := s.mapRst fun r => { r with
        slots := r.slots.set n { s.slot n with level1 := true, level2 := true }, op := none, opTimer := none
        reservation := if r.reservation = job.slot then none else r.reservation }
      (s.sys.holds.press = false → s.LampsFollow → exec .levelStepEnd s = .next (written.mapSeu fun u => { u with
        claim := { u.claim with state := .stroke }, press := true, strokeTimer := some u.strokeTimeout
        seenInactive := !s.pins.stroke }).startNext) ∧
      (s.sys.holds.press = true → s.LampsFollow → Event.pressFault.isIn (written.raise .pressFault).rrp.flags = true ∧
        (s.rst.waiting.length < 8 → exec .levelStepEnd s = .next ((written.raise .pressFault).mapRst fun r => { r with
          waiting := r.waiting ++ [.mark n .pressFault true] }).startNext) ∧
        (s.rst.waiting.length = 8 → exec .levelStepEnd s = .next (given (written.raise .pressFault) .pressFault).startNext)) ∧
      (s.sys.holds.press = true → s.rst.waiting = [] → (s.slot n).pressFault = false →
        ∃ t, exec .levelStepEnd s = .next t ∧ (t.slot n).isSealed = true ∧ t.seu.press = s.seu.press ∧
          t.seu.claim = s.seu.claim ∧ Event.pressFault.isIn t.rrp.flags = true ∧
          t.rst.op = some (.mark n .pressFault true))) ∧
    (∀ m, s.rst.op = some (.mark n m true) → s.seu.claim.state = .stroke ∨ s.seu.claim.state = .recording → s.LampsFollow →
      exec .markEnd s = .next (given (s.mapRst fun r => { r with
          slots := r.slots.set n ((s.slot n).withMark m), op := none, opTimer := none })
        (if m = .pressed then .sealed else .pressFault)).startNext) ∧
    (∀ m, s.rst.op = some (.mark n m true) → s.seu.claim.state = .stroke → s.rsq.runState = .sealing → s.rst.waiting = [] →
      ∃ t, exec .markEnd s = .next t ∧ t.rst = { s.rst with
          slots := s.rst.slots.set n ((s.slot n).withMark m), op := none, opTimer := none } ∧
        t.rsq = { s.rsq with runState := .finished } ∧ t.seu.claim = { s.seu.claim with state := .sealDone, confirm := none } ∧
        t.seu.outcome = some (if m = .pressed then .sealed else .pressFault))

/-- STORE WIPE is judged by the first line of its table that applies: BUSY, IN_RUN, NOT_EXPORTED, or taken (R162). It erases slot after
slot, and at its end every slot is EMPTY with no mark and the damaged table is clear, with the last record number kept. A reservation that
waits for its end is then made, and the requests that wait begin (R155, R156), as RunEndGivesTheVerdict and StoreStepsChangeTheirSlot say
what these do. The steps' own times are the model's reading (log entry 31), and that an erased content cell reads 0 is its choice (log entry
51). -/
def Obligations.StoreWipeIsJudgedAndErases : Prop :=
  ∀ s : State, s.LampsFollow → s.Sized →
    let refused (c : RefusalCause) : State := s.mapRrp fun r => { r with lastRefusal := some ⟨13, c⟩ }
    (s.takesFrames = true →
      (s.rst.op ≠ none ∨ s.rst.waiting ≠ [] → exec .storeWipe s = .next (refused .busy)) ∧
      (s.rst.op = none → s.rst.waiting = [] →
        (s.rsq.runState.inPoints = true ∨ s.rsq.runState = .sealing → exec .storeWipe s = .next (refused .inRun)) ∧
        (s.rsq.runState.inPoints = false → s.rsq.runState ≠ .sealing →
          ((∃ c ∈ s.rst.slots, c.guarded = true) → exec .storeWipe s = .next (refused .notExported)) ∧
          ((∀ c ∈ s.rst.slots, c.guarded = false) → exec .storeWipe s = .next (s.mapRst fun r => { r with
            op := some (.wipe 0), opTimer := some 20000 }))))) ∧
    ∀ n, s.rst.op = some (.wipe n) →
      (n < 32 → exec .wipeSlotErased s = .next (s.mapRst fun r => { r with
        slots := r.slots.set n Slot.erased, damaged := r.damaged.set n false, op := some (.wipe (n + 1))
        opTimer := if n = 31 then some 0 else some 20000 })) ∧
      exec .wipeEnd s = .next (s.mapRst fun r => { r with
        slots := List.replicate 32 Slot.erased, damaged := List.replicate 32 false, op := none, opTimer := none }).reserveNow.startNext

/-- RECORD MARK adds EXPORTED to a valid slot holding the record named, and to a DAMAGED slot named with 0; it is refused with BUSY or
MISMATCH in every other case (R161). -/
def Obligations.RecordMarkReleasesTheNamedRecord : Prop :=
  ∀ (s : State) (n : Byte) (q : Half), s.takesFrames = true → s.LampsFollow → n.toNat < 32 →
    let refused (c : RefusalCause) : State := s.mapRrp fun r => { r with lastRefusal := some ⟨12, c⟩ }
    let fits := (s.slot n.toNat).isEmpty = false ∧
      ((s.isDamaged n.toNat = false ∧ (s.slot n.toNat).number = q.toNat ∧ q ≠ 0) ∨ (s.isDamaged n.toNat = true ∧ q = 0))
    (s.rst.op ≠ none ∨ s.rst.waiting ≠ [] → exec (.recordMark n q) s = .next (refused .busy)) ∧
    (s.rst.op = none → s.rst.waiting = [] →
      (¬ fits → exec (.recordMark n q) s = .next (refused .mismatch)) ∧
      (fits → (s.slot n.toNat).exported = false → exec (.recordMark n q) s = .next (s.mapRst fun r => { r with
        op := some (.mark n.toNat .exported false), opTimer := some 1000 })) ∧
      (fits → (s.slot n.toNat).exported = true → exec (.recordMark n q) s = .next s))

/-- A request for a reply is answered at once while the reporting part has room, and waits in the receive buffer while it is full (R96):
STATUS ASK queues a STATUS, unless one already waits there (R137); RECORD ASK and STORE SUM ASK are refused with BUSY while the store is
busy. Else a RECORD answers with the slot named, or, for 255, with the slot of the oldest record that is neither DAMAGED nor exported: in
the short form for an EMPTY slot and where no record qualifies, and in the full form for any other, FILED or SEALED, DAMAGED or not, with
its level, its marks and its cells as they stand (R103, R155, R160); the level of a slot with the second cell alone is a free value (log
entry 7). STORE SUM answers with the sum of the stored checks (R163). A clashed station replies nothing (R99). -/
def Obligations.RequestsAreAnsweredOrWait : Prop :=
  ∀ (s : State) (n k : Byte), s.takesFrames = true → s.LampsFollow → n.toNat < 32 ∨ n = 255 → k.toNat ≤ 32 →
    let queued (f : ReportFrame) : State := s.mapBli fun b => { b with report := b.report ++ [f] }
    let kept (kind : Byte) (payload : List Byte) : State := s.mapBli fun b => { b with
      buffer := b.buffer ++ [⟨0, kind, BitVec.ofNat 6 s.sys.address, payload⟩] }
    let summed := List.range (if k = 0 then 32 else k.toNat)
    let busy := s.rst.op ≠ none ∨ s.rst.waiting ≠ []
    let level (j : Nat) (v : Byte) : Prop := v.toNat < 4 ∧
      ((s.slot j).level1 = true → v = if (s.slot j).level2 = true then 2 else 1)
    let full (j : Nat) (v : Byte) : ReportFrame := .record ([BitVec.ofNat 8 j,
      v + (if s.isDamaged j then 4 else 0) + (if (s.slot j).pressed then 8 else 0) + (if (s.slot j).pressFault then 16 else 0)
        + (if (s.slot j).exported then 32 else 0)] ++ (s.slot j).cells)
    let unexported (j : Nat) : Prop := (s.slot j).isEmpty = false ∧ s.isDamaged j = false ∧ (s.slot j).exported = false
    (s.bli.report.length = 4 → s.bli.buffer.length < 4 →
      exec .statusAsk s = .next (kept 10 []) ∧ exec (.recordAsk n) s = .next (kept 11 [n]) ∧
      exec (.storeSumAsk k) s = .next (kept 14 [k])) ∧
    (s.bli.report.length < 4 →
      (s.bli.statusWaits = true ∨ s.rsq.runState = .clashed → exec .statusAsk s = .next s) ∧
      (s.rsq.runState = .clashed → ¬ busy → exec (.recordAsk n) s = .next s ∧ exec (.storeSumAsk k) s = .next s) ∧
      (busy → exec (.recordAsk n) s = .next (s.mapRrp fun r => { r with lastRefusal := some ⟨11, .busy⟩ }) ∧
        exec (.storeSumAsk k) s = .next (s.mapRrp fun r => { r with lastRefusal := some ⟨14, .busy⟩ })) ∧
      (s.rsq.runState ≠ .clashed →
        (s.bli.statusWaits = false → exec .statusAsk s = .next (queued .status)) ∧
        (¬ busy →
          (n ≠ 255 → (s.slot n.toNat).isEmpty = true → exec (.recordAsk n) s = .next (queued (.record [n, 0]))) ∧
          (n ≠ 255 → (s.slot n.toNat).isEmpty = false →
            ∃ v, level n.toNat v ∧ exec (.recordAsk n) s = .next (queued (full n.toNat v))) ∧
          (∀ j, n = 255 → s.OldestAmong unexported j → ∃ v, level j v ∧ exec (.recordAsk n) s = .next (queued (full j v))) ∧
          (n = 255 → (∀ j, j < 32 → ¬ unexported j) →
            exec (.recordAsk n) s = .next (queued (.record [255, 0]))) ∧
          exec (.storeSumAsk k) s = .next (queued (.storeSum
            (((summed.filter fun j => !(s.slot j).isEmpty).map fun j => (s.slot j).check).sum % 65536)
            (summed.filter fun j => s.isDamaged j).length)))))

/-! ### What every step keeps -/

/-- Every table keeps its size, and no queue grows past the places the manual gives it (R68, R96, R98, R109, R131, R141, R153, R156). -/
def Obligations.TablesAndQueuesKeepTheirBounds : Prop :=
  ∀ s t : State, s.Sized → step s = .next t → t.Sized

/-- The tables and queues have their sizes after reset, and the lamps, the run, the store and the press stand as their invariants ask. -/
def Obligations.ResetStateIsSound : Prop :=
  State.reset.Sized ∧ State.reset.LampsFollow ∧ State.reset.Silenced ∧ State.reset.SeqStarts ∧ State.reset.OwnEntryJoins ∧
    State.reset.StoreSound ∧ State.reset.PressSound

/-- A SEALED slot without EXPORTED stays SEALED with the content it holds, whatever command or reset comes; the invariant that carries this
is kept with it (R153, R155). It rests on the model's reading that no reservation chooses the slot of a write in flight (log entry 8). -/
def Obligations.SealedRecordsAreNeverErased : Prop :=
  ∀ s t : State, s.StoreSound → s.Sized → step s = .next t → t.StoreSound ∧
    ∀ n, (s.slot n).guarded = true → (t.slot n).isSealed = true ∧ (t.slot n).cells = (s.slot n).cells

/-- PRESS is driven only by a confirmed claim whose serial already stands in a SEALED slot, the one reserved for it; the invariant that
carries this is kept with it (R145, R148, R149). -/
def Obligations.PressFollowsTheSealedRecord : Prop :=
  ∀ s t : State, s.PressSound → s.Sized → step s = .next t → t.PressSound ∧
    (s.seu.press = false → t.seu.press = true → t.seu.claim.confirmed = true ∧ ∃ n v, t.seu.claim.slot = some n ∧
      t.seu.claim.serial = some v ∧ (t.slot n).isSealed = true ∧ serialIn (t.slot n).cells = v % 2 ^ 32)

/-- Within a run the watermark never decreases (R140), the sequence number never decreases (R116), and an entry that is LAPSED or WITHDRAWN
stays LAPSED or WITHDRAWN, so that it never becomes ENROLLED again by whatever way; a peer's keeps its very status (R109, R120, R122). The
invariants that carry this are kept with it: a station in ENROLLING stands at sequence number 0, and its own entry, which it may set to
ABSENT there (R111, R126), has not left the run. -/
def Obligations.RunsOnlyGoForward : Prop :=
  ∀ s t : State, s.SeqStarts → s.OwnEntryJoins → step s = .next t → t.SeqStarts ∧ t.OwnEntryJoins ∧
    (t.rsq.run = s.rsq.run → t.sys.inReset = false → s.seu.watermark ≤ t.seu.watermark ∧ s.rsq.seq ≤ t.rsq.seq ∧
      ∀ x, ((rosterAt s.rsq.roster x).status = .lapsed ∨ (rosterAt s.rsq.roster x).status = .withdrawn) →
        ((rosterAt t.rsq.roster x).status = .lapsed ∨ (rosterAt t.rsq.roster x).status = .withdrawn) ∧
        (x ≠ s.sys.address → (rosterAt t.rsq.roster x).status = (rosterAt s.rsq.roster x).status))

/-- The lamps follow the condition of the station at every step (R65), and a clashed station holds nothing to send and sends nothing, from
its entry until a reset (R99, R167). That its point phase is none also where no point was in progress is the model's reading (log entry 23).
-/
def Obligations.LampsFollowAndClashesStaySilent : Prop :=
  ∀ s t : State, step s = .next t →
    (s.LampsFollow → t.LampsFollow) ∧ (s.Silenced → t.Silenced) ∧
    (s.Silenced → s.rsq.runState = .clashed → t.rsq.runState = .clashed ∨ t.sys.inReset = true ∨ s.sys.inReset = true)

/-- LOAD READY, RUN ABORT, RUN CLOSE, PLAN TAIL and the peers' run frames change nothing in FAULTED (R78). -/
def Obligations.FaultedIgnoresTheRun : Prop :=
  ∀ (s : State) (c : Instr), s.rsq.runState = .faulted → s.takesFrames = true → s.LampsFollow →
    IgnoredInFaulted s.sys.address c → exec c s = .next s

/-- What a command leaves alone, for the items that LeavesTheRest lists: the waiting commands, the time, the counters and their prescalers,
the mains timing, the input settings, the accumulators, point copy and outcomes, the plan, the point, the run, the tally, the identity and
holds, the pins, the notify mask, the thresholds, the last sender, the lost count, the serial block, the watermark, the voids, the press,
the reject marker, and the cells of the store and their damaged table. The other items are written by most commands, and no clause speaks of
them. A FRAME_RECEIVED writes what the frame it brings does. -/
def Obligations.EachItemIsWrittenByItsCommands : Prop :=
  ∀ (c : Instr) (s t : State), exec c s = .next t → c.LeavesTheRest s t
end

