-- ==== Sys2Proof/Laws/State.lean ====
section
/-! SUPPORT. One lemma per field per block update, each true by rfl and tagged for simp, so that no proof unfolds a record update;
and the laws of the pair of channels. -/

namespace Sys2Proof.Machine

/-! ### The pair of channels -/

@[simp] theorem PerChan.get_a {α : Type} (p : PerChan α) : p.get .a = p.a := rfl
@[simp] theorem PerChan.get_b {α : Type} (p : PerChan α) : p.get .b = p.b := rfl
@[simp] theorem PerChan.set_a {α : Type} (p : PerChan α) (x : α) : p.set .a x = { p with a := x } := rfl
@[simp] theorem PerChan.set_b {α : Type} (p : PerChan α) (x : α) : p.set .b x = { p with b := x } := rfl
@[simp] theorem PerChan.get_set {α : Type} (p : PerChan α) (ch : Channel) (x : α) : (p.set ch x).get ch = x := by
  cases ch <;> rfl
theorem PerChan.get_set_other {α : Type} (p : PerChan α) (ch ch' : Channel) (x : α) (h : ch ≠ ch') :
    (p.set ch x).get ch' = p.get ch' := by
  cases ch <;> cases ch' <;> first | rfl | exact absurd rfl h

/-! ### State.mapPfe -/

section
variable (s : State) (f : Pfe → Pfe)
@[simp] theorem State.mapPfe_pfe : (s.mapPfe f).pfe = f s.pfe := rfl
@[simp] theorem State.mapPfe_time : (s.mapPfe f).time = s.time := rfl
@[simp] theorem State.mapPfe_gates : (s.mapPfe f).gates = s.gates := rfl
@[simp] theorem State.mapPfe_ecu : (s.mapPfe f).ecu = s.ecu := rfl
@[simp] theorem State.mapPfe_plt : (s.mapPfe f).plt = s.plt := rfl
@[simp] theorem State.mapPfe_rsq : (s.mapPfe f).rsq = s.rsq := rfl
@[simp] theorem State.mapPfe_bli : (s.mapPfe f).bli = s.bli := rfl
@[simp] theorem State.mapPfe_rrp : (s.mapPfe f).rrp = s.rrp := rfl
@[simp] theorem State.mapPfe_seu : (s.mapPfe f).seu = s.seu := rfl
@[simp] theorem State.mapPfe_rst : (s.mapPfe f).rst = s.rst := rfl
@[simp] theorem State.mapPfe_sys : (s.mapPfe f).sys = s.sys := rfl
@[simp] theorem State.mapPfe_pins : (s.mapPfe f).pins = s.pins := rfl
@[simp] theorem State.mapPfe_freeIndex : (s.mapPfe f).freeIndex = s.freeIndex := rfl
@[simp] theorem State.mapPfe_pending : (s.mapPfe f).pending = s.pending := rfl
end

/-! ### State.mapTime -/

section
variable (s : State) (f : Timebase → Timebase)
@[simp] theorem State.mapTime_pfe : (s.mapTime f).pfe = s.pfe := rfl
@[simp] theorem State.mapTime_time : (s.mapTime f).time = f s.time := rfl
@[simp] theorem State.mapTime_gates : (s.mapTime f).gates = s.gates := rfl
@[simp] theorem State.mapTime_ecu : (s.mapTime f).ecu = s.ecu := rfl
@[simp] theorem State.mapTime_plt : (s.mapTime f).plt = s.plt := rfl
@[simp] theorem State.mapTime_rsq : (s.mapTime f).rsq = s.rsq := rfl
@[simp] theorem State.mapTime_bli : (s.mapTime f).bli = s.bli := rfl
@[simp] theorem State.mapTime_rrp : (s.mapTime f).rrp = s.rrp := rfl
@[simp] theorem State.mapTime_seu : (s.mapTime f).seu = s.seu := rfl
@[simp] theorem State.mapTime_rst : (s.mapTime f).rst = s.rst := rfl
@[simp] theorem State.mapTime_sys : (s.mapTime f).sys = s.sys := rfl
@[simp] theorem State.mapTime_pins : (s.mapTime f).pins = s.pins := rfl
@[simp] theorem State.mapTime_freeIndex : (s.mapTime f).freeIndex = s.freeIndex := rfl
@[simp] theorem State.mapTime_pending : (s.mapTime f).pending = s.pending := rfl
end

/-! ### State.mapGates -/

section
variable (s : State) (f : PerChan GateEngine → PerChan GateEngine)
@[simp] theorem State.mapGates_pfe : (s.mapGates f).pfe = s.pfe := rfl
@[simp] theorem State.mapGates_time : (s.mapGates f).time = s.time := rfl
@[simp] theorem State.mapGates_gates : (s.mapGates f).gates = f s.gates := rfl
@[simp] theorem State.mapGates_ecu : (s.mapGates f).ecu = s.ecu := rfl
@[simp] theorem State.mapGates_plt : (s.mapGates f).plt = s.plt := rfl
@[simp] theorem State.mapGates_rsq : (s.mapGates f).rsq = s.rsq := rfl
@[simp] theorem State.mapGates_bli : (s.mapGates f).bli = s.bli := rfl
@[simp] theorem State.mapGates_rrp : (s.mapGates f).rrp = s.rrp := rfl
@[simp] theorem State.mapGates_seu : (s.mapGates f).seu = s.seu := rfl
@[simp] theorem State.mapGates_rst : (s.mapGates f).rst = s.rst := rfl
@[simp] theorem State.mapGates_sys : (s.mapGates f).sys = s.sys := rfl
@[simp] theorem State.mapGates_pins : (s.mapGates f).pins = s.pins := rfl
@[simp] theorem State.mapGates_freeIndex : (s.mapGates f).freeIndex = s.freeIndex := rfl
@[simp] theorem State.mapGates_pending : (s.mapGates f).pending = s.pending := rfl
end

/-! ### State.mapEcu -/

section
variable (s : State) (f : Ecu → Ecu)
@[simp] theorem State.mapEcu_pfe : (s.mapEcu f).pfe = s.pfe := rfl
@[simp] theorem State.mapEcu_time : (s.mapEcu f).time = s.time := rfl
@[simp] theorem State.mapEcu_gates : (s.mapEcu f).gates = s.gates := rfl
@[simp] theorem State.mapEcu_ecu : (s.mapEcu f).ecu = f s.ecu := rfl
@[simp] theorem State.mapEcu_plt : (s.mapEcu f).plt = s.plt := rfl
@[simp] theorem State.mapEcu_rsq : (s.mapEcu f).rsq = s.rsq := rfl
@[simp] theorem State.mapEcu_bli : (s.mapEcu f).bli = s.bli := rfl
@[simp] theorem State.mapEcu_rrp : (s.mapEcu f).rrp = s.rrp := rfl
@[simp] theorem State.mapEcu_seu : (s.mapEcu f).seu = s.seu := rfl
@[simp] theorem State.mapEcu_rst : (s.mapEcu f).rst = s.rst := rfl
@[simp] theorem State.mapEcu_sys : (s.mapEcu f).sys = s.sys := rfl
@[simp] theorem State.mapEcu_pins : (s.mapEcu f).pins = s.pins := rfl
@[simp] theorem State.mapEcu_freeIndex : (s.mapEcu f).freeIndex = s.freeIndex := rfl
@[simp] theorem State.mapEcu_pending : (s.mapEcu f).pending = s.pending := rfl
end

/-! ### State.mapPlt -/

section
variable (s : State) (f : Plt → Plt)
@[simp] theorem State.mapPlt_pfe : (s.mapPlt f).pfe = s.pfe := rfl
@[simp] theorem State.mapPlt_time : (s.mapPlt f).time = s.time := rfl
@[simp] theorem State.mapPlt_gates : (s.mapPlt f).gates = s.gates := rfl
@[simp] theorem State.mapPlt_ecu : (s.mapPlt f).ecu = s.ecu := rfl
@[simp] theorem State.mapPlt_plt : (s.mapPlt f).plt = f s.plt := rfl
@[simp] theorem State.mapPlt_rsq : (s.mapPlt f).rsq = s.rsq := rfl
@[simp] theorem State.mapPlt_bli : (s.mapPlt f).bli = s.bli := rfl
@[simp] theorem State.mapPlt_rrp : (s.mapPlt f).rrp = s.rrp := rfl
@[simp] theorem State.mapPlt_seu : (s.mapPlt f).seu = s.seu := rfl
@[simp] theorem State.mapPlt_rst : (s.mapPlt f).rst = s.rst := rfl
@[simp] theorem State.mapPlt_sys : (s.mapPlt f).sys = s.sys := rfl
@[simp] theorem State.mapPlt_pins : (s.mapPlt f).pins = s.pins := rfl
@[simp] theorem State.mapPlt_freeIndex : (s.mapPlt f).freeIndex = s.freeIndex := rfl
@[simp] theorem State.mapPlt_pending : (s.mapPlt f).pending = s.pending := rfl
end

/-! ### State.mapRsq -/

section
variable (s : State) (f : Rsq → Rsq)
@[simp] theorem State.mapRsq_pfe : (s.mapRsq f).pfe = s.pfe := rfl
@[simp] theorem State.mapRsq_time : (s.mapRsq f).time = s.time := rfl
@[simp] theorem State.mapRsq_gates : (s.mapRsq f).gates = s.gates := rfl
@[simp] theorem State.mapRsq_ecu : (s.mapRsq f).ecu = s.ecu := rfl
@[simp] theorem State.mapRsq_plt : (s.mapRsq f).plt = s.plt := rfl
@[simp] theorem State.mapRsq_rsq : (s.mapRsq f).rsq = f s.rsq := rfl
@[simp] theorem State.mapRsq_bli : (s.mapRsq f).bli = s.bli := rfl
@[simp] theorem State.mapRsq_rrp : (s.mapRsq f).rrp = s.rrp := rfl
@[simp] theorem State.mapRsq_seu : (s.mapRsq f).seu = s.seu := rfl
@[simp] theorem State.mapRsq_rst : (s.mapRsq f).rst = s.rst := rfl
@[simp] theorem State.mapRsq_sys : (s.mapRsq f).sys = s.sys := rfl
@[simp] theorem State.mapRsq_pins : (s.mapRsq f).pins = s.pins := rfl
@[simp] theorem State.mapRsq_freeIndex : (s.mapRsq f).freeIndex = s.freeIndex := rfl
@[simp] theorem State.mapRsq_pending : (s.mapRsq f).pending = s.pending := rfl
end

/-! ### State.mapBli -/

section
variable (s : State) (f : Bli → Bli)
@[simp] theorem State.mapBli_pfe : (s.mapBli f).pfe = s.pfe := rfl
@[simp] theorem State.mapBli_time : (s.mapBli f).time = s.time := rfl
@[simp] theorem State.mapBli_gates : (s.mapBli f).gates = s.gates := rfl
@[simp] theorem State.mapBli_ecu : (s.mapBli f).ecu = s.ecu := rfl
@[simp] theorem State.mapBli_plt : (s.mapBli f).plt = s.plt := rfl
@[simp] theorem State.mapBli_rsq : (s.mapBli f).rsq = s.rsq := rfl
@[simp] theorem State.mapBli_bli : (s.mapBli f).bli = f s.bli := rfl
@[simp] theorem State.mapBli_rrp : (s.mapBli f).rrp = s.rrp := rfl
@[simp] theorem State.mapBli_seu : (s.mapBli f).seu = s.seu := rfl
@[simp] theorem State.mapBli_rst : (s.mapBli f).rst = s.rst := rfl
@[simp] theorem State.mapBli_sys : (s.mapBli f).sys = s.sys := rfl
@[simp] theorem State.mapBli_pins : (s.mapBli f).pins = s.pins := rfl
@[simp] theorem State.mapBli_freeIndex : (s.mapBli f).freeIndex = s.freeIndex := rfl
@[simp] theorem State.mapBli_pending : (s.mapBli f).pending = s.pending := rfl
end

/-! ### State.mapRrp -/

section
variable (s : State) (f : Rrp → Rrp)
@[simp] theorem State.mapRrp_pfe : (s.mapRrp f).pfe = s.pfe := rfl
@[simp] theorem State.mapRrp_time : (s.mapRrp f).time = s.time := rfl
@[simp] theorem State.mapRrp_gates : (s.mapRrp f).gates = s.gates := rfl
@[simp] theorem State.mapRrp_ecu : (s.mapRrp f).ecu = s.ecu := rfl
@[simp] theorem State.mapRrp_plt : (s.mapRrp f).plt = s.plt := rfl
@[simp] theorem State.mapRrp_rsq : (s.mapRrp f).rsq = s.rsq := rfl
@[simp] theorem State.mapRrp_bli : (s.mapRrp f).bli = s.bli := rfl
@[simp] theorem State.mapRrp_rrp : (s.mapRrp f).rrp = f s.rrp := rfl
@[simp] theorem State.mapRrp_seu : (s.mapRrp f).seu = s.seu := rfl
@[simp] theorem State.mapRrp_rst : (s.mapRrp f).rst = s.rst := rfl
@[simp] theorem State.mapRrp_sys : (s.mapRrp f).sys = s.sys := rfl
@[simp] theorem State.mapRrp_pins : (s.mapRrp f).pins = s.pins := rfl
@[simp] theorem State.mapRrp_freeIndex : (s.mapRrp f).freeIndex = s.freeIndex := rfl
@[simp] theorem State.mapRrp_pending : (s.mapRrp f).pending = s.pending := rfl
end

/-! ### State.mapSeu -/

section
variable (s : State) (f : Seu → Seu)
@[simp] theorem State.mapSeu_pfe : (s.mapSeu f).pfe = s.pfe := rfl
@[simp] theorem State.mapSeu_time : (s.mapSeu f).time = s.time := rfl
@[simp] theorem State.mapSeu_gates : (s.mapSeu f).gates = s.gates := rfl
@[simp] theorem State.mapSeu_ecu : (s.mapSeu f).ecu = s.ecu := rfl
@[simp] theorem State.mapSeu_plt : (s.mapSeu f).plt = s.plt := rfl
@[simp] theorem State.mapSeu_rsq : (s.mapSeu f).rsq = s.rsq := rfl
@[simp] theorem State.mapSeu_bli : (s.mapSeu f).bli = s.bli := rfl
@[simp] theorem State.mapSeu_rrp : (s.mapSeu f).rrp = s.rrp := rfl
@[simp] theorem State.mapSeu_seu : (s.mapSeu f).seu = f s.seu := rfl
@[simp] theorem State.mapSeu_rst : (s.mapSeu f).rst = s.rst := rfl
@[simp] theorem State.mapSeu_sys : (s.mapSeu f).sys = s.sys := rfl
@[simp] theorem State.mapSeu_pins : (s.mapSeu f).pins = s.pins := rfl
@[simp] theorem State.mapSeu_freeIndex : (s.mapSeu f).freeIndex = s.freeIndex := rfl
@[simp] theorem State.mapSeu_pending : (s.mapSeu f).pending = s.pending := rfl
end

/-! ### State.mapRst -/

section
variable (s : State) (f : Rst → Rst)
@[simp] theorem State.mapRst_pfe : (s.mapRst f).pfe = s.pfe := rfl
@[simp] theorem State.mapRst_time : (s.mapRst f).time = s.time := rfl
@[simp] theorem State.mapRst_gates : (s.mapRst f).gates = s.gates := rfl
@[simp] theorem State.mapRst_ecu : (s.mapRst f).ecu = s.ecu := rfl
@[simp] theorem State.mapRst_plt : (s.mapRst f).plt = s.plt := rfl
@[simp] theorem State.mapRst_rsq : (s.mapRst f).rsq = s.rsq := rfl
@[simp] theorem State.mapRst_bli : (s.mapRst f).bli = s.bli := rfl
@[simp] theorem State.mapRst_rrp : (s.mapRst f).rrp = s.rrp := rfl
@[simp] theorem State.mapRst_seu : (s.mapRst f).seu = s.seu := rfl
@[simp] theorem State.mapRst_rst : (s.mapRst f).rst = f s.rst := rfl
@[simp] theorem State.mapRst_sys : (s.mapRst f).sys = s.sys := rfl
@[simp] theorem State.mapRst_pins : (s.mapRst f).pins = s.pins := rfl
@[simp] theorem State.mapRst_freeIndex : (s.mapRst f).freeIndex = s.freeIndex := rfl
@[simp] theorem State.mapRst_pending : (s.mapRst f).pending = s.pending := rfl
end

/-! ### State.mapSys -/

section
variable (s : State) (f : Station → Station)
@[simp] theorem State.mapSys_pfe : (s.mapSys f).pfe = s.pfe := rfl
@[simp] theorem State.mapSys_time : (s.mapSys f).time = s.time := rfl
@[simp] theorem State.mapSys_gates : (s.mapSys f).gates = s.gates := rfl
@[simp] theorem State.mapSys_ecu : (s.mapSys f).ecu = s.ecu := rfl
@[simp] theorem State.mapSys_plt : (s.mapSys f).plt = s.plt := rfl
@[simp] theorem State.mapSys_rsq : (s.mapSys f).rsq = s.rsq := rfl
@[simp] theorem State.mapSys_bli : (s.mapSys f).bli = s.bli := rfl
@[simp] theorem State.mapSys_rrp : (s.mapSys f).rrp = s.rrp := rfl
@[simp] theorem State.mapSys_seu : (s.mapSys f).seu = s.seu := rfl
@[simp] theorem State.mapSys_rst : (s.mapSys f).rst = s.rst := rfl
@[simp] theorem State.mapSys_sys : (s.mapSys f).sys = f s.sys := rfl
@[simp] theorem State.mapSys_pins : (s.mapSys f).pins = s.pins := rfl
@[simp] theorem State.mapSys_freeIndex : (s.mapSys f).freeIndex = s.freeIndex := rfl
@[simp] theorem State.mapSys_pending : (s.mapSys f).pending = s.pending := rfl
end

/-! ### State.mapPins -/

section
variable (s : State) (f : Pins → Pins)
@[simp] theorem State.mapPins_pfe : (s.mapPins f).pfe = s.pfe := rfl
@[simp] theorem State.mapPins_time : (s.mapPins f).time = s.time := rfl
@[simp] theorem State.mapPins_gates : (s.mapPins f).gates = s.gates := rfl
@[simp] theorem State.mapPins_ecu : (s.mapPins f).ecu = s.ecu := rfl
@[simp] theorem State.mapPins_plt : (s.mapPins f).plt = s.plt := rfl
@[simp] theorem State.mapPins_rsq : (s.mapPins f).rsq = s.rsq := rfl
@[simp] theorem State.mapPins_bli : (s.mapPins f).bli = s.bli := rfl
@[simp] theorem State.mapPins_rrp : (s.mapPins f).rrp = s.rrp := rfl
@[simp] theorem State.mapPins_seu : (s.mapPins f).seu = s.seu := rfl
@[simp] theorem State.mapPins_rst : (s.mapPins f).rst = s.rst := rfl
@[simp] theorem State.mapPins_sys : (s.mapPins f).sys = s.sys := rfl
@[simp] theorem State.mapPins_pins : (s.mapPins f).pins = f s.pins := rfl
@[simp] theorem State.mapPins_freeIndex : (s.mapPins f).freeIndex = s.freeIndex := rfl
@[simp] theorem State.mapPins_pending : (s.mapPins f).pending = s.pending := rfl
end

/-! ### State.enter and State.post -/

section
variable (s : State) (r : RunState) (c : Instr)
@[simp] theorem State.enter_pfe : (s.enter r).pfe = s.pfe := rfl
@[simp] theorem State.enter_time : (s.enter r).time = s.time := rfl
@[simp] theorem State.enter_gates : (s.enter r).gates = s.gates := rfl
@[simp] theorem State.enter_ecu : (s.enter r).ecu = s.ecu := rfl
@[simp] theorem State.enter_plt : (s.enter r).plt = s.plt := rfl
@[simp] theorem State.enter_rsq : (s.enter r).rsq = { s.rsq with runState := r } := rfl
@[simp] theorem State.enter_bli : (s.enter r).bli = s.bli := rfl
@[simp] theorem State.enter_rrp : (s.enter r).rrp = s.rrp := rfl
@[simp] theorem State.enter_seu : (s.enter r).seu = s.seu := rfl
@[simp] theorem State.enter_rst : (s.enter r).rst = s.rst := rfl
@[simp] theorem State.enter_sys : (s.enter r).sys = s.sys := rfl
@[simp] theorem State.enter_pins : (s.enter r).pins = s.pins := rfl
@[simp] theorem State.enter_freeIndex : (s.enter r).freeIndex = s.freeIndex := rfl
@[simp] theorem State.enter_pending : (s.enter r).pending = s.pending := rfl
@[simp] theorem State.post_pfe : (s.post c).pfe = s.pfe := rfl
@[simp] theorem State.post_time : (s.post c).time = s.time := rfl
@[simp] theorem State.post_gates : (s.post c).gates = s.gates := rfl
@[simp] theorem State.post_ecu : (s.post c).ecu = s.ecu := rfl
@[simp] theorem State.post_plt : (s.post c).plt = s.plt := rfl
@[simp] theorem State.post_rsq : (s.post c).rsq = s.rsq := rfl
@[simp] theorem State.post_bli : (s.post c).bli = s.bli := rfl
@[simp] theorem State.post_rrp : (s.post c).rrp = s.rrp := rfl
@[simp] theorem State.post_seu : (s.post c).seu = s.seu := rfl
@[simp] theorem State.post_rst : (s.post c).rst = s.rst := rfl
@[simp] theorem State.post_sys : (s.post c).sys = s.sys := rfl
@[simp] theorem State.post_pins : (s.post c).pins = s.pins := rfl
@[simp] theorem State.post_freeIndex : (s.post c).freeIndex = s.freeIndex + 1 := rfl
@[simp] theorem State.post_pending : (s.post c).pending = s.pending ++ [c] := rfl
end

/-! ### Access -/

section
variable (s : State) (ch : Channel)
@[simp] theorem State.mapMeter_meter (f : MeterInput → MeterInput) : (s.mapMeter ch f).meter ch = f (s.meter ch) := by
  cases ch <;> rfl
@[simp] theorem State.mapEngine_engine (f : GateEngine → GateEngine) : (s.mapEngine ch f).engine ch = f (s.engine ch) := by
  cases ch <;> rfl
@[simp] theorem State.mapDwell_dwell (f : Dwell → Dwell) : (s.mapDwell ch f).dwell ch = f (s.dwell ch) := by
  cases ch <;> rfl
@[simp] theorem State.mapMeter_engine (f : MeterInput → MeterInput) (k : Channel) :
    (s.mapMeter ch f).engine k = s.engine k := rfl
@[simp] theorem State.mapMeter_dwell (f : MeterInput → MeterInput) (k : Channel) :
    (s.mapMeter ch f).dwell k = s.dwell k := rfl
@[simp] theorem State.mapEngine_meter (f : GateEngine → GateEngine) (k : Channel) :
    (s.mapEngine ch f).meter k = s.meter k := rfl
@[simp] theorem State.mapEngine_dwell (f : GateEngine → GateEngine) (k : Channel) :
    (s.mapEngine ch f).dwell k = s.dwell k := rfl
@[simp] theorem State.mapDwell_engine (f : Dwell → Dwell) (k : Channel) :
    (s.mapDwell ch f).engine k = s.engine k := rfl
@[simp] theorem State.mapDwell_meter (f : Dwell → Dwell) (k : Channel) :
    (s.mapDwell ch f).meter k = s.meter k := rfl
end

/-! ### The settings of the meter inputs (R1) -/

@[simp] theorem MeterInput.goLive_settings (m : MeterInput) : m.goLive.settings = m.settings := rfl
@[simp] theorem MeterInput.abandon_settings (m : MeterInput) : m.abandon.settings = m.settings := rfl

/-- A change of the working state of an input keeps the settings of both. -/
theorem State.mapMeter_settings (s : State) (ch : Channel) (f : MeterInput → MeterInput)
    (h : ∀ m, (f m).settings = m.settings) : (s.mapMeter ch f).pfe.settings = s.pfe.settings := by
  cases ch <;> simp [State.mapMeter, Pfe.settings, h]

@[simp] theorem State.mapMeter_goLive_settings (s : State) (ch : Channel) :
    (s.mapMeter ch MeterInput.goLive).pfe.settings = s.pfe.settings := s.mapMeter_settings ch _ fun _ => rfl
@[simp] theorem State.mapMeter_abandon_settings (s : State) (ch : Channel) :
    (s.mapMeter ch MeterInput.abandon).pfe.settings = s.pfe.settings := s.mapMeter_settings ch _ fun _ => rfl
@[simp] theorem State.mapMeter_work_settings (s : State) (ch : Channel) (a : MeterInput → Option Pulse) (b : MeterInput → Bool)
    (c : MeterInput → Option Word) (d : MeterInput → Nat) :
    (s.mapMeter ch fun m => { m with pulse := a m, active := b m, lastEdge := c m, glitches := d m }).pfe.settings =
      s.pfe.settings := s.mapMeter_settings ch _ fun _ => rfl

/-- A change of the pulse front end that leaves its meter inputs keeps their settings. -/
@[simp] theorem Pfe.settings_with (p : Pfe) (a b : RefInput) (c : Zc) :
    ({ p with rf0 := a, rf1 := b, zc := c } : Pfe).settings = p.settings := rfl

end Sys2Proof.Machine
end

