-- ==== Sys2Proof/Laws/Frames.lean ====
section
/-! SUPPORT. What each shared operation leaves alone: one lemma per operation, which says item by item what is as before. A proof cites it
(or lets simp use it) in place of unfolding the operation. -/

namespace Sys2Proof.Machine

/- One proof script serves every lemma, and parts of it are idle in the plainer ones. -/
set_option linter.unusedTactic false
set_option linter.unreachableTactic false
set_option linter.unusedSimpArgs false

/-! ### Ops -/

@[simp] theorem State.mapEntry_frame (s : State) (x : Nat) (f : RosterEntry → RosterEntry) : let t := s.mapEntry x f
    t.pfe = s.pfe ∧ t.time = s.time ∧ t.gates = s.gates ∧ t.ecu = s.ecu ∧ t.plt = s.plt ∧ t.rsq.runState = s.rsq.runState ∧
    t.rsq.run = s.rsq.run ∧ t.rsq.seq = s.rsq.seq ∧ t.rsq.desc = s.rsq.desc ∧ t.rsq.enrolWindow = s.rsq.enrolWindow ∧
    t.rsq.allowance = s.rsq.allowance ∧ t.rsq.barrier = s.rsq.barrier ∧ t.rsq.enrolSent = s.rsq.enrolSent ∧ t.rsq.phase = s.rsq.phase ∧
    t.rsq.settle = s.rsq.settle ∧ t.rsq.received = s.rsq.received ∧ t.rsq.window = s.rsq.window ∧ t.rsq.figure = s.rsq.figure ∧
    t.rsq.tally = s.rsq.tally ∧ t.rsq.verdict = s.rsq.verdict ∧ t.bli = s.bli ∧ t.rrp = s.rrp ∧ t.seu = s.seu ∧ t.rst = s.rst ∧
    t.sys = s.sys ∧ t.pins = s.pins ∧ t.freeIndex = s.freeIndex ∧ t.pending = s.pending := by
  simp only [State.mapEntry]
  repeat' first | (simp; done) | split

@[simp] theorem State.stray_frame (s : State) : let t := s.stray
    t.pfe = s.pfe ∧ t.time = s.time ∧ t.gates = s.gates ∧ t.ecu = s.ecu ∧ t.plt = s.plt ∧ t.rsq = s.rsq ∧ t.bli.stage = s.bli.stage ∧
    t.bli.quiet = s.bli.quiet ∧ t.bli.stuck = s.bli.stuck ∧ t.bli.dominantSince = s.bli.dominantSince ∧
    t.bli.afterStuck = s.bli.afterStuck ∧ t.bli.low = s.bli.low ∧ t.bli.unseen = s.bli.unseen ∧ t.bli.buffer = s.bli.buffer ∧
    t.bli.coord = s.bli.coord ∧ t.bli.report = s.bli.report ∧ t.bli.waiting = s.bli.waiting ∧ t.bli.attempt = s.bli.attempt ∧
    t.bli.w = s.bli.w ∧ t.bli.lineErrors = s.bli.lineErrors ∧ t.bli.overruns = s.bli.overruns ∧ t.bli.lost = s.bli.lost ∧ t.rrp = s.rrp ∧
    t.seu = s.seu ∧ t.rst = s.rst ∧ t.sys = s.sys ∧ t.pins = s.pins ∧ t.freeIndex = s.freeIndex ∧ t.pending = s.pending := by
  simp only [State.stray]
  repeat' first | (simp; done) | split

@[simp] theorem State.offerCoord_frame (s : State) (f : CoordFrame) : let t := s.offerCoord f
    t.pfe = s.pfe ∧ t.time = s.time ∧ t.gates = s.gates ∧ t.ecu = s.ecu ∧ t.plt = s.plt ∧ t.rsq = s.rsq ∧ t.bli.stage = s.bli.stage ∧
    t.bli.quiet = s.bli.quiet ∧ t.bli.stuck = s.bli.stuck ∧ t.bli.dominantSince = s.bli.dominantSince ∧
    t.bli.afterStuck = s.bli.afterStuck ∧ t.bli.low = s.bli.low ∧ t.bli.unseen = s.bli.unseen ∧ t.bli.buffer = s.bli.buffer ∧
    t.bli.report = s.bli.report ∧ t.bli.attempt = s.bli.attempt ∧ t.bli.w = s.bli.w ∧ t.bli.lineErrors = s.bli.lineErrors ∧
    t.bli.overruns = s.bli.overruns ∧ t.bli.lost = s.bli.lost ∧ t.bli.strays = s.bli.strays ∧ t.rrp = s.rrp ∧ t.seu = s.seu ∧
    t.rst = s.rst ∧ t.sys = s.sys ∧ t.pins = s.pins ∧ t.freeIndex = s.freeIndex ∧ t.pending = s.pending := by
  simp only [State.offerCoord, State.mapBli]
  repeat' first | (simp; done) | (simp [Pfe.settings]; done) | split

@[simp] theorem State.withdrawFrames_frame (s : State) (p : CoordFrame → Bool) : let t := s.withdrawFrames p
    t.pfe = s.pfe ∧ t.time = s.time ∧ t.gates = s.gates ∧ t.ecu = s.ecu ∧ t.plt = s.plt ∧ t.rsq = s.rsq ∧ t.bli.stage = s.bli.stage ∧
    t.bli.quiet = s.bli.quiet ∧ t.bli.stuck = s.bli.stuck ∧ t.bli.dominantSince = s.bli.dominantSince ∧
    t.bli.afterStuck = s.bli.afterStuck ∧ t.bli.low = s.bli.low ∧ t.bli.unseen = s.bli.unseen ∧ t.bli.buffer = s.bli.buffer ∧
    t.bli.report = s.bli.report ∧ t.bli.w = s.bli.w ∧ t.bli.lineErrors = s.bli.lineErrors ∧ t.bli.overruns = s.bli.overruns ∧
    t.bli.lost = s.bli.lost ∧ t.bli.strays = s.bli.strays ∧ t.rrp = s.rrp ∧ t.seu = s.seu ∧ t.rst = s.rst ∧ t.sys = s.sys ∧
    t.pins = s.pins ∧ t.freeIndex = s.freeIndex ∧ t.pending = s.pending := by
  simp only [State.withdrawFrames]
  repeat' first | (simp [Bli.withdraw, Bli.refill]; done) | split

@[simp] theorem State.offerReport_frame (s : State) (f : ReportFrame) : let t := s.offerReport f
    t.pfe = s.pfe ∧ t.time = s.time ∧ t.gates = s.gates ∧ t.ecu = s.ecu ∧ t.plt = s.plt ∧ t.rsq = s.rsq ∧ t.bli.stage = s.bli.stage ∧
    t.bli.quiet = s.bli.quiet ∧ t.bli.stuck = s.bli.stuck ∧ t.bli.dominantSince = s.bli.dominantSince ∧
    t.bli.afterStuck = s.bli.afterStuck ∧ t.bli.low = s.bli.low ∧ t.bli.unseen = s.bli.unseen ∧ t.bli.buffer = s.bli.buffer ∧
    t.bli.coord = s.bli.coord ∧ t.bli.waiting = s.bli.waiting ∧ t.bli.attempt = s.bli.attempt ∧ t.bli.w = s.bli.w ∧
    t.bli.lineErrors = s.bli.lineErrors ∧ t.bli.overruns = s.bli.overruns ∧ t.bli.lost = s.bli.lost ∧ t.bli.strays = s.bli.strays ∧
    t.rrp = s.rrp ∧ t.seu = s.seu ∧ t.rst = s.rst ∧ t.sys = s.sys ∧ t.pins = s.pins ∧ t.freeIndex = s.freeIndex ∧ t.pending = s.pending := by
  simp only [State.offerReport, State.mapBli]
  repeat' first | (simp; done) | (simp [Pfe.settings]; done) | split

@[simp] theorem State.mapSlot_frame (s : State) (n : Nat) (f : Slot → Slot) : let t := s.mapSlot n f
    t.pfe = s.pfe ∧ t.time = s.time ∧ t.gates = s.gates ∧ t.ecu = s.ecu ∧ t.plt = s.plt ∧ t.rsq = s.rsq ∧ t.bli = s.bli ∧ t.rrp = s.rrp ∧
    t.seu = s.seu ∧ t.rst.damaged = s.rst.damaged ∧ t.rst.lastRecord = s.rst.lastRecord ∧ t.rst.op = s.rst.op ∧
    t.rst.opTimer = s.rst.opTimer ∧ t.rst.waiting = s.rst.waiting ∧ t.rst.reservation = s.rst.reservation ∧
    t.rst.reserveAsked = s.rst.reserveAsked ∧ t.sys = s.sys ∧ t.pins = s.pins ∧ t.freeIndex = s.freeIndex ∧ t.pending = s.pending := by
  simp only [State.mapSlot]
  repeat' first | (simp; done) | split

/-! ### Flags -/

@[simp] theorem State.callStatus_frame (s : State) : let t := s.callStatus
    t.pfe = s.pfe ∧ t.time = s.time ∧ t.gates = s.gates ∧ t.ecu = s.ecu ∧ t.plt = s.plt ∧ t.rsq = s.rsq ∧ t.bli.stage = s.bli.stage ∧
    t.bli.quiet = s.bli.quiet ∧ t.bli.stuck = s.bli.stuck ∧ t.bli.dominantSince = s.bli.dominantSince ∧
    t.bli.afterStuck = s.bli.afterStuck ∧ t.bli.low = s.bli.low ∧ t.bli.unseen = s.bli.unseen ∧ t.bli.buffer = s.bli.buffer ∧
    t.bli.coord = s.bli.coord ∧ t.bli.waiting = s.bli.waiting ∧ t.bli.attempt = s.bli.attempt ∧ t.bli.w = s.bli.w ∧
    t.bli.lineErrors = s.bli.lineErrors ∧ t.bli.overruns = s.bli.overruns ∧ t.bli.lost = s.bli.lost ∧ t.bli.strays = s.bli.strays ∧
    t.rrp.queue = s.rrp.queue ∧ t.rrp.tq = s.rrp.tq ∧ t.rrp.td = s.rrp.td ∧ t.rrp.delay = s.rrp.delay ∧ t.rrp.call = s.rrp.call ∧
    t.rrp.drops = s.rrp.drops ∧ t.rrp.flags = s.rrp.flags ∧ t.rrp.mask = s.rrp.mask ∧ t.rrp.lastRefusal = s.rrp.lastRefusal ∧
    t.seu = s.seu ∧ t.rst = s.rst ∧ t.sys = s.sys ∧ t.pins = s.pins ∧ t.freeIndex = s.freeIndex ∧ t.pending = s.pending := by
  simp only [State.callStatus]
  repeat' first | (simp; done) | split

@[simp] theorem State.raise_frame (s : State) (e : Event) : let t := s.raise e
    t.pfe = s.pfe ∧ t.time = s.time ∧ t.gates = s.gates ∧ t.ecu = s.ecu ∧ t.plt = s.plt ∧ t.rsq = s.rsq ∧ t.bli.stage = s.bli.stage ∧
    t.bli.quiet = s.bli.quiet ∧ t.bli.stuck = s.bli.stuck ∧ t.bli.dominantSince = s.bli.dominantSince ∧
    t.bli.afterStuck = s.bli.afterStuck ∧ t.bli.low = s.bli.low ∧ t.bli.unseen = s.bli.unseen ∧ t.bli.buffer = s.bli.buffer ∧
    t.bli.coord = s.bli.coord ∧ t.bli.waiting = s.bli.waiting ∧ t.bli.attempt = s.bli.attempt ∧ t.bli.w = s.bli.w ∧
    t.bli.lineErrors = s.bli.lineErrors ∧ t.bli.overruns = s.bli.overruns ∧ t.bli.lost = s.bli.lost ∧ t.bli.strays = s.bli.strays ∧
    t.rrp.queue = s.rrp.queue ∧ t.rrp.tq = s.rrp.tq ∧ t.rrp.td = s.rrp.td ∧ t.rrp.delay = s.rrp.delay ∧ t.rrp.call = s.rrp.call ∧
    t.rrp.drops = s.rrp.drops ∧ t.rrp.mask = s.rrp.mask ∧ t.rrp.lastRefusal = s.rrp.lastRefusal ∧ t.seu = s.seu ∧ t.rst = s.rst ∧
    t.sys = s.sys ∧ t.pins = s.pins ∧ t.freeIndex = s.freeIndex ∧ t.pending = s.pending := by
  simp only [State.raise]
  repeat' first | (simp; done) | split

@[simp] theorem State.refuse_frame (s : State) (kind : Nat) (cause : RefusalCause) : let t := s.refuse kind cause
    t.pfe = s.pfe ∧ t.time = s.time ∧ t.gates = s.gates ∧ t.ecu = s.ecu ∧ t.plt = s.plt ∧ t.rsq = s.rsq ∧ t.bli = s.bli ∧
    t.rrp.queue = s.rrp.queue ∧ t.rrp.tq = s.rrp.tq ∧ t.rrp.td = s.rrp.td ∧ t.rrp.delay = s.rrp.delay ∧ t.rrp.call = s.rrp.call ∧
    t.rrp.drops = s.rrp.drops ∧ t.rrp.flags = s.rrp.flags ∧ t.rrp.mask = s.rrp.mask ∧ t.rrp.statusDue = s.rrp.statusDue ∧ t.seu = s.seu ∧
    t.rst = s.rst ∧ t.sys = s.sys ∧ t.pins = s.pins ∧ t.freeIndex = s.freeIndex ∧ t.pending = s.pending := by
  simp only [State.refuse]
  repeat' first | (simp; done) | split

/-! ### Lamps -/

@[simp] theorem State.relamp_frame (s : State) : let t := s.relamp
    t.pfe = s.pfe ∧ t.time = s.time ∧ t.gates = s.gates ∧ t.ecu = s.ecu ∧ t.plt = s.plt ∧ t.rsq = s.rsq ∧ t.bli = s.bli ∧ t.rrp = s.rrp ∧
    t.seu.enable = s.seu.enable ∧ t.seu.block = s.seu.block ∧ t.seu.watermark = s.seu.watermark ∧
    t.seu.strokeTimeout = s.seu.strokeTimeout ∧ t.seu.voids = s.seu.voids ∧ t.seu.claim = s.seu.claim ∧ t.seu.press = s.seu.press ∧
    t.seu.strokeTimer = s.seu.strokeTimer ∧ t.seu.seenInactive = s.seu.seenInactive ∧ t.seu.outcome = s.seu.outcome ∧
    t.seu.reject = s.seu.reject ∧ t.seu.rejectTimer = s.seu.rejectTimer ∧ t.seu.aborted = s.seu.aborted ∧ t.rst = s.rst ∧ t.sys = s.sys ∧
    t.pins = s.pins ∧ t.freeIndex = s.freeIndex ∧ t.pending = s.pending := by
  simp only [State.relamp]
  repeat' first | (simp; done) | split

/-! ### Report -/

@[simp] theorem State.testResult_frame (s : State) : let t := s.testResult
    t.pfe = s.pfe ∧ t.time = s.time ∧ t.gates = s.gates ∧ t.ecu = s.ecu ∧ t.plt = s.plt ∧ t.rsq = s.rsq ∧ t.bli.stage = s.bli.stage ∧
    t.bli.quiet = s.bli.quiet ∧ t.bli.stuck = s.bli.stuck ∧ t.bli.dominantSince = s.bli.dominantSince ∧
    t.bli.afterStuck = s.bli.afterStuck ∧ t.bli.low = s.bli.low ∧ t.bli.unseen = s.bli.unseen ∧ t.bli.buffer = s.bli.buffer ∧
    t.bli.coord = s.bli.coord ∧ t.bli.waiting = s.bli.waiting ∧ t.bli.attempt = s.bli.attempt ∧ t.bli.w = s.bli.w ∧
    t.bli.lineErrors = s.bli.lineErrors ∧ t.bli.overruns = s.bli.overruns ∧ t.bli.lost = s.bli.lost ∧ t.bli.strays = s.bli.strays ∧
    t.rrp.tq = s.rrp.tq ∧ t.rrp.td = s.rrp.td ∧ t.rrp.flags = s.rrp.flags ∧ t.rrp.mask = s.rrp.mask ∧ t.rrp.statusDue = s.rrp.statusDue ∧
    t.rrp.lastRefusal = s.rrp.lastRefusal ∧ t.seu = s.seu ∧ t.rst = s.rst ∧ t.sys = s.sys ∧ t.pins = s.pins ∧ t.freeIndex = s.freeIndex ∧
    t.pending = s.pending := by
  simp only [State.testResult, State.mapRrp, Rrp.afterFormation, Rrp.startDelay]
  repeat' first | (simp; done) | (simp [Pfe.settings]; done) | split

@[simp] theorem State.joinTail_frame (s : State) (e : Entry) : let t := s.joinTail e
    t.pfe = s.pfe ∧ t.time = s.time ∧ t.gates = s.gates ∧ t.ecu = s.ecu ∧ t.plt = s.plt ∧ t.rsq = s.rsq ∧ t.bli.stage = s.bli.stage ∧
    t.bli.quiet = s.bli.quiet ∧ t.bli.stuck = s.bli.stuck ∧ t.bli.dominantSince = s.bli.dominantSince ∧
    t.bli.afterStuck = s.bli.afterStuck ∧ t.bli.low = s.bli.low ∧ t.bli.unseen = s.bli.unseen ∧ t.bli.buffer = s.bli.buffer ∧
    t.bli.coord = s.bli.coord ∧ t.bli.waiting = s.bli.waiting ∧ t.bli.attempt = s.bli.attempt ∧ t.bli.w = s.bli.w ∧
    t.bli.lineErrors = s.bli.lineErrors ∧ t.bli.overruns = s.bli.overruns ∧ t.bli.lost = s.bli.lost ∧ t.bli.strays = s.bli.strays ∧
    t.rrp.tq = s.rrp.tq ∧ t.rrp.td = s.rrp.td ∧ t.rrp.flags = s.rrp.flags ∧ t.rrp.mask = s.rrp.mask ∧ t.rrp.statusDue = s.rrp.statusDue ∧
    t.rrp.lastRefusal = s.rrp.lastRefusal ∧ t.seu = s.seu ∧ t.rst = s.rst ∧ t.sys = s.sys ∧ t.pins = s.pins ∧ t.freeIndex = s.freeIndex ∧
    t.pending = s.pending := by
  simp only [State.joinTail, State.mapRrp, Rrp.startDelay]
  repeat' first | (simp; done) | (simp [Pfe.settings]; done) | split

@[simp] theorem State.handEntry_frame (s : State) (e : Entry) : let t := s.handEntry e
    t.pfe = s.pfe ∧ t.time = s.time ∧ t.gates = s.gates ∧ t.ecu = s.ecu ∧ t.plt = s.plt ∧ t.rsq = s.rsq ∧ t.bli.stage = s.bli.stage ∧
    t.bli.quiet = s.bli.quiet ∧ t.bli.stuck = s.bli.stuck ∧ t.bli.dominantSince = s.bli.dominantSince ∧
    t.bli.afterStuck = s.bli.afterStuck ∧ t.bli.low = s.bli.low ∧ t.bli.unseen = s.bli.unseen ∧ t.bli.buffer = s.bli.buffer ∧
    t.bli.coord = s.bli.coord ∧ t.bli.waiting = s.bli.waiting ∧ t.bli.attempt = s.bli.attempt ∧ t.bli.w = s.bli.w ∧
    t.bli.lineErrors = s.bli.lineErrors ∧ t.bli.overruns = s.bli.overruns ∧ t.bli.lost = s.bli.lost ∧ t.bli.strays = s.bli.strays ∧
    t.rrp.tq = s.rrp.tq ∧ t.rrp.td = s.rrp.td ∧ t.rrp.mask = s.rrp.mask ∧ t.rrp.lastRefusal = s.rrp.lastRefusal ∧ t.seu = s.seu ∧
    t.rst = s.rst ∧ t.sys = s.sys ∧ t.pins = s.pins ∧ t.freeIndex = s.freeIndex ∧ t.pending = s.pending := by
  simp only [State.handEntry]
  repeat' first | (simp; done) | split

@[simp] theorem State.resetResults_frame (s : State) : let t := s.resetResults
    t.pfe = s.pfe ∧ t.time = s.time ∧ t.gates = s.gates ∧ t.ecu = s.ecu ∧ t.plt = s.plt ∧ t.rsq = s.rsq ∧ t.bli = s.bli ∧
    t.rrp.tq = s.rrp.tq ∧ t.rrp.td = s.rrp.td ∧ t.rrp.flags = s.rrp.flags ∧ t.rrp.mask = s.rrp.mask ∧ t.rrp.statusDue = s.rrp.statusDue ∧
    t.rrp.lastRefusal = s.rrp.lastRefusal ∧ t.seu = s.seu ∧ t.rst = s.rst ∧ t.sys = s.sys ∧ t.pins = s.pins ∧ t.freeIndex = s.freeIndex ∧
    t.pending = s.pending := by
  simp only [State.resetResults]
  repeat' first | (simp; done) | split

/-! ### Store -/

@[simp] theorem State.giveSeal_frame (s : State) (o : SealOutcome) : let t := s.giveSeal o
    t.pfe = s.pfe ∧ t.time = s.time ∧ t.gates = s.gates ∧ t.ecu = s.ecu ∧ t.plt = s.plt ∧ t.rsq.run = s.rsq.run ∧ t.rsq.seq = s.rsq.seq ∧
    t.rsq.desc = s.rsq.desc ∧ t.rsq.roster = s.rsq.roster ∧ t.rsq.enrolWindow = s.rsq.enrolWindow ∧ t.rsq.allowance = s.rsq.allowance ∧
    t.rsq.barrier = s.rsq.barrier ∧ t.rsq.enrolSent = s.rsq.enrolSent ∧ t.rsq.phase = s.rsq.phase ∧ t.rsq.settle = s.rsq.settle ∧
    t.rsq.received = s.rsq.received ∧ t.rsq.window = s.rsq.window ∧ t.rsq.figure = s.rsq.figure ∧ t.rsq.tally = s.rsq.tally ∧
    t.rsq.verdict = s.rsq.verdict ∧ t.bli = s.bli ∧ t.rrp = s.rrp ∧ t.seu.enable = s.seu.enable ∧ t.seu.block = s.seu.block ∧
    t.seu.watermark = s.seu.watermark ∧ t.seu.strokeTimeout = s.seu.strokeTimeout ∧ t.seu.voids = s.seu.voids ∧ t.seu.press = s.seu.press ∧
    t.seu.strokeTimer = s.seu.strokeTimer ∧ t.seu.seenInactive = s.seu.seenInactive ∧ t.seu.lamps = s.seu.lamps ∧
    t.seu.reject = s.seu.reject ∧ t.seu.rejectTimer = s.seu.rejectTimer ∧ t.seu.aborted = s.seu.aborted ∧ t.rst = s.rst ∧ t.sys = s.sys ∧
    t.pins = s.pins ∧ t.freeIndex = s.freeIndex ∧ t.pending = s.pending := by
  simp only [State.giveSeal]
  repeat' first | (simp; done) | split

@[simp] theorem State.markReported_frame (s : State) (m : Mark) : let t := s.markReported m
    t.pfe = s.pfe ∧ t.time = s.time ∧ t.gates = s.gates ∧ t.ecu = s.ecu ∧ t.plt = s.plt ∧ t.rsq.run = s.rsq.run ∧ t.rsq.seq = s.rsq.seq ∧
    t.rsq.desc = s.rsq.desc ∧ t.rsq.roster = s.rsq.roster ∧ t.rsq.enrolWindow = s.rsq.enrolWindow ∧ t.rsq.allowance = s.rsq.allowance ∧
    t.rsq.barrier = s.rsq.barrier ∧ t.rsq.enrolSent = s.rsq.enrolSent ∧ t.rsq.phase = s.rsq.phase ∧ t.rsq.settle = s.rsq.settle ∧
    t.rsq.received = s.rsq.received ∧ t.rsq.window = s.rsq.window ∧ t.rsq.figure = s.rsq.figure ∧ t.rsq.tally = s.rsq.tally ∧
    t.rsq.verdict = s.rsq.verdict ∧ t.bli = s.bli ∧ t.rrp = s.rrp ∧ t.seu.enable = s.seu.enable ∧ t.seu.block = s.seu.block ∧
    t.seu.watermark = s.seu.watermark ∧ t.seu.strokeTimeout = s.seu.strokeTimeout ∧ t.seu.voids = s.seu.voids ∧ t.seu.press = s.seu.press ∧
    t.seu.strokeTimer = s.seu.strokeTimer ∧ t.seu.seenInactive = s.seu.seenInactive ∧ t.seu.lamps = s.seu.lamps ∧
    t.seu.reject = s.seu.reject ∧ t.seu.rejectTimer = s.seu.rejectTimer ∧ t.seu.aborted = s.seu.aborted ∧ t.rst = s.rst ∧ t.sys = s.sys ∧
    t.pins = s.pins ∧ t.freeIndex = s.freeIndex ∧ t.pending = s.pending := by
  simp only [State.markReported]
  repeat' first | (simp; done) | split

@[simp] theorem State.writeLost_frame (s : State) (job : WriteJob) : let t := s.writeLost job
    t.pfe = s.pfe ∧ t.time = s.time ∧ t.gates = s.gates ∧ t.ecu = s.ecu ∧ t.plt = s.plt ∧ t.rsq.run = s.rsq.run ∧ t.rsq.seq = s.rsq.seq ∧
    t.rsq.desc = s.rsq.desc ∧ t.rsq.roster = s.rsq.roster ∧ t.rsq.enrolWindow = s.rsq.enrolWindow ∧ t.rsq.allowance = s.rsq.allowance ∧
    t.rsq.barrier = s.rsq.barrier ∧ t.rsq.enrolSent = s.rsq.enrolSent ∧ t.rsq.phase = s.rsq.phase ∧ t.rsq.settle = s.rsq.settle ∧
    t.rsq.received = s.rsq.received ∧ t.rsq.window = s.rsq.window ∧ t.rsq.figure = s.rsq.figure ∧ t.rsq.tally = s.rsq.tally ∧
    t.rsq.verdict = s.rsq.verdict ∧ t.bli.stage = s.bli.stage ∧ t.bli.quiet = s.bli.quiet ∧ t.bli.stuck = s.bli.stuck ∧
    t.bli.dominantSince = s.bli.dominantSince ∧ t.bli.afterStuck = s.bli.afterStuck ∧ t.bli.low = s.bli.low ∧ t.bli.unseen = s.bli.unseen ∧
    t.bli.buffer = s.bli.buffer ∧ t.bli.coord = s.bli.coord ∧ t.bli.waiting = s.bli.waiting ∧ t.bli.attempt = s.bli.attempt ∧
    t.bli.w = s.bli.w ∧ t.bli.lineErrors = s.bli.lineErrors ∧ t.bli.overruns = s.bli.overruns ∧ t.bli.lost = s.bli.lost ∧
    t.bli.strays = s.bli.strays ∧ t.rrp.queue = s.rrp.queue ∧ t.rrp.tq = s.rrp.tq ∧ t.rrp.td = s.rrp.td ∧ t.rrp.delay = s.rrp.delay ∧
    t.rrp.call = s.rrp.call ∧ t.rrp.drops = s.rrp.drops ∧ t.rrp.mask = s.rrp.mask ∧ t.rrp.lastRefusal = s.rrp.lastRefusal ∧
    t.seu.enable = s.seu.enable ∧ t.seu.block = s.seu.block ∧ t.seu.watermark = s.seu.watermark ∧
    t.seu.strokeTimeout = s.seu.strokeTimeout ∧ t.seu.voids = s.seu.voids ∧ t.seu.press = s.seu.press ∧
    t.seu.strokeTimer = s.seu.strokeTimer ∧ t.seu.seenInactive = s.seu.seenInactive ∧ t.seu.lamps = s.seu.lamps ∧
    t.seu.reject = s.seu.reject ∧ t.seu.rejectTimer = s.seu.rejectTimer ∧ t.seu.aborted = s.seu.aborted ∧ t.rst.slots = s.rst.slots ∧
    t.rst.damaged = s.rst.damaged ∧ t.rst.lastRecord = s.rst.lastRecord ∧ t.rst.op = s.rst.op ∧ t.rst.opTimer = s.rst.opTimer ∧
    t.rst.waiting = s.rst.waiting ∧ t.rst.reserveAsked = s.rst.reserveAsked ∧ t.sys = s.sys ∧ t.pins = s.pins ∧ t.freeIndex = s.freeIndex ∧
    t.pending = s.pending := by
  simp only [State.writeLost]
  repeat' first | (simp; done) | split

@[simp] theorem State.beginOp_frame (s : State) (op : StoreOp) (time : Nat) : let t := s.beginOp op time
    t.pfe = s.pfe ∧ t.time = s.time ∧ t.gates = s.gates ∧ t.ecu = s.ecu ∧ t.plt = s.plt ∧ t.rsq = s.rsq ∧ t.bli = s.bli ∧ t.rrp = s.rrp ∧
    t.seu = s.seu ∧ t.rst.slots = s.rst.slots ∧ t.rst.damaged = s.rst.damaged ∧ t.rst.lastRecord = s.rst.lastRecord ∧
    t.rst.waiting = s.rst.waiting ∧ t.rst.reservation = s.rst.reservation ∧ t.rst.reserveAsked = s.rst.reserveAsked ∧ t.sys = s.sys ∧
    t.pins = s.pins ∧ t.freeIndex = s.freeIndex ∧ t.pending = s.pending := by
  simp only [State.beginOp]
  repeat' first | (simp; done) | split

@[simp] theorem State.beginContent_frame (s : State) (n : Nat) (job : WriteJob) : let t := s.beginContent n job
    t.pfe = s.pfe ∧ t.time = s.time ∧ t.gates = s.gates ∧ t.ecu = s.ecu ∧ t.plt = s.plt ∧ t.rsq = s.rsq ∧ t.bli = s.bli ∧ t.rrp = s.rrp ∧
    t.seu = s.seu ∧ t.rst.slots = s.rst.slots ∧ t.rst.damaged = s.rst.damaged ∧ t.rst.waiting = s.rst.waiting ∧
    t.rst.reservation = s.rst.reservation ∧ t.rst.reserveAsked = s.rst.reserveAsked ∧ t.sys = s.sys ∧ t.pins = s.pins ∧
    t.freeIndex = s.freeIndex ∧ t.pending = s.pending := by
  simp only [State.beginContent]
  repeat' first | (simp; done) | split

@[simp] theorem State.beginWrite_frame (s : State) (n : Nat) (job : WriteJob) : let t := s.beginWrite n job
    t.pfe = s.pfe ∧ t.time = s.time ∧ t.gates = s.gates ∧ t.ecu = s.ecu ∧ t.plt = s.plt ∧ t.rsq = s.rsq ∧ t.bli = s.bli ∧ t.rrp = s.rrp ∧
    t.seu = s.seu ∧ t.rst.slots = s.rst.slots ∧ t.rst.damaged = s.rst.damaged ∧ t.rst.waiting = s.rst.waiting ∧
    t.rst.reservation = s.rst.reservation ∧ t.rst.reserveAsked = s.rst.reserveAsked ∧ t.sys = s.sys ∧ t.pins = s.pins ∧
    t.freeIndex = s.freeIndex ∧ t.pending = s.pending := by
  simp only [State.beginWrite]
  repeat' first | (simp; done) | split

@[simp] theorem State.beginRequest_frame (s : State) (q : StoreRequest) : let t := (s.beginRequest q).1
    t.pfe = s.pfe ∧ t.time = s.time ∧ t.gates = s.gates ∧ t.ecu = s.ecu ∧ t.plt = s.plt ∧ t.rsq.run = s.rsq.run ∧ t.rsq.seq = s.rsq.seq ∧
    t.rsq.desc = s.rsq.desc ∧ t.rsq.roster = s.rsq.roster ∧ t.rsq.enrolWindow = s.rsq.enrolWindow ∧ t.rsq.allowance = s.rsq.allowance ∧
    t.rsq.barrier = s.rsq.barrier ∧ t.rsq.enrolSent = s.rsq.enrolSent ∧ t.rsq.phase = s.rsq.phase ∧ t.rsq.settle = s.rsq.settle ∧
    t.rsq.received = s.rsq.received ∧ t.rsq.window = s.rsq.window ∧ t.rsq.figure = s.rsq.figure ∧ t.rsq.tally = s.rsq.tally ∧
    t.rsq.verdict = s.rsq.verdict ∧ t.bli.stage = s.bli.stage ∧ t.bli.quiet = s.bli.quiet ∧ t.bli.stuck = s.bli.stuck ∧
    t.bli.dominantSince = s.bli.dominantSince ∧ t.bli.afterStuck = s.bli.afterStuck ∧ t.bli.low = s.bli.low ∧ t.bli.unseen = s.bli.unseen ∧
    t.bli.buffer = s.bli.buffer ∧ t.bli.coord = s.bli.coord ∧ t.bli.waiting = s.bli.waiting ∧ t.bli.attempt = s.bli.attempt ∧
    t.bli.w = s.bli.w ∧ t.bli.lineErrors = s.bli.lineErrors ∧ t.bli.overruns = s.bli.overruns ∧ t.bli.lost = s.bli.lost ∧
    t.bli.strays = s.bli.strays ∧ t.rrp.queue = s.rrp.queue ∧ t.rrp.tq = s.rrp.tq ∧ t.rrp.td = s.rrp.td ∧ t.rrp.delay = s.rrp.delay ∧
    t.rrp.call = s.rrp.call ∧ t.rrp.drops = s.rrp.drops ∧ t.rrp.mask = s.rrp.mask ∧ t.rrp.lastRefusal = s.rrp.lastRefusal ∧
    t.seu.enable = s.seu.enable ∧ t.seu.block = s.seu.block ∧ t.seu.watermark = s.seu.watermark ∧
    t.seu.strokeTimeout = s.seu.strokeTimeout ∧ t.seu.voids = s.seu.voids ∧ t.seu.press = s.seu.press ∧
    t.seu.strokeTimer = s.seu.strokeTimer ∧ t.seu.seenInactive = s.seu.seenInactive ∧ t.seu.lamps = s.seu.lamps ∧
    t.seu.reject = s.seu.reject ∧ t.seu.rejectTimer = s.seu.rejectTimer ∧ t.seu.aborted = s.seu.aborted ∧ t.rst.slots = s.rst.slots ∧
    t.rst.damaged = s.rst.damaged ∧ t.rst.waiting = s.rst.waiting ∧ t.rst.reservation = s.rst.reservation ∧
    t.rst.reserveAsked = s.rst.reserveAsked ∧ t.sys = s.sys ∧ t.pins = s.pins ∧ t.freeIndex = s.freeIndex ∧ t.pending = s.pending := by
  simp only [State.beginRequest]
  repeat' first | (simp; done) | split

@[simp] theorem State.startList_frame (s : State) (l : List StoreRequest) : let t := s.startList l
    t.pfe = s.pfe ∧ t.time = s.time ∧ t.gates = s.gates ∧ t.ecu = s.ecu ∧ t.plt = s.plt ∧ t.rsq.run = s.rsq.run ∧ t.rsq.seq = s.rsq.seq ∧
    t.rsq.desc = s.rsq.desc ∧ t.rsq.roster = s.rsq.roster ∧ t.rsq.enrolWindow = s.rsq.enrolWindow ∧ t.rsq.allowance = s.rsq.allowance ∧
    t.rsq.barrier = s.rsq.barrier ∧ t.rsq.enrolSent = s.rsq.enrolSent ∧ t.rsq.phase = s.rsq.phase ∧ t.rsq.settle = s.rsq.settle ∧
    t.rsq.received = s.rsq.received ∧ t.rsq.window = s.rsq.window ∧ t.rsq.figure = s.rsq.figure ∧ t.rsq.tally = s.rsq.tally ∧
    t.rsq.verdict = s.rsq.verdict ∧ t.bli.stage = s.bli.stage ∧ t.bli.quiet = s.bli.quiet ∧ t.bli.stuck = s.bli.stuck ∧
    t.bli.dominantSince = s.bli.dominantSince ∧ t.bli.afterStuck = s.bli.afterStuck ∧ t.bli.low = s.bli.low ∧ t.bli.unseen = s.bli.unseen ∧
    t.bli.buffer = s.bli.buffer ∧ t.bli.coord = s.bli.coord ∧ t.bli.waiting = s.bli.waiting ∧ t.bli.attempt = s.bli.attempt ∧
    t.bli.w = s.bli.w ∧ t.bli.lineErrors = s.bli.lineErrors ∧ t.bli.overruns = s.bli.overruns ∧ t.bli.lost = s.bli.lost ∧
    t.bli.strays = s.bli.strays ∧ t.rrp.queue = s.rrp.queue ∧ t.rrp.tq = s.rrp.tq ∧ t.rrp.td = s.rrp.td ∧ t.rrp.delay = s.rrp.delay ∧
    t.rrp.call = s.rrp.call ∧ t.rrp.drops = s.rrp.drops ∧ t.rrp.mask = s.rrp.mask ∧ t.rrp.lastRefusal = s.rrp.lastRefusal ∧
    t.seu.enable = s.seu.enable ∧ t.seu.block = s.seu.block ∧ t.seu.watermark = s.seu.watermark ∧
    t.seu.strokeTimeout = s.seu.strokeTimeout ∧ t.seu.voids = s.seu.voids ∧ t.seu.press = s.seu.press ∧
    t.seu.strokeTimer = s.seu.strokeTimer ∧ t.seu.seenInactive = s.seu.seenInactive ∧ t.seu.lamps = s.seu.lamps ∧
    t.seu.reject = s.seu.reject ∧ t.seu.rejectTimer = s.seu.rejectTimer ∧ t.seu.aborted = s.seu.aborted ∧ t.rst.slots = s.rst.slots ∧
    t.rst.damaged = s.rst.damaged ∧ t.rst.reservation = s.rst.reservation ∧ t.rst.reserveAsked = s.rst.reserveAsked ∧ t.sys = s.sys ∧
    t.pins = s.pins ∧ t.freeIndex = s.freeIndex ∧ t.pending = s.pending := by
  induction l generalizing s with
  | nil => simp [State.startList]
  | cons q rest ih =>
    simp only [State.startList]
    split <;> simp [ih]

@[simp] theorem State.startNext_frame (s : State) : let t := s.startNext
    t.pfe = s.pfe ∧ t.time = s.time ∧ t.gates = s.gates ∧ t.ecu = s.ecu ∧ t.plt = s.plt ∧ t.rsq.run = s.rsq.run ∧ t.rsq.seq = s.rsq.seq ∧
    t.rsq.desc = s.rsq.desc ∧ t.rsq.roster = s.rsq.roster ∧ t.rsq.enrolWindow = s.rsq.enrolWindow ∧ t.rsq.allowance = s.rsq.allowance ∧
    t.rsq.barrier = s.rsq.barrier ∧ t.rsq.enrolSent = s.rsq.enrolSent ∧ t.rsq.phase = s.rsq.phase ∧ t.rsq.settle = s.rsq.settle ∧
    t.rsq.received = s.rsq.received ∧ t.rsq.window = s.rsq.window ∧ t.rsq.figure = s.rsq.figure ∧ t.rsq.tally = s.rsq.tally ∧
    t.rsq.verdict = s.rsq.verdict ∧ t.bli.stage = s.bli.stage ∧ t.bli.quiet = s.bli.quiet ∧ t.bli.stuck = s.bli.stuck ∧
    t.bli.dominantSince = s.bli.dominantSince ∧ t.bli.afterStuck = s.bli.afterStuck ∧ t.bli.low = s.bli.low ∧ t.bli.unseen = s.bli.unseen ∧
    t.bli.buffer = s.bli.buffer ∧ t.bli.coord = s.bli.coord ∧ t.bli.waiting = s.bli.waiting ∧ t.bli.attempt = s.bli.attempt ∧
    t.bli.w = s.bli.w ∧ t.bli.lineErrors = s.bli.lineErrors ∧ t.bli.overruns = s.bli.overruns ∧ t.bli.lost = s.bli.lost ∧
    t.bli.strays = s.bli.strays ∧ t.rrp.queue = s.rrp.queue ∧ t.rrp.tq = s.rrp.tq ∧ t.rrp.td = s.rrp.td ∧ t.rrp.delay = s.rrp.delay ∧
    t.rrp.call = s.rrp.call ∧ t.rrp.drops = s.rrp.drops ∧ t.rrp.mask = s.rrp.mask ∧ t.rrp.lastRefusal = s.rrp.lastRefusal ∧
    t.seu.enable = s.seu.enable ∧ t.seu.block = s.seu.block ∧ t.seu.watermark = s.seu.watermark ∧
    t.seu.strokeTimeout = s.seu.strokeTimeout ∧ t.seu.voids = s.seu.voids ∧ t.seu.press = s.seu.press ∧
    t.seu.strokeTimer = s.seu.strokeTimer ∧ t.seu.seenInactive = s.seu.seenInactive ∧ t.seu.lamps = s.seu.lamps ∧
    t.seu.reject = s.seu.reject ∧ t.seu.rejectTimer = s.seu.rejectTimer ∧ t.seu.aborted = s.seu.aborted ∧ t.rst.slots = s.rst.slots ∧
    t.rst.damaged = s.rst.damaged ∧ t.rst.reservation = s.rst.reservation ∧ t.rst.reserveAsked = s.rst.reserveAsked ∧ t.sys = s.sys ∧
    t.pins = s.pins ∧ t.freeIndex = s.freeIndex ∧ t.pending = s.pending := by
  simp only [State.startNext]
  repeat' first | (simp; done) | split

@[simp] theorem State.askStore_frame (s : State) (q : StoreRequest) : let t := s.askStore q
    t.pfe = s.pfe ∧ t.time = s.time ∧ t.gates = s.gates ∧ t.ecu = s.ecu ∧ t.plt = s.plt ∧ t.rsq.run = s.rsq.run ∧ t.rsq.seq = s.rsq.seq ∧
    t.rsq.desc = s.rsq.desc ∧ t.rsq.roster = s.rsq.roster ∧ t.rsq.enrolWindow = s.rsq.enrolWindow ∧ t.rsq.allowance = s.rsq.allowance ∧
    t.rsq.barrier = s.rsq.barrier ∧ t.rsq.enrolSent = s.rsq.enrolSent ∧ t.rsq.phase = s.rsq.phase ∧ t.rsq.settle = s.rsq.settle ∧
    t.rsq.received = s.rsq.received ∧ t.rsq.window = s.rsq.window ∧ t.rsq.figure = s.rsq.figure ∧ t.rsq.tally = s.rsq.tally ∧
    t.rsq.verdict = s.rsq.verdict ∧ t.bli.stage = s.bli.stage ∧ t.bli.quiet = s.bli.quiet ∧ t.bli.stuck = s.bli.stuck ∧
    t.bli.dominantSince = s.bli.dominantSince ∧ t.bli.afterStuck = s.bli.afterStuck ∧ t.bli.low = s.bli.low ∧ t.bli.unseen = s.bli.unseen ∧
    t.bli.buffer = s.bli.buffer ∧ t.bli.coord = s.bli.coord ∧ t.bli.waiting = s.bli.waiting ∧ t.bli.attempt = s.bli.attempt ∧
    t.bli.w = s.bli.w ∧ t.bli.lineErrors = s.bli.lineErrors ∧ t.bli.overruns = s.bli.overruns ∧ t.bli.lost = s.bli.lost ∧
    t.bli.strays = s.bli.strays ∧ t.rrp.queue = s.rrp.queue ∧ t.rrp.tq = s.rrp.tq ∧ t.rrp.td = s.rrp.td ∧ t.rrp.delay = s.rrp.delay ∧
    t.rrp.call = s.rrp.call ∧ t.rrp.drops = s.rrp.drops ∧ t.rrp.mask = s.rrp.mask ∧ t.rrp.lastRefusal = s.rrp.lastRefusal ∧
    t.seu.enable = s.seu.enable ∧ t.seu.block = s.seu.block ∧ t.seu.watermark = s.seu.watermark ∧
    t.seu.strokeTimeout = s.seu.strokeTimeout ∧ t.seu.voids = s.seu.voids ∧ t.seu.press = s.seu.press ∧
    t.seu.strokeTimer = s.seu.strokeTimer ∧ t.seu.seenInactive = s.seu.seenInactive ∧ t.seu.lamps = s.seu.lamps ∧
    t.seu.reject = s.seu.reject ∧ t.seu.rejectTimer = s.seu.rejectTimer ∧ t.seu.aborted = s.seu.aborted ∧ t.rst.slots = s.rst.slots ∧
    t.rst.damaged = s.rst.damaged ∧ t.rst.reserveAsked = s.rst.reserveAsked ∧ t.sys = s.sys ∧ t.pins = s.pins ∧ t.freeIndex = s.freeIndex ∧
    t.pending = s.pending := by
  simp only [State.askStore]
  repeat' first | (simp; done) | split

@[simp] theorem State.eraseSlot_frame (s : State) (n : Nat) : let t := s.eraseSlot n
    t.pfe = s.pfe ∧ t.time = s.time ∧ t.gates = s.gates ∧ t.ecu = s.ecu ∧ t.plt = s.plt ∧ t.rsq = s.rsq ∧ t.bli = s.bli ∧ t.rrp = s.rrp ∧
    t.seu = s.seu ∧ t.rst.lastRecord = s.rst.lastRecord ∧ t.rst.op = s.rst.op ∧ t.rst.opTimer = s.rst.opTimer ∧
    t.rst.waiting = s.rst.waiting ∧ t.rst.reservation = s.rst.reservation ∧ t.rst.reserveAsked = s.rst.reserveAsked ∧ t.sys = s.sys ∧
    t.pins = s.pins ∧ t.freeIndex = s.freeIndex ∧ t.pending = s.pending := by
  simp only [State.eraseSlot]
  repeat' first | (simp; done) | split

/-! ### Seal -/

@[simp] theorem State.handRecord_frame (s : State) : let t := s.handRecord
    t.pfe = s.pfe ∧ t.time = s.time ∧ t.gates = s.gates ∧ t.ecu = s.ecu ∧ t.plt = s.plt ∧ t.rsq.run = s.rsq.run ∧ t.rsq.seq = s.rsq.seq ∧
    t.rsq.desc = s.rsq.desc ∧ t.rsq.roster = s.rsq.roster ∧ t.rsq.enrolWindow = s.rsq.enrolWindow ∧ t.rsq.allowance = s.rsq.allowance ∧
    t.rsq.barrier = s.rsq.barrier ∧ t.rsq.enrolSent = s.rsq.enrolSent ∧ t.rsq.phase = s.rsq.phase ∧ t.rsq.settle = s.rsq.settle ∧
    t.rsq.received = s.rsq.received ∧ t.rsq.window = s.rsq.window ∧ t.rsq.figure = s.rsq.figure ∧ t.rsq.tally = s.rsq.tally ∧
    t.rsq.verdict = s.rsq.verdict ∧ t.bli.stage = s.bli.stage ∧ t.bli.quiet = s.bli.quiet ∧ t.bli.stuck = s.bli.stuck ∧
    t.bli.dominantSince = s.bli.dominantSince ∧ t.bli.afterStuck = s.bli.afterStuck ∧ t.bli.low = s.bli.low ∧ t.bli.unseen = s.bli.unseen ∧
    t.bli.buffer = s.bli.buffer ∧ t.bli.coord = s.bli.coord ∧ t.bli.waiting = s.bli.waiting ∧ t.bli.attempt = s.bli.attempt ∧
    t.bli.w = s.bli.w ∧ t.bli.lineErrors = s.bli.lineErrors ∧ t.bli.overruns = s.bli.overruns ∧ t.bli.lost = s.bli.lost ∧
    t.bli.strays = s.bli.strays ∧ t.rrp.queue = s.rrp.queue ∧ t.rrp.tq = s.rrp.tq ∧ t.rrp.td = s.rrp.td ∧ t.rrp.delay = s.rrp.delay ∧
    t.rrp.call = s.rrp.call ∧ t.rrp.drops = s.rrp.drops ∧ t.rrp.mask = s.rrp.mask ∧ t.rrp.lastRefusal = s.rrp.lastRefusal ∧
    t.seu.enable = s.seu.enable ∧ t.seu.block = s.seu.block ∧ t.seu.watermark = s.seu.watermark ∧
    t.seu.strokeTimeout = s.seu.strokeTimeout ∧ t.seu.voids = s.seu.voids ∧ t.seu.press = s.seu.press ∧
    t.seu.strokeTimer = s.seu.strokeTimer ∧ t.seu.seenInactive = s.seu.seenInactive ∧ t.seu.lamps = s.seu.lamps ∧
    t.seu.reject = s.seu.reject ∧ t.seu.rejectTimer = s.seu.rejectTimer ∧ t.seu.aborted = s.seu.aborted ∧ t.rst.slots = s.rst.slots ∧
    t.rst.damaged = s.rst.damaged ∧ t.rst.reserveAsked = s.rst.reserveAsked ∧ t.sys = s.sys ∧ t.pins = s.pins ∧ t.freeIndex = s.freeIndex ∧
    t.pending = s.pending := by
  simp only [State.handRecord]
  repeat' first | (simp; done) | split

@[simp] theorem State.endSealing_frame (s : State) (o : SealOutcome) : let t := s.endSealing o
    t.pfe = s.pfe ∧ t.time = s.time ∧ t.gates = s.gates ∧ t.ecu = s.ecu ∧ t.plt = s.plt ∧ t.rsq.run = s.rsq.run ∧ t.rsq.seq = s.rsq.seq ∧
    t.rsq.desc = s.rsq.desc ∧ t.rsq.roster = s.rsq.roster ∧ t.rsq.enrolWindow = s.rsq.enrolWindow ∧ t.rsq.allowance = s.rsq.allowance ∧
    t.rsq.barrier = s.rsq.barrier ∧ t.rsq.enrolSent = s.rsq.enrolSent ∧ t.rsq.phase = s.rsq.phase ∧ t.rsq.settle = s.rsq.settle ∧
    t.rsq.received = s.rsq.received ∧ t.rsq.window = s.rsq.window ∧ t.rsq.figure = s.rsq.figure ∧ t.rsq.tally = s.rsq.tally ∧
    t.rsq.verdict = s.rsq.verdict ∧ t.bli.stage = s.bli.stage ∧ t.bli.quiet = s.bli.quiet ∧ t.bli.stuck = s.bli.stuck ∧
    t.bli.dominantSince = s.bli.dominantSince ∧ t.bli.afterStuck = s.bli.afterStuck ∧ t.bli.low = s.bli.low ∧ t.bli.unseen = s.bli.unseen ∧
    t.bli.buffer = s.bli.buffer ∧ t.bli.coord = s.bli.coord ∧ t.bli.waiting = s.bli.waiting ∧ t.bli.attempt = s.bli.attempt ∧
    t.bli.w = s.bli.w ∧ t.bli.lineErrors = s.bli.lineErrors ∧ t.bli.overruns = s.bli.overruns ∧ t.bli.lost = s.bli.lost ∧
    t.bli.strays = s.bli.strays ∧ t.rrp.queue = s.rrp.queue ∧ t.rrp.tq = s.rrp.tq ∧ t.rrp.td = s.rrp.td ∧ t.rrp.delay = s.rrp.delay ∧
    t.rrp.call = s.rrp.call ∧ t.rrp.drops = s.rrp.drops ∧ t.rrp.mask = s.rrp.mask ∧ t.rrp.lastRefusal = s.rrp.lastRefusal ∧
    t.seu.enable = s.seu.enable ∧ t.seu.block = s.seu.block ∧ t.seu.watermark = s.seu.watermark ∧
    t.seu.strokeTimeout = s.seu.strokeTimeout ∧ t.seu.voids = s.seu.voids ∧ t.seu.press = s.seu.press ∧
    t.seu.strokeTimer = s.seu.strokeTimer ∧ t.seu.seenInactive = s.seu.seenInactive ∧ t.seu.lamps = s.seu.lamps ∧
    t.seu.reject = s.seu.reject ∧ t.seu.rejectTimer = s.seu.rejectTimer ∧ t.seu.aborted = s.seu.aborted ∧ t.rst.slots = s.rst.slots ∧
    t.rst.damaged = s.rst.damaged ∧ t.rst.reserveAsked = s.rst.reserveAsked ∧ t.sys = s.sys ∧ t.pins = s.pins ∧ t.freeIndex = s.freeIndex ∧
    t.pending = s.pending := by
  simp only [State.endSealing]
  repeat' first | (simp; done) | split

@[simp] theorem State.offerClaim_frame (s : State) : let t := s.offerClaim
    t.pfe = s.pfe ∧ t.time = s.time ∧ t.gates = s.gates ∧ t.ecu = s.ecu ∧ t.plt = s.plt ∧ t.rsq = s.rsq ∧ t.bli.stage = s.bli.stage ∧
    t.bli.quiet = s.bli.quiet ∧ t.bli.stuck = s.bli.stuck ∧ t.bli.dominantSince = s.bli.dominantSince ∧
    t.bli.afterStuck = s.bli.afterStuck ∧ t.bli.low = s.bli.low ∧ t.bli.unseen = s.bli.unseen ∧ t.bli.buffer = s.bli.buffer ∧
    t.bli.report = s.bli.report ∧ t.bli.attempt = s.bli.attempt ∧ t.bli.w = s.bli.w ∧ t.bli.lineErrors = s.bli.lineErrors ∧
    t.bli.overruns = s.bli.overruns ∧ t.bli.lost = s.bli.lost ∧ t.bli.strays = s.bli.strays ∧ t.rrp = s.rrp ∧ t.seu = s.seu ∧
    t.rst = s.rst ∧ t.sys = s.sys ∧ t.pins = s.pins ∧ t.freeIndex = s.freeIndex ∧ t.pending = s.pending := by
  simp only [State.offerClaim]
  repeat' first | (simp; done) | split

@[simp] theorem State.reserve_frame (s : State) : let t := s.reserve
    t.pfe = s.pfe ∧ t.time = s.time ∧ t.gates = s.gates ∧ t.ecu = s.ecu ∧ t.plt = s.plt ∧ t.rsq.run = s.rsq.run ∧ t.rsq.seq = s.rsq.seq ∧
    t.rsq.desc = s.rsq.desc ∧ t.rsq.roster = s.rsq.roster ∧ t.rsq.enrolWindow = s.rsq.enrolWindow ∧ t.rsq.allowance = s.rsq.allowance ∧
    t.rsq.barrier = s.rsq.barrier ∧ t.rsq.enrolSent = s.rsq.enrolSent ∧ t.rsq.phase = s.rsq.phase ∧ t.rsq.settle = s.rsq.settle ∧
    t.rsq.received = s.rsq.received ∧ t.rsq.window = s.rsq.window ∧ t.rsq.figure = s.rsq.figure ∧ t.rsq.tally = s.rsq.tally ∧
    t.rsq.verdict = s.rsq.verdict ∧ t.bli.stage = s.bli.stage ∧ t.bli.quiet = s.bli.quiet ∧ t.bli.stuck = s.bli.stuck ∧
    t.bli.dominantSince = s.bli.dominantSince ∧ t.bli.afterStuck = s.bli.afterStuck ∧ t.bli.low = s.bli.low ∧ t.bli.unseen = s.bli.unseen ∧
    t.bli.buffer = s.bli.buffer ∧ t.bli.attempt = s.bli.attempt ∧ t.bli.w = s.bli.w ∧ t.bli.lineErrors = s.bli.lineErrors ∧
    t.bli.overruns = s.bli.overruns ∧ t.bli.lost = s.bli.lost ∧ t.bli.strays = s.bli.strays ∧ t.rrp.queue = s.rrp.queue ∧
    t.rrp.tq = s.rrp.tq ∧ t.rrp.td = s.rrp.td ∧ t.rrp.delay = s.rrp.delay ∧ t.rrp.call = s.rrp.call ∧ t.rrp.drops = s.rrp.drops ∧
    t.rrp.mask = s.rrp.mask ∧ t.rrp.lastRefusal = s.rrp.lastRefusal ∧ t.seu.enable = s.seu.enable ∧ t.seu.block = s.seu.block ∧
    t.seu.watermark = s.seu.watermark ∧ t.seu.strokeTimeout = s.seu.strokeTimeout ∧ t.seu.voids = s.seu.voids ∧ t.seu.press = s.seu.press ∧
    t.seu.strokeTimer = s.seu.strokeTimer ∧ t.seu.seenInactive = s.seu.seenInactive ∧ t.seu.lamps = s.seu.lamps ∧
    t.seu.reject = s.seu.reject ∧ t.seu.rejectTimer = s.seu.rejectTimer ∧ t.seu.aborted = s.seu.aborted ∧ t.rst.slots = s.rst.slots ∧
    t.rst.damaged = s.rst.damaged ∧ t.rst.reserveAsked = s.rst.reserveAsked ∧ t.sys = s.sys ∧ t.pins = s.pins ∧ t.freeIndex = s.freeIndex ∧
    t.pending = s.pending := by
  simp only [State.reserve]
  repeat' first | (simp; done) | split

@[simp] theorem State.enterSealing_frame (s : State) : let t := s.enterSealing
    t.pfe = s.pfe ∧ t.time = s.time ∧ t.gates = s.gates ∧ t.ecu = s.ecu ∧ t.plt = s.plt ∧ t.rsq.run = s.rsq.run ∧ t.rsq.seq = s.rsq.seq ∧
    t.rsq.desc = s.rsq.desc ∧ t.rsq.roster = s.rsq.roster ∧ t.rsq.enrolWindow = s.rsq.enrolWindow ∧ t.rsq.allowance = s.rsq.allowance ∧
    t.rsq.barrier = s.rsq.barrier ∧ t.rsq.enrolSent = s.rsq.enrolSent ∧ t.rsq.phase = s.rsq.phase ∧ t.rsq.settle = s.rsq.settle ∧
    t.rsq.received = s.rsq.received ∧ t.rsq.window = s.rsq.window ∧ t.rsq.figure = s.rsq.figure ∧ t.rsq.tally = s.rsq.tally ∧
    t.rsq.verdict = s.rsq.verdict ∧ t.bli.stage = s.bli.stage ∧ t.bli.quiet = s.bli.quiet ∧ t.bli.stuck = s.bli.stuck ∧
    t.bli.dominantSince = s.bli.dominantSince ∧ t.bli.afterStuck = s.bli.afterStuck ∧ t.bli.low = s.bli.low ∧ t.bli.unseen = s.bli.unseen ∧
    t.bli.buffer = s.bli.buffer ∧ t.bli.attempt = s.bli.attempt ∧ t.bli.w = s.bli.w ∧ t.bli.lineErrors = s.bli.lineErrors ∧
    t.bli.overruns = s.bli.overruns ∧ t.bli.lost = s.bli.lost ∧ t.bli.strays = s.bli.strays ∧ t.rrp.queue = s.rrp.queue ∧
    t.rrp.tq = s.rrp.tq ∧ t.rrp.td = s.rrp.td ∧ t.rrp.delay = s.rrp.delay ∧ t.rrp.call = s.rrp.call ∧ t.rrp.drops = s.rrp.drops ∧
    t.rrp.mask = s.rrp.mask ∧ t.rrp.lastRefusal = s.rrp.lastRefusal ∧ t.seu.enable = s.seu.enable ∧ t.seu.block = s.seu.block ∧
    t.seu.watermark = s.seu.watermark ∧ t.seu.strokeTimeout = s.seu.strokeTimeout ∧ t.seu.voids = s.seu.voids ∧ t.seu.press = s.seu.press ∧
    t.seu.strokeTimer = s.seu.strokeTimer ∧ t.seu.seenInactive = s.seu.seenInactive ∧ t.seu.lamps = s.seu.lamps ∧
    t.seu.reject = s.seu.reject ∧ t.seu.rejectTimer = s.seu.rejectTimer ∧ t.seu.aborted = s.seu.aborted ∧ t.rst.slots = s.rst.slots ∧
    t.rst.damaged = s.rst.damaged ∧ t.sys = s.sys ∧ t.pins = s.pins ∧ t.freeIndex = s.freeIndex ∧ t.pending = s.pending := by
  simp only [State.enterSealing]
  repeat' first | (simp; done) | split

@[simp] theorem State.endOp_frame (s : State) : let t := s.endOp
    t.pfe = s.pfe ∧ t.time = s.time ∧ t.gates = s.gates ∧ t.ecu = s.ecu ∧ t.plt = s.plt ∧ t.rsq.run = s.rsq.run ∧ t.rsq.seq = s.rsq.seq ∧
    t.rsq.desc = s.rsq.desc ∧ t.rsq.roster = s.rsq.roster ∧ t.rsq.enrolWindow = s.rsq.enrolWindow ∧ t.rsq.allowance = s.rsq.allowance ∧
    t.rsq.barrier = s.rsq.barrier ∧ t.rsq.enrolSent = s.rsq.enrolSent ∧ t.rsq.phase = s.rsq.phase ∧ t.rsq.settle = s.rsq.settle ∧
    t.rsq.received = s.rsq.received ∧ t.rsq.window = s.rsq.window ∧ t.rsq.figure = s.rsq.figure ∧ t.rsq.tally = s.rsq.tally ∧
    t.rsq.verdict = s.rsq.verdict ∧ t.bli.stage = s.bli.stage ∧ t.bli.quiet = s.bli.quiet ∧ t.bli.stuck = s.bli.stuck ∧
    t.bli.dominantSince = s.bli.dominantSince ∧ t.bli.afterStuck = s.bli.afterStuck ∧ t.bli.low = s.bli.low ∧ t.bli.unseen = s.bli.unseen ∧
    t.bli.buffer = s.bli.buffer ∧ t.bli.attempt = s.bli.attempt ∧ t.bli.w = s.bli.w ∧ t.bli.lineErrors = s.bli.lineErrors ∧
    t.bli.overruns = s.bli.overruns ∧ t.bli.lost = s.bli.lost ∧ t.bli.strays = s.bli.strays ∧ t.rrp.queue = s.rrp.queue ∧
    t.rrp.tq = s.rrp.tq ∧ t.rrp.td = s.rrp.td ∧ t.rrp.delay = s.rrp.delay ∧ t.rrp.call = s.rrp.call ∧ t.rrp.drops = s.rrp.drops ∧
    t.rrp.mask = s.rrp.mask ∧ t.rrp.lastRefusal = s.rrp.lastRefusal ∧ t.seu.enable = s.seu.enable ∧ t.seu.block = s.seu.block ∧
    t.seu.watermark = s.seu.watermark ∧ t.seu.strokeTimeout = s.seu.strokeTimeout ∧ t.seu.voids = s.seu.voids ∧ t.seu.press = s.seu.press ∧
    t.seu.strokeTimer = s.seu.strokeTimer ∧ t.seu.seenInactive = s.seu.seenInactive ∧ t.seu.lamps = s.seu.lamps ∧
    t.seu.reject = s.seu.reject ∧ t.seu.rejectTimer = s.seu.rejectTimer ∧ t.seu.aborted = s.seu.aborted ∧ t.rst.slots = s.rst.slots ∧
    t.rst.damaged = s.rst.damaged ∧ t.sys = s.sys ∧ t.pins = s.pins ∧ t.freeIndex = s.freeIndex ∧ t.pending = s.pending := by
  simp only [State.endOp]
  repeat' first | (simp; done) | split

@[simp] theorem State.strokeFault_frame (s : State) : let t := s.strokeFault
    t.pfe = s.pfe ∧ t.time = s.time ∧ t.gates = s.gates ∧ t.ecu = s.ecu ∧ t.plt = s.plt ∧ t.rsq.run = s.rsq.run ∧ t.rsq.seq = s.rsq.seq ∧
    t.rsq.desc = s.rsq.desc ∧ t.rsq.roster = s.rsq.roster ∧ t.rsq.enrolWindow = s.rsq.enrolWindow ∧ t.rsq.allowance = s.rsq.allowance ∧
    t.rsq.barrier = s.rsq.barrier ∧ t.rsq.enrolSent = s.rsq.enrolSent ∧ t.rsq.phase = s.rsq.phase ∧ t.rsq.settle = s.rsq.settle ∧
    t.rsq.received = s.rsq.received ∧ t.rsq.window = s.rsq.window ∧ t.rsq.figure = s.rsq.figure ∧ t.rsq.tally = s.rsq.tally ∧
    t.rsq.verdict = s.rsq.verdict ∧ t.bli.stage = s.bli.stage ∧ t.bli.quiet = s.bli.quiet ∧ t.bli.stuck = s.bli.stuck ∧
    t.bli.dominantSince = s.bli.dominantSince ∧ t.bli.afterStuck = s.bli.afterStuck ∧ t.bli.low = s.bli.low ∧ t.bli.unseen = s.bli.unseen ∧
    t.bli.buffer = s.bli.buffer ∧ t.bli.coord = s.bli.coord ∧ t.bli.waiting = s.bli.waiting ∧ t.bli.attempt = s.bli.attempt ∧
    t.bli.w = s.bli.w ∧ t.bli.lineErrors = s.bli.lineErrors ∧ t.bli.overruns = s.bli.overruns ∧ t.bli.lost = s.bli.lost ∧
    t.bli.strays = s.bli.strays ∧ t.rrp.queue = s.rrp.queue ∧ t.rrp.tq = s.rrp.tq ∧ t.rrp.td = s.rrp.td ∧ t.rrp.delay = s.rrp.delay ∧
    t.rrp.call = s.rrp.call ∧ t.rrp.drops = s.rrp.drops ∧ t.rrp.mask = s.rrp.mask ∧ t.rrp.lastRefusal = s.rrp.lastRefusal ∧
    t.seu.enable = s.seu.enable ∧ t.seu.block = s.seu.block ∧ t.seu.watermark = s.seu.watermark ∧
    t.seu.strokeTimeout = s.seu.strokeTimeout ∧ t.seu.voids = s.seu.voids ∧ t.seu.seenInactive = s.seu.seenInactive ∧
    t.seu.lamps = s.seu.lamps ∧ t.seu.reject = s.seu.reject ∧ t.seu.rejectTimer = s.seu.rejectTimer ∧ t.seu.aborted = s.seu.aborted ∧
    t.rst.slots = s.rst.slots ∧ t.rst.damaged = s.rst.damaged ∧ t.rst.reserveAsked = s.rst.reserveAsked ∧ t.sys = s.sys ∧ t.pins = s.pins ∧
    t.freeIndex = s.freeIndex ∧ t.pending = s.pending := by
  simp only [State.strokeFault]
  repeat' first | (simp; done) | split

@[simp] theorem State.writeComplete_frame (s : State) : let t := s.writeComplete
    t.pfe = s.pfe ∧ t.time = s.time ∧ t.gates = s.gates ∧ t.ecu = s.ecu ∧ t.plt = s.plt ∧ t.rsq.run = s.rsq.run ∧ t.rsq.seq = s.rsq.seq ∧
    t.rsq.desc = s.rsq.desc ∧ t.rsq.roster = s.rsq.roster ∧ t.rsq.enrolWindow = s.rsq.enrolWindow ∧ t.rsq.allowance = s.rsq.allowance ∧
    t.rsq.barrier = s.rsq.barrier ∧ t.rsq.enrolSent = s.rsq.enrolSent ∧ t.rsq.phase = s.rsq.phase ∧ t.rsq.settle = s.rsq.settle ∧
    t.rsq.received = s.rsq.received ∧ t.rsq.window = s.rsq.window ∧ t.rsq.figure = s.rsq.figure ∧ t.rsq.tally = s.rsq.tally ∧
    t.rsq.verdict = s.rsq.verdict ∧ t.bli.stage = s.bli.stage ∧ t.bli.quiet = s.bli.quiet ∧ t.bli.stuck = s.bli.stuck ∧
    t.bli.dominantSince = s.bli.dominantSince ∧ t.bli.afterStuck = s.bli.afterStuck ∧ t.bli.low = s.bli.low ∧ t.bli.unseen = s.bli.unseen ∧
    t.bli.buffer = s.bli.buffer ∧ t.bli.coord = s.bli.coord ∧ t.bli.waiting = s.bli.waiting ∧ t.bli.attempt = s.bli.attempt ∧
    t.bli.w = s.bli.w ∧ t.bli.lineErrors = s.bli.lineErrors ∧ t.bli.overruns = s.bli.overruns ∧ t.bli.lost = s.bli.lost ∧
    t.bli.strays = s.bli.strays ∧ t.rrp.queue = s.rrp.queue ∧ t.rrp.tq = s.rrp.tq ∧ t.rrp.td = s.rrp.td ∧ t.rrp.delay = s.rrp.delay ∧
    t.rrp.call = s.rrp.call ∧ t.rrp.drops = s.rrp.drops ∧ t.rrp.mask = s.rrp.mask ∧ t.rrp.lastRefusal = s.rrp.lastRefusal ∧
    t.seu.enable = s.seu.enable ∧ t.seu.block = s.seu.block ∧ t.seu.watermark = s.seu.watermark ∧
    t.seu.strokeTimeout = s.seu.strokeTimeout ∧ t.seu.voids = s.seu.voids ∧ t.seu.lamps = s.seu.lamps ∧ t.seu.reject = s.seu.reject ∧
    t.seu.rejectTimer = s.seu.rejectTimer ∧ t.seu.aborted = s.seu.aborted ∧ t.rst.slots = s.rst.slots ∧ t.rst.damaged = s.rst.damaged ∧
    t.rst.reserveAsked = s.rst.reserveAsked ∧ t.sys = s.sys ∧ t.pins = s.pins ∧ t.freeIndex = s.freeIndex ∧ t.pending = s.pending := by
  simp only [State.writeComplete]
  repeat' first | (simp; done) | split

@[simp] theorem State.abortSeal_frame (s : State) (run : Half) : let t := s.abortSeal run
    t.pfe = s.pfe ∧ t.time = s.time ∧ t.gates = s.gates ∧ t.ecu = s.ecu ∧ t.plt = s.plt ∧ t.rsq.run = s.rsq.run ∧ t.rsq.seq = s.rsq.seq ∧
    t.rsq.desc = s.rsq.desc ∧ t.rsq.roster = s.rsq.roster ∧ t.rsq.enrolWindow = s.rsq.enrolWindow ∧ t.rsq.allowance = s.rsq.allowance ∧
    t.rsq.barrier = s.rsq.barrier ∧ t.rsq.enrolSent = s.rsq.enrolSent ∧ t.rsq.phase = s.rsq.phase ∧ t.rsq.settle = s.rsq.settle ∧
    t.rsq.received = s.rsq.received ∧ t.rsq.window = s.rsq.window ∧ t.rsq.figure = s.rsq.figure ∧ t.rsq.tally = s.rsq.tally ∧
    t.rsq.verdict = s.rsq.verdict ∧ t.bli.stage = s.bli.stage ∧ t.bli.quiet = s.bli.quiet ∧ t.bli.stuck = s.bli.stuck ∧
    t.bli.dominantSince = s.bli.dominantSince ∧ t.bli.afterStuck = s.bli.afterStuck ∧ t.bli.low = s.bli.low ∧ t.bli.unseen = s.bli.unseen ∧
    t.bli.buffer = s.bli.buffer ∧ t.bli.w = s.bli.w ∧ t.bli.lineErrors = s.bli.lineErrors ∧ t.bli.overruns = s.bli.overruns ∧
    t.bli.lost = s.bli.lost ∧ t.bli.strays = s.bli.strays ∧ t.rrp.queue = s.rrp.queue ∧ t.rrp.tq = s.rrp.tq ∧ t.rrp.td = s.rrp.td ∧
    t.rrp.delay = s.rrp.delay ∧ t.rrp.call = s.rrp.call ∧ t.rrp.drops = s.rrp.drops ∧ t.rrp.mask = s.rrp.mask ∧
    t.rrp.lastRefusal = s.rrp.lastRefusal ∧ t.seu.enable = s.seu.enable ∧ t.seu.block = s.seu.block ∧ t.seu.watermark = s.seu.watermark ∧
    t.seu.strokeTimeout = s.seu.strokeTimeout ∧ t.seu.voids = s.seu.voids ∧ t.seu.press = s.seu.press ∧
    t.seu.strokeTimer = s.seu.strokeTimer ∧ t.seu.seenInactive = s.seu.seenInactive ∧ t.seu.lamps = s.seu.lamps ∧
    t.seu.reject = s.seu.reject ∧ t.seu.rejectTimer = s.seu.rejectTimer ∧ t.seu.aborted = s.seu.aborted ∧ t.rst.slots = s.rst.slots ∧
    t.rst.damaged = s.rst.damaged ∧ t.sys = s.sys ∧ t.pins = s.pins ∧ t.freeIndex = s.freeIndex ∧ t.pending = s.pending := by
  simp only [State.abortSeal]
  repeat' first | (simp; done) | split

/-! ### Gates -/

@[simp] theorem State.mapEngine_frame (s : State) (ch : Channel) (f : GateEngine → GateEngine) : let t := s.mapEngine ch f
    t.pfe = s.pfe ∧ t.time = s.time ∧ t.ecu = s.ecu ∧ t.plt = s.plt ∧ t.rsq = s.rsq ∧ t.bli = s.bli ∧ t.rrp = s.rrp ∧ t.seu = s.seu ∧
    t.rst = s.rst ∧ t.sys = s.sys ∧ t.pins = s.pins ∧ t.freeIndex = s.freeIndex ∧ t.pending = s.pending := by
  simp only [State.mapEngine]
  repeat' first | (simp; done) | split

@[simp] theorem State.mapDwell_frame (s : State) (ch : Channel) (f : Dwell → Dwell) : let t := s.mapDwell ch f
    t.pfe = s.pfe ∧ t.time = s.time ∧ t.gates = s.gates ∧ t.ecu.copy = s.ecu.copy ∧ t.ecu.acc = s.ecu.acc ∧
    t.ecu.outcomes = s.ecu.outcomes ∧ t.plt = s.plt ∧ t.rsq = s.rsq ∧ t.bli = s.bli ∧ t.rrp = s.rrp ∧ t.seu = s.seu ∧ t.rst = s.rst ∧
    t.sys = s.sys ∧ t.pins = s.pins ∧ t.freeIndex = s.freeIndex ∧ t.pending = s.pending := by
  simp only [State.mapDwell]
  repeat' first | (simp; done) | split

@[simp] theorem State.mapMeter_frame (s : State) (ch : Channel) (f : MeterInput → MeterInput) : let t := s.mapMeter ch f
    t.pfe.rf0 = s.pfe.rf0 ∧ t.pfe.rf1 = s.pfe.rf1 ∧ t.pfe.zc = s.pfe.zc ∧ t.time = s.time ∧ t.gates = s.gates ∧ t.ecu = s.ecu ∧
    t.plt = s.plt ∧ t.rsq = s.rsq ∧ t.bli = s.bli ∧ t.rrp = s.rrp ∧ t.seu = s.seu ∧ t.rst = s.rst ∧ t.sys = s.sys ∧ t.pins = s.pins ∧
    t.freeIndex = s.freeIndex ∧ t.pending = s.pending := by
  simp only [State.mapMeter]
  repeat' first | (simp; done) | split

@[simp] theorem State.dropPulses_frame (s : State) : let t := s.dropPulses
    t.pfe.settings = s.pfe.settings ∧ t.pfe.rf0 = s.pfe.rf0 ∧ t.pfe.rf1 = s.pfe.rf1 ∧ t.pfe.zc = s.pfe.zc ∧ t.time = s.time ∧
    t.gates = s.gates ∧ t.ecu = s.ecu ∧ t.plt = s.plt ∧ t.rsq = s.rsq ∧ t.bli = s.bli ∧ t.rrp = s.rrp ∧ t.seu = s.seu ∧ t.rst = s.rst ∧
    t.sys = s.sys ∧ t.pins = s.pins ∧ t.freeIndex = s.freeIndex ∧ t.pending = s.pending := by
  simp only [State.dropPulses]
  repeat' first | (simp; done) | (simp [MeterInput.settings]; done) | (simp [Pfe.settings]; done) | split

@[simp] theorem State.endPoint_frame (s : State) : let t := s.endPoint
    t.pfe.settings = s.pfe.settings ∧ t.pfe.rf0 = s.pfe.rf0 ∧ t.pfe.rf1 = s.pfe.rf1 ∧ t.pfe.zc = s.pfe.zc ∧ t.time = s.time ∧
    t.ecu.copy = s.ecu.copy ∧ t.ecu.acc = s.ecu.acc ∧ t.ecu.outcomes = s.ecu.outcomes ∧ t.plt = s.plt ∧ t.rsq.run = s.rsq.run ∧
    t.rsq.seq = s.rsq.seq ∧ t.rsq.desc = s.rsq.desc ∧ t.rsq.roster = s.rsq.roster ∧ t.rsq.enrolWindow = s.rsq.enrolWindow ∧
    t.rsq.allowance = s.rsq.allowance ∧ t.rsq.barrier = s.rsq.barrier ∧ t.rsq.enrolSent = s.rsq.enrolSent ∧ t.rsq.settle = s.rsq.settle ∧
    t.rsq.received = s.rsq.received ∧ t.rsq.window = s.rsq.window ∧ t.rsq.figure = s.rsq.figure ∧ t.rsq.tally = s.rsq.tally ∧
    t.rsq.verdict = s.rsq.verdict ∧ t.bli.stage = s.bli.stage ∧ t.bli.quiet = s.bli.quiet ∧ t.bli.stuck = s.bli.stuck ∧
    t.bli.dominantSince = s.bli.dominantSince ∧ t.bli.afterStuck = s.bli.afterStuck ∧ t.bli.low = s.bli.low ∧ t.bli.unseen = s.bli.unseen ∧
    t.bli.buffer = s.bli.buffer ∧ t.bli.report = s.bli.report ∧ t.bli.attempt = s.bli.attempt ∧ t.bli.w = s.bli.w ∧
    t.bli.lineErrors = s.bli.lineErrors ∧ t.bli.overruns = s.bli.overruns ∧ t.bli.lost = s.bli.lost ∧ t.bli.strays = s.bli.strays ∧
    t.rrp = s.rrp ∧ t.seu = s.seu ∧ t.rst = s.rst ∧ t.sys = s.sys ∧ t.pins = s.pins ∧ t.freeIndex = s.freeIndex ∧ t.pending = s.pending := by
  simp only [State.endPoint]
  repeat' first | (simp; done) | (simp [MeterInput.settings]; done) | (simp [Pfe.settings]; done) | split

@[simp] theorem State.testPoint_frame (s : State) : let t := s.testPoint
    t.pfe.settings = s.pfe.settings ∧ t.pfe.rf0 = s.pfe.rf0 ∧ t.pfe.rf1 = s.pfe.rf1 ∧ t.pfe.zc = s.pfe.zc ∧ t.time = s.time ∧
    t.ecu.copy = s.ecu.copy ∧ t.ecu.acc = s.ecu.acc ∧ t.ecu.outcomes = s.ecu.outcomes ∧ t.plt = s.plt ∧ t.rsq.run = s.rsq.run ∧
    t.rsq.seq = s.rsq.seq ∧ t.rsq.desc = s.rsq.desc ∧ t.rsq.roster = s.rsq.roster ∧ t.rsq.enrolWindow = s.rsq.enrolWindow ∧
    t.rsq.allowance = s.rsq.allowance ∧ t.rsq.barrier = s.rsq.barrier ∧ t.rsq.enrolSent = s.rsq.enrolSent ∧ t.rsq.settle = s.rsq.settle ∧
    t.rsq.received = s.rsq.received ∧ t.rsq.window = s.rsq.window ∧ t.rsq.figure = s.rsq.figure ∧ t.rsq.tally = s.rsq.tally ∧
    t.rsq.verdict = s.rsq.verdict ∧ t.bli.stage = s.bli.stage ∧ t.bli.quiet = s.bli.quiet ∧ t.bli.stuck = s.bli.stuck ∧
    t.bli.dominantSince = s.bli.dominantSince ∧ t.bli.afterStuck = s.bli.afterStuck ∧ t.bli.low = s.bli.low ∧ t.bli.unseen = s.bli.unseen ∧
    t.bli.buffer = s.bli.buffer ∧ t.bli.report = s.bli.report ∧ t.bli.attempt = s.bli.attempt ∧ t.bli.w = s.bli.w ∧
    t.bli.lineErrors = s.bli.lineErrors ∧ t.bli.overruns = s.bli.overruns ∧ t.bli.lost = s.bli.lost ∧ t.bli.strays = s.bli.strays ∧
    t.rrp = s.rrp ∧ t.seu = s.seu ∧ t.rst = s.rst ∧ t.sys = s.sys ∧ t.pins = s.pins ∧ t.freeIndex = s.freeIndex ∧ t.pending = s.pending := by
  simp only [State.testPoint]
  repeat' first | (simp; done) | (simp [MeterInput.settings]; done) | (simp [Pfe.settings]; done) | split

@[simp] theorem State.leavePoint_frame (s : State) : let t := s.leavePoint
    t.pfe.settings = s.pfe.settings ∧ t.pfe.rf0 = s.pfe.rf0 ∧ t.pfe.rf1 = s.pfe.rf1 ∧ t.pfe.zc = s.pfe.zc ∧ t.time = s.time ∧
    t.ecu.copy = s.ecu.copy ∧ t.ecu.acc = s.ecu.acc ∧ t.ecu.outcomes = s.ecu.outcomes ∧ t.plt = s.plt ∧ t.rsq.runState = s.rsq.runState ∧
    t.rsq.run = s.rsq.run ∧ t.rsq.seq = s.rsq.seq ∧ t.rsq.desc = s.rsq.desc ∧ t.rsq.roster = s.rsq.roster ∧
    t.rsq.enrolWindow = s.rsq.enrolWindow ∧ t.rsq.allowance = s.rsq.allowance ∧ t.rsq.barrier = s.rsq.barrier ∧
    t.rsq.enrolSent = s.rsq.enrolSent ∧ t.rsq.settle = s.rsq.settle ∧ t.rsq.received = s.rsq.received ∧ t.rsq.figure = s.rsq.figure ∧
    t.rsq.tally = s.rsq.tally ∧ t.rsq.verdict = s.rsq.verdict ∧ t.bli = s.bli ∧ t.rrp = s.rrp ∧ t.seu = s.seu ∧ t.rst = s.rst ∧
    t.sys = s.sys ∧ t.pins = s.pins ∧ t.freeIndex = s.freeIndex ∧ t.pending = s.pending := by
  simp only [State.leavePoint]
  repeat' first | (simp; done) | (simp [MeterInput.settings]; done) | (simp [Pfe.settings]; done) | split

@[simp] theorem State.giveRecord_frame (s : State) (ch : Channel) (r : OutcomeRecord) : let t := s.giveRecord ch r
    t.pfe.settings = s.pfe.settings ∧ t.pfe.rf0 = s.pfe.rf0 ∧ t.pfe.rf1 = s.pfe.rf1 ∧ t.pfe.zc = s.pfe.zc ∧ t.time = s.time ∧
    t.ecu.copy = s.ecu.copy ∧ t.ecu.acc = s.ecu.acc ∧ t.plt = s.plt ∧ t.rsq.run = s.rsq.run ∧ t.rsq.seq = s.rsq.seq ∧
    t.rsq.desc = s.rsq.desc ∧ t.rsq.roster = s.rsq.roster ∧ t.rsq.enrolWindow = s.rsq.enrolWindow ∧ t.rsq.allowance = s.rsq.allowance ∧
    t.rsq.barrier = s.rsq.barrier ∧ t.rsq.enrolSent = s.rsq.enrolSent ∧ t.rsq.settle = s.rsq.settle ∧ t.rsq.window = s.rsq.window ∧
    t.rsq.figure = s.rsq.figure ∧ t.rsq.tally = s.rsq.tally ∧ t.rsq.verdict = s.rsq.verdict ∧ t.bli.stage = s.bli.stage ∧
    t.bli.quiet = s.bli.quiet ∧ t.bli.stuck = s.bli.stuck ∧ t.bli.dominantSince = s.bli.dominantSince ∧
    t.bli.afterStuck = s.bli.afterStuck ∧ t.bli.low = s.bli.low ∧ t.bli.unseen = s.bli.unseen ∧ t.bli.buffer = s.bli.buffer ∧
    t.bli.report = s.bli.report ∧ t.bli.attempt = s.bli.attempt ∧ t.bli.w = s.bli.w ∧ t.bli.lineErrors = s.bli.lineErrors ∧
    t.bli.overruns = s.bli.overruns ∧ t.bli.lost = s.bli.lost ∧ t.bli.strays = s.bli.strays ∧ t.rrp = s.rrp ∧ t.seu = s.seu ∧
    t.rst = s.rst ∧ t.sys = s.sys ∧ t.pins = s.pins ∧ t.freeIndex = s.freeIndex ∧ t.pending = s.pending := by
  simp only [State.giveRecord]
  repeat' first | (simp; done) | (simp [MeterInput.settings]; done) | (simp [Pfe.settings]; done) | split

@[simp] theorem State.endGates_frame (s : State) (ch : Channel) (e : Ending) : let t := s.endGates ch e
    t.pfe.settings = s.pfe.settings ∧ t.pfe.rf0 = s.pfe.rf0 ∧ t.pfe.rf1 = s.pfe.rf1 ∧ t.pfe.zc = s.pfe.zc ∧ t.time = s.time ∧
    t.ecu.copy = s.ecu.copy ∧ t.ecu.acc = s.ecu.acc ∧ t.plt = s.plt ∧ t.rsq.run = s.rsq.run ∧ t.rsq.seq = s.rsq.seq ∧
    t.rsq.desc = s.rsq.desc ∧ t.rsq.roster = s.rsq.roster ∧ t.rsq.enrolWindow = s.rsq.enrolWindow ∧ t.rsq.allowance = s.rsq.allowance ∧
    t.rsq.barrier = s.rsq.barrier ∧ t.rsq.enrolSent = s.rsq.enrolSent ∧ t.rsq.settle = s.rsq.settle ∧ t.rsq.window = s.rsq.window ∧
    t.rsq.figure = s.rsq.figure ∧ t.rsq.tally = s.rsq.tally ∧ t.rsq.verdict = s.rsq.verdict ∧ t.bli.stage = s.bli.stage ∧
    t.bli.quiet = s.bli.quiet ∧ t.bli.stuck = s.bli.stuck ∧ t.bli.dominantSince = s.bli.dominantSince ∧
    t.bli.afterStuck = s.bli.afterStuck ∧ t.bli.low = s.bli.low ∧ t.bli.unseen = s.bli.unseen ∧ t.bli.buffer = s.bli.buffer ∧
    t.bli.report = s.bli.report ∧ t.bli.attempt = s.bli.attempt ∧ t.bli.w = s.bli.w ∧ t.bli.lineErrors = s.bli.lineErrors ∧
    t.bli.overruns = s.bli.overruns ∧ t.bli.lost = s.bli.lost ∧ t.bli.strays = s.bli.strays ∧ t.rrp = s.rrp ∧ t.seu = s.seu ∧
    t.rst = s.rst ∧ t.sys = s.sys ∧ t.pins = s.pins ∧ t.freeIndex = s.freeIndex ∧ t.pending = s.pending := by
  simp only [State.endGates]
  repeat' first | (simp; done) | (simp [MeterInput.settings]; done) | (simp [Pfe.settings]; done) | split

@[simp] theorem State.endDwell_frame (s : State) (ch : Channel) (o : ChanOutcome) : let t := s.endDwell ch o
    t.pfe.settings = s.pfe.settings ∧ t.pfe.rf0 = s.pfe.rf0 ∧ t.pfe.rf1 = s.pfe.rf1 ∧ t.pfe.zc = s.pfe.zc ∧ t.time = s.time ∧
    t.ecu.copy = s.ecu.copy ∧ t.ecu.acc = s.ecu.acc ∧ t.plt = s.plt ∧ t.rsq.run = s.rsq.run ∧ t.rsq.seq = s.rsq.seq ∧
    t.rsq.desc = s.rsq.desc ∧ t.rsq.roster = s.rsq.roster ∧ t.rsq.enrolWindow = s.rsq.enrolWindow ∧ t.rsq.allowance = s.rsq.allowance ∧
    t.rsq.barrier = s.rsq.barrier ∧ t.rsq.enrolSent = s.rsq.enrolSent ∧ t.rsq.settle = s.rsq.settle ∧ t.rsq.window = s.rsq.window ∧
    t.rsq.figure = s.rsq.figure ∧ t.rsq.tally = s.rsq.tally ∧ t.rsq.verdict = s.rsq.verdict ∧ t.bli.stage = s.bli.stage ∧
    t.bli.quiet = s.bli.quiet ∧ t.bli.stuck = s.bli.stuck ∧ t.bli.dominantSince = s.bli.dominantSince ∧
    t.bli.afterStuck = s.bli.afterStuck ∧ t.bli.low = s.bli.low ∧ t.bli.unseen = s.bli.unseen ∧ t.bli.buffer = s.bli.buffer ∧
    t.bli.report = s.bli.report ∧ t.bli.attempt = s.bli.attempt ∧ t.bli.w = s.bli.w ∧ t.bli.lineErrors = s.bli.lineErrors ∧
    t.bli.overruns = s.bli.overruns ∧ t.bli.lost = s.bli.lost ∧ t.bli.strays = s.bli.strays ∧ t.rrp = s.rrp ∧ t.seu = s.seu ∧
    t.rst = s.rst ∧ t.sys = s.sys ∧ t.pins = s.pins ∧ t.freeIndex = s.freeIndex ∧ t.pending = s.pending := by
  simp only [State.endDwell]
  repeat' first | (simp; done) | (simp [MeterInput.settings]; done) | (simp [Pfe.settings]; done) | split

@[simp] theorem State.takeSample_frame (s : State) (x : GateSample) : let t := s.takeSample x
    t.pfe = s.pfe ∧ t.time = s.time ∧ t.gates = s.gates ∧ t.ecu.copy = s.ecu.copy ∧ t.ecu.outcomes = s.ecu.outcomes ∧
    t.ecu.dwell = s.ecu.dwell ∧ t.plt = s.plt ∧ t.rsq = s.rsq ∧ t.bli.stage = s.bli.stage ∧ t.bli.quiet = s.bli.quiet ∧
    t.bli.stuck = s.bli.stuck ∧ t.bli.dominantSince = s.bli.dominantSince ∧ t.bli.afterStuck = s.bli.afterStuck ∧ t.bli.low = s.bli.low ∧
    t.bli.unseen = s.bli.unseen ∧ t.bli.buffer = s.bli.buffer ∧ t.bli.coord = s.bli.coord ∧ t.bli.waiting = s.bli.waiting ∧
    t.bli.attempt = s.bli.attempt ∧ t.bli.w = s.bli.w ∧ t.bli.lineErrors = s.bli.lineErrors ∧ t.bli.overruns = s.bli.overruns ∧
    t.bli.lost = s.bli.lost ∧ t.bli.strays = s.bli.strays ∧ t.rrp.tq = s.rrp.tq ∧ t.rrp.td = s.rrp.td ∧ t.rrp.mask = s.rrp.mask ∧
    t.rrp.lastRefusal = s.rrp.lastRefusal ∧ t.seu = s.seu ∧ t.rst = s.rst ∧ t.sys = s.sys ∧ t.pins = s.pins ∧ t.freeIndex = s.freeIndex ∧
    t.pending = s.pending := by
  simp only [State.takeSample]
  repeat' first | (simp; done) | split

@[simp] theorem State.openGate_frame (s : State) (ch : Channel) (n : Nat) (p : Pulse) : let t := s.openGate ch n p
    t.pfe.settings = s.pfe.settings ∧ t.pfe.rf0 = s.pfe.rf0 ∧ t.pfe.rf1 = s.pfe.rf1 ∧ t.pfe.zc = s.pfe.zc ∧ t.time = s.time ∧
    t.ecu = s.ecu ∧ t.plt = s.plt ∧ t.rsq = s.rsq ∧ t.bli = s.bli ∧ t.rrp = s.rrp ∧ t.seu = s.seu ∧ t.rst = s.rst ∧ t.sys = s.sys ∧
    t.pins = s.pins ∧ t.freeIndex = s.freeIndex ∧ t.pending = s.pending := by
  simp only [State.openGate]
  repeat' first | (simp; done) | (simp [MeterInput.settings]; done) | (simp [Pfe.settings]; done) | split

@[simp] theorem State.closeGate_frame (s : State) (ch : Channel) (p : Pulse) : let t := s.closeGate ch p
    t.pfe.settings = s.pfe.settings ∧ t.pfe.rf0 = s.pfe.rf0 ∧ t.pfe.rf1 = s.pfe.rf1 ∧ t.pfe.zc = s.pfe.zc ∧ t.time = s.time ∧
    t.ecu.copy = s.ecu.copy ∧ t.plt = s.plt ∧ t.rsq.run = s.rsq.run ∧ t.rsq.seq = s.rsq.seq ∧ t.rsq.desc = s.rsq.desc ∧
    t.rsq.roster = s.rsq.roster ∧ t.rsq.enrolWindow = s.rsq.enrolWindow ∧ t.rsq.allowance = s.rsq.allowance ∧
    t.rsq.barrier = s.rsq.barrier ∧ t.rsq.enrolSent = s.rsq.enrolSent ∧ t.rsq.settle = s.rsq.settle ∧ t.rsq.window = s.rsq.window ∧
    t.rsq.figure = s.rsq.figure ∧ t.rsq.tally = s.rsq.tally ∧ t.rsq.verdict = s.rsq.verdict ∧ t.bli.stage = s.bli.stage ∧
    t.bli.quiet = s.bli.quiet ∧ t.bli.stuck = s.bli.stuck ∧ t.bli.dominantSince = s.bli.dominantSince ∧
    t.bli.afterStuck = s.bli.afterStuck ∧ t.bli.low = s.bli.low ∧ t.bli.unseen = s.bli.unseen ∧ t.bli.buffer = s.bli.buffer ∧
    t.bli.attempt = s.bli.attempt ∧ t.bli.w = s.bli.w ∧ t.bli.lineErrors = s.bli.lineErrors ∧ t.bli.overruns = s.bli.overruns ∧
    t.bli.lost = s.bli.lost ∧ t.bli.strays = s.bli.strays ∧ t.rrp.tq = s.rrp.tq ∧ t.rrp.td = s.rrp.td ∧ t.rrp.mask = s.rrp.mask ∧
    t.rrp.lastRefusal = s.rrp.lastRefusal ∧ t.seu = s.seu ∧ t.rst = s.rst ∧ t.sys = s.sys ∧ t.pins = s.pins ∧ t.freeIndex = s.freeIndex ∧
    t.pending = s.pending := by
  simp only [State.closeGate]
  repeat' first | (simp; done) | (simp [MeterInput.settings]; done) | (simp [Pfe.settings]; done) | split

@[simp] theorem State.gateEdge_frame (s : State) (ch : Channel) (p : Pulse) (double : Bool) : let t := s.gateEdge ch p double
    t.pfe.settings = s.pfe.settings ∧ t.pfe.rf0 = s.pfe.rf0 ∧ t.pfe.rf1 = s.pfe.rf1 ∧ t.pfe.zc = s.pfe.zc ∧ t.time = s.time ∧
    t.ecu.copy = s.ecu.copy ∧ t.plt = s.plt ∧ t.rsq.run = s.rsq.run ∧ t.rsq.seq = s.rsq.seq ∧ t.rsq.desc = s.rsq.desc ∧
    t.rsq.roster = s.rsq.roster ∧ t.rsq.enrolWindow = s.rsq.enrolWindow ∧ t.rsq.allowance = s.rsq.allowance ∧
    t.rsq.barrier = s.rsq.barrier ∧ t.rsq.enrolSent = s.rsq.enrolSent ∧ t.rsq.settle = s.rsq.settle ∧ t.rsq.window = s.rsq.window ∧
    t.rsq.figure = s.rsq.figure ∧ t.rsq.tally = s.rsq.tally ∧ t.rsq.verdict = s.rsq.verdict ∧ t.bli.stage = s.bli.stage ∧
    t.bli.quiet = s.bli.quiet ∧ t.bli.stuck = s.bli.stuck ∧ t.bli.dominantSince = s.bli.dominantSince ∧
    t.bli.afterStuck = s.bli.afterStuck ∧ t.bli.low = s.bli.low ∧ t.bli.unseen = s.bli.unseen ∧ t.bli.buffer = s.bli.buffer ∧
    t.bli.attempt = s.bli.attempt ∧ t.bli.w = s.bli.w ∧ t.bli.lineErrors = s.bli.lineErrors ∧ t.bli.overruns = s.bli.overruns ∧
    t.bli.lost = s.bli.lost ∧ t.bli.strays = s.bli.strays ∧ t.rrp.tq = s.rrp.tq ∧ t.rrp.td = s.rrp.td ∧ t.rrp.mask = s.rrp.mask ∧
    t.rrp.lastRefusal = s.rrp.lastRefusal ∧ t.seu = s.seu ∧ t.rst = s.rst ∧ t.sys = s.sys ∧ t.pins = s.pins ∧ t.freeIndex = s.freeIndex ∧
    t.pending = s.pending := by
  simp only [State.gateEdge]
  repeat' first | (simp; done) | (simp [MeterInput.settings]; done) | (simp [Pfe.settings]; done) | split

@[simp] theorem State.gateCycle_frame (s : State) (ch : Channel) : let t := s.gateCycle ch
    t.pfe.settings = s.pfe.settings ∧ t.pfe.rf0 = s.pfe.rf0 ∧ t.pfe.rf1 = s.pfe.rf1 ∧ t.pfe.zc = s.pfe.zc ∧ t.time = s.time ∧
    t.ecu.copy = s.ecu.copy ∧ t.ecu.acc = s.ecu.acc ∧ t.plt = s.plt ∧ t.rsq.run = s.rsq.run ∧ t.rsq.seq = s.rsq.seq ∧
    t.rsq.desc = s.rsq.desc ∧ t.rsq.roster = s.rsq.roster ∧ t.rsq.enrolWindow = s.rsq.enrolWindow ∧ t.rsq.allowance = s.rsq.allowance ∧
    t.rsq.barrier = s.rsq.barrier ∧ t.rsq.enrolSent = s.rsq.enrolSent ∧ t.rsq.settle = s.rsq.settle ∧ t.rsq.window = s.rsq.window ∧
    t.rsq.figure = s.rsq.figure ∧ t.rsq.tally = s.rsq.tally ∧ t.rsq.verdict = s.rsq.verdict ∧ t.bli.stage = s.bli.stage ∧
    t.bli.quiet = s.bli.quiet ∧ t.bli.stuck = s.bli.stuck ∧ t.bli.dominantSince = s.bli.dominantSince ∧
    t.bli.afterStuck = s.bli.afterStuck ∧ t.bli.low = s.bli.low ∧ t.bli.unseen = s.bli.unseen ∧ t.bli.buffer = s.bli.buffer ∧
    t.bli.report = s.bli.report ∧ t.bli.attempt = s.bli.attempt ∧ t.bli.w = s.bli.w ∧ t.bli.lineErrors = s.bli.lineErrors ∧
    t.bli.overruns = s.bli.overruns ∧ t.bli.lost = s.bli.lost ∧ t.bli.strays = s.bli.strays ∧ t.rrp = s.rrp ∧ t.seu = s.seu ∧
    t.rst = s.rst ∧ t.sys = s.sys ∧ t.pins = s.pins ∧ t.freeIndex = s.freeIndex ∧ t.pending = s.pending := by
  simp only [State.gateCycle]
  repeat' first | (simp; done) | (simp [MeterInput.settings]; done) | (simp [Pfe.settings]; done) | split

@[simp] theorem State.dwellEdge_frame (s : State) (ch : Channel) (double : Bool) : let t := s.dwellEdge ch double
    t.pfe.settings = s.pfe.settings ∧ t.pfe.rf0 = s.pfe.rf0 ∧ t.pfe.rf1 = s.pfe.rf1 ∧ t.pfe.zc = s.pfe.zc ∧ t.time = s.time ∧
    t.ecu.copy = s.ecu.copy ∧ t.ecu.acc = s.ecu.acc ∧ t.plt = s.plt ∧ t.rsq.run = s.rsq.run ∧ t.rsq.seq = s.rsq.seq ∧
    t.rsq.desc = s.rsq.desc ∧ t.rsq.roster = s.rsq.roster ∧ t.rsq.enrolWindow = s.rsq.enrolWindow ∧ t.rsq.allowance = s.rsq.allowance ∧
    t.rsq.barrier = s.rsq.barrier ∧ t.rsq.enrolSent = s.rsq.enrolSent ∧ t.rsq.settle = s.rsq.settle ∧ t.rsq.window = s.rsq.window ∧
    t.rsq.figure = s.rsq.figure ∧ t.rsq.tally = s.rsq.tally ∧ t.rsq.verdict = s.rsq.verdict ∧ t.bli.stage = s.bli.stage ∧
    t.bli.quiet = s.bli.quiet ∧ t.bli.stuck = s.bli.stuck ∧ t.bli.dominantSince = s.bli.dominantSince ∧
    t.bli.afterStuck = s.bli.afterStuck ∧ t.bli.low = s.bli.low ∧ t.bli.unseen = s.bli.unseen ∧ t.bli.buffer = s.bli.buffer ∧
    t.bli.report = s.bli.report ∧ t.bli.attempt = s.bli.attempt ∧ t.bli.w = s.bli.w ∧ t.bli.lineErrors = s.bli.lineErrors ∧
    t.bli.overruns = s.bli.overruns ∧ t.bli.lost = s.bli.lost ∧ t.bli.strays = s.bli.strays ∧ t.rrp = s.rrp ∧ t.seu = s.seu ∧
    t.rst = s.rst ∧ t.sys = s.sys ∧ t.pins = s.pins ∧ t.freeIndex = s.freeIndex ∧ t.pending = s.pending := by
  simp only [State.dwellEdge]
  repeat' first | (simp; done) | (simp [MeterInput.settings]; done) | (simp [Pfe.settings]; done) | split

@[simp] theorem State.dwellCycle_frame (s : State) (ch : Channel) : let t := s.dwellCycle ch
    t.pfe.settings = s.pfe.settings ∧ t.pfe.rf0 = s.pfe.rf0 ∧ t.pfe.rf1 = s.pfe.rf1 ∧ t.pfe.zc = s.pfe.zc ∧ t.time = s.time ∧
    t.ecu.copy = s.ecu.copy ∧ t.ecu.acc = s.ecu.acc ∧ t.plt = s.plt ∧ t.rsq.run = s.rsq.run ∧ t.rsq.seq = s.rsq.seq ∧
    t.rsq.desc = s.rsq.desc ∧ t.rsq.roster = s.rsq.roster ∧ t.rsq.enrolWindow = s.rsq.enrolWindow ∧ t.rsq.allowance = s.rsq.allowance ∧
    t.rsq.barrier = s.rsq.barrier ∧ t.rsq.enrolSent = s.rsq.enrolSent ∧ t.rsq.settle = s.rsq.settle ∧ t.rsq.window = s.rsq.window ∧
    t.rsq.figure = s.rsq.figure ∧ t.rsq.tally = s.rsq.tally ∧ t.rsq.verdict = s.rsq.verdict ∧ t.bli.stage = s.bli.stage ∧
    t.bli.quiet = s.bli.quiet ∧ t.bli.stuck = s.bli.stuck ∧ t.bli.dominantSince = s.bli.dominantSince ∧
    t.bli.afterStuck = s.bli.afterStuck ∧ t.bli.low = s.bli.low ∧ t.bli.unseen = s.bli.unseen ∧ t.bli.buffer = s.bli.buffer ∧
    t.bli.report = s.bli.report ∧ t.bli.attempt = s.bli.attempt ∧ t.bli.w = s.bli.w ∧ t.bli.lineErrors = s.bli.lineErrors ∧
    t.bli.overruns = s.bli.overruns ∧ t.bli.lost = s.bli.lost ∧ t.bli.strays = s.bli.strays ∧ t.rrp = s.rrp ∧ t.seu = s.seu ∧
    t.rst = s.rst ∧ t.sys = s.sys ∧ t.pins = s.pins ∧ t.freeIndex = s.freeIndex ∧ t.pending = s.pending := by
  simp only [State.dwellCycle]
  repeat' first | (simp; done) | (simp [MeterInput.settings]; done) | (simp [Pfe.settings]; done) | split

@[simp] theorem State.deliverEdge_frame (s : State) (ch : Channel) (p : Pulse) (double : Bool) : let t := s.deliverEdge ch p double
    t.pfe.settings = s.pfe.settings ∧ t.pfe.rf0 = s.pfe.rf0 ∧ t.pfe.rf1 = s.pfe.rf1 ∧ t.pfe.zc = s.pfe.zc ∧ t.time = s.time ∧
    t.ecu.copy = s.ecu.copy ∧ t.plt = s.plt ∧ t.rsq.run = s.rsq.run ∧ t.rsq.seq = s.rsq.seq ∧ t.rsq.desc = s.rsq.desc ∧
    t.rsq.roster = s.rsq.roster ∧ t.rsq.enrolWindow = s.rsq.enrolWindow ∧ t.rsq.allowance = s.rsq.allowance ∧
    t.rsq.barrier = s.rsq.barrier ∧ t.rsq.enrolSent = s.rsq.enrolSent ∧ t.rsq.settle = s.rsq.settle ∧ t.rsq.window = s.rsq.window ∧
    t.rsq.figure = s.rsq.figure ∧ t.rsq.tally = s.rsq.tally ∧ t.rsq.verdict = s.rsq.verdict ∧ t.bli.stage = s.bli.stage ∧
    t.bli.quiet = s.bli.quiet ∧ t.bli.stuck = s.bli.stuck ∧ t.bli.dominantSince = s.bli.dominantSince ∧
    t.bli.afterStuck = s.bli.afterStuck ∧ t.bli.low = s.bli.low ∧ t.bli.unseen = s.bli.unseen ∧ t.bli.buffer = s.bli.buffer ∧
    t.bli.attempt = s.bli.attempt ∧ t.bli.w = s.bli.w ∧ t.bli.lineErrors = s.bli.lineErrors ∧ t.bli.overruns = s.bli.overruns ∧
    t.bli.lost = s.bli.lost ∧ t.bli.strays = s.bli.strays ∧ t.rrp.tq = s.rrp.tq ∧ t.rrp.td = s.rrp.td ∧ t.rrp.mask = s.rrp.mask ∧
    t.rrp.lastRefusal = s.rrp.lastRefusal ∧ t.seu = s.seu ∧ t.rst = s.rst ∧ t.sys = s.sys ∧ t.pins = s.pins ∧ t.freeIndex = s.freeIndex ∧
    t.pending = s.pending := by
  simp only [State.deliverEdge]
  repeat' first | (simp; done) | (simp [MeterInput.settings]; done) | (simp [Pfe.settings]; done) | split

@[simp] theorem State.takeHeld_frame (s : State) (ch : Channel) : let t := s.takeHeld ch
    t.pfe.settings = s.pfe.settings ∧ t.pfe.rf0 = s.pfe.rf0 ∧ t.pfe.rf1 = s.pfe.rf1 ∧ t.pfe.zc = s.pfe.zc ∧ t.time = s.time ∧
    t.ecu.copy = s.ecu.copy ∧ t.ecu.acc = s.ecu.acc ∧ t.plt = s.plt ∧ t.rsq.run = s.rsq.run ∧ t.rsq.seq = s.rsq.seq ∧
    t.rsq.desc = s.rsq.desc ∧ t.rsq.roster = s.rsq.roster ∧ t.rsq.enrolWindow = s.rsq.enrolWindow ∧ t.rsq.allowance = s.rsq.allowance ∧
    t.rsq.barrier = s.rsq.barrier ∧ t.rsq.enrolSent = s.rsq.enrolSent ∧ t.rsq.settle = s.rsq.settle ∧ t.rsq.window = s.rsq.window ∧
    t.rsq.figure = s.rsq.figure ∧ t.rsq.tally = s.rsq.tally ∧ t.rsq.verdict = s.rsq.verdict ∧ t.bli.stage = s.bli.stage ∧
    t.bli.quiet = s.bli.quiet ∧ t.bli.stuck = s.bli.stuck ∧ t.bli.dominantSince = s.bli.dominantSince ∧
    t.bli.afterStuck = s.bli.afterStuck ∧ t.bli.low = s.bli.low ∧ t.bli.unseen = s.bli.unseen ∧ t.bli.buffer = s.bli.buffer ∧
    t.bli.report = s.bli.report ∧ t.bli.attempt = s.bli.attempt ∧ t.bli.w = s.bli.w ∧ t.bli.lineErrors = s.bli.lineErrors ∧
    t.bli.overruns = s.bli.overruns ∧ t.bli.lost = s.bli.lost ∧ t.bli.strays = s.bli.strays ∧ t.rrp = s.rrp ∧ t.seu = s.seu ∧
    t.rst = s.rst ∧ t.sys = s.sys ∧ t.pins = s.pins ∧ t.freeIndex = s.freeIndex ∧ t.pending = s.pending := by
  simp only [State.takeHeld]
  repeat' first | (simp; done) | (simp [MeterInput.settings]; done) | (simp [Pfe.settings]; done) | split

@[simp] theorem State.acceptPulse_frame (s : State) (ch : Channel) (p : Pulse) : let t := s.acceptPulse ch p
    t.pfe.settings = s.pfe.settings ∧ t.pfe.rf0 = s.pfe.rf0 ∧ t.pfe.rf1 = s.pfe.rf1 ∧ t.pfe.zc = s.pfe.zc ∧ t.time = s.time ∧
    t.ecu.copy = s.ecu.copy ∧ t.plt = s.plt ∧ t.rsq.run = s.rsq.run ∧ t.rsq.seq = s.rsq.seq ∧ t.rsq.desc = s.rsq.desc ∧
    t.rsq.roster = s.rsq.roster ∧ t.rsq.enrolWindow = s.rsq.enrolWindow ∧ t.rsq.allowance = s.rsq.allowance ∧
    t.rsq.barrier = s.rsq.barrier ∧ t.rsq.enrolSent = s.rsq.enrolSent ∧ t.rsq.settle = s.rsq.settle ∧ t.rsq.window = s.rsq.window ∧
    t.rsq.figure = s.rsq.figure ∧ t.rsq.tally = s.rsq.tally ∧ t.rsq.verdict = s.rsq.verdict ∧ t.bli.stage = s.bli.stage ∧
    t.bli.quiet = s.bli.quiet ∧ t.bli.stuck = s.bli.stuck ∧ t.bli.dominantSince = s.bli.dominantSince ∧
    t.bli.afterStuck = s.bli.afterStuck ∧ t.bli.low = s.bli.low ∧ t.bli.unseen = s.bli.unseen ∧ t.bli.buffer = s.bli.buffer ∧
    t.bli.attempt = s.bli.attempt ∧ t.bli.w = s.bli.w ∧ t.bli.lineErrors = s.bli.lineErrors ∧ t.bli.overruns = s.bli.overruns ∧
    t.bli.lost = s.bli.lost ∧ t.bli.strays = s.bli.strays ∧ t.rrp.tq = s.rrp.tq ∧ t.rrp.td = s.rrp.td ∧ t.rrp.mask = s.rrp.mask ∧
    t.rrp.lastRefusal = s.rrp.lastRefusal ∧ t.seu = s.seu ∧ t.rst = s.rst ∧ t.sys = s.sys ∧ t.pins = s.pins ∧ t.freeIndex = s.freeIndex ∧
    t.pending = s.pending := by
  simp only [State.acceptPulse]
  repeat' first | (simp; done) | (simp [MeterInput.settings]; done) | (simp [Pfe.settings]; done) | split

@[simp] theorem State.channelCycle_frame (s : State) (ch : Channel) (stamp : Word) : let t := s.channelCycle ch stamp
    t.pfe.settings = s.pfe.settings ∧ t.pfe.rf0 = s.pfe.rf0 ∧ t.pfe.rf1 = s.pfe.rf1 ∧ t.pfe.zc = s.pfe.zc ∧ t.time = s.time ∧
    t.ecu.copy = s.ecu.copy ∧ t.ecu.acc = s.ecu.acc ∧ t.plt = s.plt ∧ t.rsq.run = s.rsq.run ∧ t.rsq.seq = s.rsq.seq ∧
    t.rsq.desc = s.rsq.desc ∧ t.rsq.roster = s.rsq.roster ∧ t.rsq.enrolWindow = s.rsq.enrolWindow ∧ t.rsq.allowance = s.rsq.allowance ∧
    t.rsq.barrier = s.rsq.barrier ∧ t.rsq.enrolSent = s.rsq.enrolSent ∧ t.rsq.settle = s.rsq.settle ∧ t.rsq.window = s.rsq.window ∧
    t.rsq.figure = s.rsq.figure ∧ t.rsq.tally = s.rsq.tally ∧ t.rsq.verdict = s.rsq.verdict ∧ t.bli.stage = s.bli.stage ∧
    t.bli.quiet = s.bli.quiet ∧ t.bli.stuck = s.bli.stuck ∧ t.bli.dominantSince = s.bli.dominantSince ∧
    t.bli.afterStuck = s.bli.afterStuck ∧ t.bli.low = s.bli.low ∧ t.bli.unseen = s.bli.unseen ∧ t.bli.buffer = s.bli.buffer ∧
    t.bli.report = s.bli.report ∧ t.bli.attempt = s.bli.attempt ∧ t.bli.w = s.bli.w ∧ t.bli.lineErrors = s.bli.lineErrors ∧
    t.bli.overruns = s.bli.overruns ∧ t.bli.lost = s.bli.lost ∧ t.bli.strays = s.bli.strays ∧ t.rrp = s.rrp ∧ t.seu = s.seu ∧
    t.rst = s.rst ∧ t.sys = s.sys ∧ t.pins = s.pins ∧ t.freeIndex = s.freeIndex ∧ t.pending = s.pending := by
  simp only [State.channelCycle]
  repeat' first | (simp; done) | (simp [MeterInput.settings]; done) | (simp [Pfe.settings]; done) | split

@[simp] theorem State.channelLoss_frame (s : State) (ch : Channel) : let t := s.channelLoss ch
    t.pfe.settings = s.pfe.settings ∧ t.pfe.rf0 = s.pfe.rf0 ∧ t.pfe.rf1 = s.pfe.rf1 ∧ t.pfe.zc = s.pfe.zc ∧ t.time = s.time ∧
    t.ecu.copy = s.ecu.copy ∧ t.ecu.acc = s.ecu.acc ∧ t.plt = s.plt ∧ t.rsq.run = s.rsq.run ∧ t.rsq.seq = s.rsq.seq ∧
    t.rsq.desc = s.rsq.desc ∧ t.rsq.roster = s.rsq.roster ∧ t.rsq.enrolWindow = s.rsq.enrolWindow ∧ t.rsq.allowance = s.rsq.allowance ∧
    t.rsq.barrier = s.rsq.barrier ∧ t.rsq.enrolSent = s.rsq.enrolSent ∧ t.rsq.settle = s.rsq.settle ∧ t.rsq.window = s.rsq.window ∧
    t.rsq.figure = s.rsq.figure ∧ t.rsq.tally = s.rsq.tally ∧ t.rsq.verdict = s.rsq.verdict ∧ t.bli.stage = s.bli.stage ∧
    t.bli.quiet = s.bli.quiet ∧ t.bli.stuck = s.bli.stuck ∧ t.bli.dominantSince = s.bli.dominantSince ∧
    t.bli.afterStuck = s.bli.afterStuck ∧ t.bli.low = s.bli.low ∧ t.bli.unseen = s.bli.unseen ∧ t.bli.buffer = s.bli.buffer ∧
    t.bli.report = s.bli.report ∧ t.bli.attempt = s.bli.attempt ∧ t.bli.w = s.bli.w ∧ t.bli.lineErrors = s.bli.lineErrors ∧
    t.bli.overruns = s.bli.overruns ∧ t.bli.lost = s.bli.lost ∧ t.bli.strays = s.bli.strays ∧ t.rrp = s.rrp ∧ t.seu = s.seu ∧
    t.rst = s.rst ∧ t.sys = s.sys ∧ t.pins = s.pins ∧ t.freeIndex = s.freeIndex ∧ t.pending = s.pending := by
  simp only [State.channelLoss]
  repeat' first | (simp; done) | (simp [MeterInput.settings]; done) | (simp [Pfe.settings]; done) | split

@[simp] theorem State.holdChannel_frame (s : State) (ch : Channel) : let t := s.holdChannel ch
    t.pfe.settings = s.pfe.settings ∧ t.pfe.rf0 = s.pfe.rf0 ∧ t.pfe.rf1 = s.pfe.rf1 ∧ t.pfe.zc = s.pfe.zc ∧ t.time = s.time ∧
    t.ecu.copy = s.ecu.copy ∧ t.ecu.acc = s.ecu.acc ∧ t.plt = s.plt ∧ t.rsq.run = s.rsq.run ∧ t.rsq.seq = s.rsq.seq ∧
    t.rsq.desc = s.rsq.desc ∧ t.rsq.roster = s.rsq.roster ∧ t.rsq.enrolWindow = s.rsq.enrolWindow ∧ t.rsq.allowance = s.rsq.allowance ∧
    t.rsq.barrier = s.rsq.barrier ∧ t.rsq.enrolSent = s.rsq.enrolSent ∧ t.rsq.settle = s.rsq.settle ∧ t.rsq.window = s.rsq.window ∧
    t.rsq.figure = s.rsq.figure ∧ t.rsq.tally = s.rsq.tally ∧ t.rsq.verdict = s.rsq.verdict ∧ t.bli.stage = s.bli.stage ∧
    t.bli.quiet = s.bli.quiet ∧ t.bli.stuck = s.bli.stuck ∧ t.bli.dominantSince = s.bli.dominantSince ∧
    t.bli.afterStuck = s.bli.afterStuck ∧ t.bli.low = s.bli.low ∧ t.bli.unseen = s.bli.unseen ∧ t.bli.buffer = s.bli.buffer ∧
    t.bli.report = s.bli.report ∧ t.bli.attempt = s.bli.attempt ∧ t.bli.w = s.bli.w ∧ t.bli.lineErrors = s.bli.lineErrors ∧
    t.bli.overruns = s.bli.overruns ∧ t.bli.lost = s.bli.lost ∧ t.bli.strays = s.bli.strays ∧ t.rrp = s.rrp ∧ t.seu = s.seu ∧
    t.rst = s.rst ∧ t.sys = s.sys ∧ t.pins = s.pins ∧ t.freeIndex = s.freeIndex ∧ t.pending = s.pending := by
  simp only [State.holdChannel]
  repeat' first | (simp; done) | (simp [MeterInput.settings]; done) | (simp [Pfe.settings]; done) | split

/-! ### Plan -/

@[simp] theorem State.writeBack_frame (s : State) (v : PointVerdict) : let t := s.writeBack v
    t.pfe = s.pfe ∧ t.time = s.time ∧ t.gates = s.gates ∧ t.ecu = s.ecu ∧ t.plt.head = s.plt.head ∧ t.plt.tail = s.plt.tail ∧
    t.plt.cyclic = s.plt.cyclic ∧ t.plt.loops = s.plt.loops ∧ t.plt.loop = s.plt.loop ∧ t.plt.fault = s.plt.fault ∧ t.rsq = s.rsq ∧
    t.bli = s.bli ∧ t.rrp = s.rrp ∧ t.seu = s.seu ∧ t.rst = s.rst ∧ t.sys = s.sys ∧ t.pins = s.pins ∧ t.freeIndex = s.freeIndex ∧
    t.pending = s.pending := by
  simp only [State.writeBack]
  repeat' first | (simp; done) | split

/-! ### Point -/

@[simp] theorem State.armGates_frame (s : State) (ch : Channel) : let t := s.armGates ch
    t.pfe.settings = s.pfe.settings ∧ t.pfe.rf0 = s.pfe.rf0 ∧ t.pfe.rf1 = s.pfe.rf1 ∧ t.pfe.zc = s.pfe.zc ∧ t.time = s.time ∧
    t.ecu.copy = s.ecu.copy ∧ t.ecu.acc = s.ecu.acc ∧ t.plt = s.plt ∧ t.rsq.run = s.rsq.run ∧ t.rsq.seq = s.rsq.seq ∧
    t.rsq.desc = s.rsq.desc ∧ t.rsq.roster = s.rsq.roster ∧ t.rsq.enrolWindow = s.rsq.enrolWindow ∧ t.rsq.allowance = s.rsq.allowance ∧
    t.rsq.barrier = s.rsq.barrier ∧ t.rsq.enrolSent = s.rsq.enrolSent ∧ t.rsq.settle = s.rsq.settle ∧ t.rsq.window = s.rsq.window ∧
    t.rsq.figure = s.rsq.figure ∧ t.rsq.tally = s.rsq.tally ∧ t.rsq.verdict = s.rsq.verdict ∧ t.bli.stage = s.bli.stage ∧
    t.bli.quiet = s.bli.quiet ∧ t.bli.stuck = s.bli.stuck ∧ t.bli.dominantSince = s.bli.dominantSince ∧
    t.bli.afterStuck = s.bli.afterStuck ∧ t.bli.low = s.bli.low ∧ t.bli.unseen = s.bli.unseen ∧ t.bli.buffer = s.bli.buffer ∧
    t.bli.report = s.bli.report ∧ t.bli.attempt = s.bli.attempt ∧ t.bli.w = s.bli.w ∧ t.bli.lineErrors = s.bli.lineErrors ∧
    t.bli.overruns = s.bli.overruns ∧ t.bli.lost = s.bli.lost ∧ t.bli.strays = s.bli.strays ∧ t.rrp = s.rrp ∧ t.seu = s.seu ∧
    t.rst = s.rst ∧ t.sys = s.sys ∧ t.pins = s.pins ∧ t.freeIndex = s.freeIndex ∧ t.pending = s.pending := by
  simp only [State.armGates]
  repeat' first | (simp; done) | (simp [MeterInput.settings]; done) | (simp [Pfe.settings]; done) | split

@[simp] theorem State.armDwell_frame (s : State) (ch : Channel) : let t := s.armDwell ch
    t.pfe.settings = s.pfe.settings ∧ t.pfe.rf0 = s.pfe.rf0 ∧ t.pfe.rf1 = s.pfe.rf1 ∧ t.pfe.zc = s.pfe.zc ∧ t.time = s.time ∧
    t.ecu.copy = s.ecu.copy ∧ t.ecu.acc = s.ecu.acc ∧ t.plt = s.plt ∧ t.rsq.run = s.rsq.run ∧ t.rsq.seq = s.rsq.seq ∧
    t.rsq.desc = s.rsq.desc ∧ t.rsq.roster = s.rsq.roster ∧ t.rsq.enrolWindow = s.rsq.enrolWindow ∧ t.rsq.allowance = s.rsq.allowance ∧
    t.rsq.barrier = s.rsq.barrier ∧ t.rsq.enrolSent = s.rsq.enrolSent ∧ t.rsq.settle = s.rsq.settle ∧ t.rsq.window = s.rsq.window ∧
    t.rsq.figure = s.rsq.figure ∧ t.rsq.tally = s.rsq.tally ∧ t.rsq.verdict = s.rsq.verdict ∧ t.bli.stage = s.bli.stage ∧
    t.bli.quiet = s.bli.quiet ∧ t.bli.stuck = s.bli.stuck ∧ t.bli.dominantSince = s.bli.dominantSince ∧
    t.bli.afterStuck = s.bli.afterStuck ∧ t.bli.low = s.bli.low ∧ t.bli.unseen = s.bli.unseen ∧ t.bli.buffer = s.bli.buffer ∧
    t.bli.report = s.bli.report ∧ t.bli.attempt = s.bli.attempt ∧ t.bli.w = s.bli.w ∧ t.bli.lineErrors = s.bli.lineErrors ∧
    t.bli.overruns = s.bli.overruns ∧ t.bli.lost = s.bli.lost ∧ t.bli.strays = s.bli.strays ∧ t.rrp = s.rrp ∧ t.seu = s.seu ∧
    t.rst = s.rst ∧ t.sys = s.sys ∧ t.pins = s.pins ∧ t.freeIndex = s.freeIndex ∧ t.pending = s.pending := by
  simp only [State.armDwell]
  repeat' first | (simp; done) | (simp [MeterInput.settings]; done) | (simp [Pfe.settings]; done) | split

@[simp] theorem State.armChannel_frame (s : State) (ch : Channel) : let t := s.armChannel ch
    t.pfe.settings = s.pfe.settings ∧ t.pfe.rf0 = s.pfe.rf0 ∧ t.pfe.rf1 = s.pfe.rf1 ∧ t.pfe.zc = s.pfe.zc ∧ t.time = s.time ∧
    t.ecu.copy = s.ecu.copy ∧ t.ecu.acc = s.ecu.acc ∧ t.plt = s.plt ∧ t.rsq.run = s.rsq.run ∧ t.rsq.seq = s.rsq.seq ∧
    t.rsq.desc = s.rsq.desc ∧ t.rsq.roster = s.rsq.roster ∧ t.rsq.enrolWindow = s.rsq.enrolWindow ∧ t.rsq.allowance = s.rsq.allowance ∧
    t.rsq.barrier = s.rsq.barrier ∧ t.rsq.enrolSent = s.rsq.enrolSent ∧ t.rsq.settle = s.rsq.settle ∧ t.rsq.window = s.rsq.window ∧
    t.rsq.figure = s.rsq.figure ∧ t.rsq.tally = s.rsq.tally ∧ t.rsq.verdict = s.rsq.verdict ∧ t.bli.stage = s.bli.stage ∧
    t.bli.quiet = s.bli.quiet ∧ t.bli.stuck = s.bli.stuck ∧ t.bli.dominantSince = s.bli.dominantSince ∧
    t.bli.afterStuck = s.bli.afterStuck ∧ t.bli.low = s.bli.low ∧ t.bli.unseen = s.bli.unseen ∧ t.bli.buffer = s.bli.buffer ∧
    t.bli.report = s.bli.report ∧ t.bli.attempt = s.bli.attempt ∧ t.bli.w = s.bli.w ∧ t.bli.lineErrors = s.bli.lineErrors ∧
    t.bli.overruns = s.bli.overruns ∧ t.bli.lost = s.bli.lost ∧ t.bli.strays = s.bli.strays ∧ t.rrp = s.rrp ∧ t.seu = s.seu ∧
    t.rst = s.rst ∧ t.sys = s.sys ∧ t.pins = s.pins ∧ t.freeIndex = s.freeIndex ∧ t.pending = s.pending := by
  simp only [State.armChannel]
  repeat' first | (simp; done) | (simp [MeterInput.settings]; done) | (simp [Pfe.settings]; done) | split

@[simp] theorem State.enterMeasuring_frame (s : State) : let t := s.enterMeasuring
    t.pfe.settings = s.pfe.settings ∧ t.pfe.rf0 = s.pfe.rf0 ∧ t.pfe.rf1 = s.pfe.rf1 ∧ t.pfe.zc = s.pfe.zc ∧ t.time = s.time ∧
    t.plt = s.plt ∧ t.rsq.run = s.rsq.run ∧ t.rsq.seq = s.rsq.seq ∧ t.rsq.desc = s.rsq.desc ∧ t.rsq.roster = s.rsq.roster ∧
    t.rsq.enrolWindow = s.rsq.enrolWindow ∧ t.rsq.allowance = s.rsq.allowance ∧ t.rsq.barrier = s.rsq.barrier ∧
    t.rsq.enrolSent = s.rsq.enrolSent ∧ t.rsq.settle = s.rsq.settle ∧ t.rsq.tally = s.rsq.tally ∧ t.rsq.verdict = s.rsq.verdict ∧
    t.bli.stage = s.bli.stage ∧ t.bli.quiet = s.bli.quiet ∧ t.bli.stuck = s.bli.stuck ∧ t.bli.dominantSince = s.bli.dominantSince ∧
    t.bli.afterStuck = s.bli.afterStuck ∧ t.bli.low = s.bli.low ∧ t.bli.unseen = s.bli.unseen ∧ t.bli.buffer = s.bli.buffer ∧
    t.bli.report = s.bli.report ∧ t.bli.attempt = s.bli.attempt ∧ t.bli.w = s.bli.w ∧ t.bli.lineErrors = s.bli.lineErrors ∧
    t.bli.overruns = s.bli.overruns ∧ t.bli.lost = s.bli.lost ∧ t.bli.strays = s.bli.strays ∧ t.rrp = s.rrp ∧ t.seu = s.seu ∧
    t.rst = s.rst ∧ t.sys = s.sys ∧ t.pins = s.pins ∧ t.freeIndex = s.freeIndex ∧ t.pending = s.pending := by
  simp only [State.enterMeasuring]
  repeat' first | (simp; done) | (simp [MeterInput.settings]; done) | (simp [Pfe.settings]; done) | split

@[simp] theorem State.takePrescalers_frame (s : State) : let t := s.takePrescalers
    t.pfe.settings = s.pfe.settings ∧ t.pfe.meters = s.pfe.meters ∧ t.pfe.zc = s.pfe.zc ∧ t.time = s.time ∧ t.gates = s.gates ∧
    t.ecu = s.ecu ∧ t.plt = s.plt ∧ t.rsq = s.rsq ∧ t.bli = s.bli ∧ t.rrp = s.rrp ∧ t.seu = s.seu ∧ t.rst = s.rst ∧ t.sys = s.sys ∧
    t.pins = s.pins ∧ t.freeIndex = s.freeIndex ∧ t.pending = s.pending := by
  simp only [State.takePrescalers, State.mapPfe, Pfe.mapRef]
  repeat' first | (simp; done) | (simp [Pfe.settings]; done) | split

@[simp] theorem State.enterSettling_frame (s : State) : let t := s.enterSettling
    t.pfe.settings = s.pfe.settings ∧ t.pfe.zc = s.pfe.zc ∧ t.time = s.time ∧ t.plt = s.plt ∧ t.rsq.run = s.rsq.run ∧
    t.rsq.seq = s.rsq.seq ∧ t.rsq.desc = s.rsq.desc ∧ t.rsq.roster = s.rsq.roster ∧ t.rsq.enrolWindow = s.rsq.enrolWindow ∧
    t.rsq.allowance = s.rsq.allowance ∧ t.rsq.barrier = s.rsq.barrier ∧ t.rsq.enrolSent = s.rsq.enrolSent ∧ t.rsq.tally = s.rsq.tally ∧
    t.rsq.verdict = s.rsq.verdict ∧ t.bli.stage = s.bli.stage ∧ t.bli.quiet = s.bli.quiet ∧ t.bli.stuck = s.bli.stuck ∧
    t.bli.dominantSince = s.bli.dominantSince ∧ t.bli.afterStuck = s.bli.afterStuck ∧ t.bli.low = s.bli.low ∧ t.bli.unseen = s.bli.unseen ∧
    t.bli.buffer = s.bli.buffer ∧ t.bli.report = s.bli.report ∧ t.bli.attempt = s.bli.attempt ∧ t.bli.w = s.bli.w ∧
    t.bli.lineErrors = s.bli.lineErrors ∧ t.bli.overruns = s.bli.overruns ∧ t.bli.lost = s.bli.lost ∧ t.bli.strays = s.bli.strays ∧
    t.rrp = s.rrp ∧ t.seu = s.seu ∧ t.rst = s.rst ∧ t.sys = s.sys ∧ t.pins = s.pins ∧ t.freeIndex = s.freeIndex ∧ t.pending = s.pending := by
  simp only [State.enterSettling]
  repeat' first | (simp; done) | (simp [MeterInput.settings]; done) | (simp [Pfe.settings]; done) | split

@[simp] theorem State.windowCycle_frame (s : State) (pfe : Pfe) : let t := s.windowCycle pfe
    t.pfe.settings = s.pfe.settings ∧ t.pfe.rf0 = s.pfe.rf0 ∧ t.pfe.rf1 = s.pfe.rf1 ∧ t.pfe.zc = s.pfe.zc ∧ t.time = s.time ∧
    t.ecu.copy = s.ecu.copy ∧ t.ecu.acc = s.ecu.acc ∧ t.ecu.outcomes = s.ecu.outcomes ∧ t.plt = s.plt ∧ t.rsq.run = s.rsq.run ∧
    t.rsq.seq = s.rsq.seq ∧ t.rsq.desc = s.rsq.desc ∧ t.rsq.roster = s.rsq.roster ∧ t.rsq.enrolWindow = s.rsq.enrolWindow ∧
    t.rsq.allowance = s.rsq.allowance ∧ t.rsq.barrier = s.rsq.barrier ∧ t.rsq.enrolSent = s.rsq.enrolSent ∧ t.rsq.settle = s.rsq.settle ∧
    t.rsq.received = s.rsq.received ∧ t.rsq.tally = s.rsq.tally ∧ t.rsq.verdict = s.rsq.verdict ∧ t.bli.stage = s.bli.stage ∧
    t.bli.quiet = s.bli.quiet ∧ t.bli.stuck = s.bli.stuck ∧ t.bli.dominantSince = s.bli.dominantSince ∧
    t.bli.afterStuck = s.bli.afterStuck ∧ t.bli.low = s.bli.low ∧ t.bli.unseen = s.bli.unseen ∧ t.bli.buffer = s.bli.buffer ∧
    t.bli.report = s.bli.report ∧ t.bli.attempt = s.bli.attempt ∧ t.bli.w = s.bli.w ∧ t.bli.lineErrors = s.bli.lineErrors ∧
    t.bli.overruns = s.bli.overruns ∧ t.bli.lost = s.bli.lost ∧ t.bli.strays = s.bli.strays ∧ t.rrp = s.rrp ∧ t.seu = s.seu ∧
    t.rst = s.rst ∧ t.sys = s.sys ∧ t.pins = s.pins ∧ t.freeIndex = s.freeIndex ∧ t.pending = s.pending := by
  simp only [State.windowCycle]
  repeat' first | (simp; done) | (simp [MeterInput.settings]; done) | (simp [Pfe.settings]; done) | split

@[simp] theorem State.rsqCycle_frame (s : State) (pfe : Pfe) : let t := s.rsqCycle pfe
    t.pfe.settings = s.pfe.settings ∧ t.pfe.rf0 = s.pfe.rf0 ∧ t.pfe.rf1 = s.pfe.rf1 ∧ t.pfe.zc = s.pfe.zc ∧ t.time = s.time ∧
    t.plt = s.plt ∧ t.rsq.run = s.rsq.run ∧ t.rsq.seq = s.rsq.seq ∧ t.rsq.desc = s.rsq.desc ∧ t.rsq.roster = s.rsq.roster ∧
    t.rsq.enrolWindow = s.rsq.enrolWindow ∧ t.rsq.allowance = s.rsq.allowance ∧ t.rsq.barrier = s.rsq.barrier ∧
    t.rsq.enrolSent = s.rsq.enrolSent ∧ t.rsq.tally = s.rsq.tally ∧ t.rsq.verdict = s.rsq.verdict ∧ t.bli.stage = s.bli.stage ∧
    t.bli.quiet = s.bli.quiet ∧ t.bli.stuck = s.bli.stuck ∧ t.bli.dominantSince = s.bli.dominantSince ∧
    t.bli.afterStuck = s.bli.afterStuck ∧ t.bli.low = s.bli.low ∧ t.bli.unseen = s.bli.unseen ∧ t.bli.buffer = s.bli.buffer ∧
    t.bli.report = s.bli.report ∧ t.bli.attempt = s.bli.attempt ∧ t.bli.w = s.bli.w ∧ t.bli.lineErrors = s.bli.lineErrors ∧
    t.bli.overruns = s.bli.overruns ∧ t.bli.lost = s.bli.lost ∧ t.bli.strays = s.bli.strays ∧ t.rrp = s.rrp ∧ t.seu = s.seu ∧
    t.rst = s.rst ∧ t.sys = s.sys ∧ t.pins = s.pins ∧ t.freeIndex = s.freeIndex ∧ t.pending = s.pending := by
  simp only [State.rsqCycle]
  repeat' first | (simp; done) | (simp [MeterInput.settings]; done) | (simp [Pfe.settings]; done) | split

@[simp] theorem State.rsqLoss_frame (s : State) : let t := s.rsqLoss
    t.pfe.settings = s.pfe.settings ∧ t.pfe.rf0 = s.pfe.rf0 ∧ t.pfe.rf1 = s.pfe.rf1 ∧ t.pfe.zc = s.pfe.zc ∧ t.time = s.time ∧
    t.plt = s.plt ∧ t.rsq.run = s.rsq.run ∧ t.rsq.seq = s.rsq.seq ∧ t.rsq.desc = s.rsq.desc ∧ t.rsq.roster = s.rsq.roster ∧
    t.rsq.enrolWindow = s.rsq.enrolWindow ∧ t.rsq.allowance = s.rsq.allowance ∧ t.rsq.barrier = s.rsq.barrier ∧
    t.rsq.enrolSent = s.rsq.enrolSent ∧ t.rsq.settle = s.rsq.settle ∧ t.rsq.tally = s.rsq.tally ∧ t.rsq.verdict = s.rsq.verdict ∧
    t.bli.stage = s.bli.stage ∧ t.bli.quiet = s.bli.quiet ∧ t.bli.stuck = s.bli.stuck ∧ t.bli.dominantSince = s.bli.dominantSince ∧
    t.bli.afterStuck = s.bli.afterStuck ∧ t.bli.low = s.bli.low ∧ t.bli.unseen = s.bli.unseen ∧ t.bli.buffer = s.bli.buffer ∧
    t.bli.report = s.bli.report ∧ t.bli.attempt = s.bli.attempt ∧ t.bli.w = s.bli.w ∧ t.bli.lineErrors = s.bli.lineErrors ∧
    t.bli.overruns = s.bli.overruns ∧ t.bli.lost = s.bli.lost ∧ t.bli.strays = s.bli.strays ∧ t.rrp = s.rrp ∧ t.seu = s.seu ∧
    t.rst = s.rst ∧ t.sys = s.sys ∧ t.pins = s.pins ∧ t.freeIndex = s.freeIndex ∧ t.pending = s.pending := by
  simp only [State.rsqLoss]
  repeat' first | (simp; done) | (simp [MeterInput.settings]; done) | (simp [Pfe.settings]; done) | split

@[simp] theorem State.loseMains_frame (s : State) : let t := s.loseMains
    t.pfe.settings = s.pfe.settings ∧ t.pfe.rf0 = s.pfe.rf0 ∧ t.pfe.rf1 = s.pfe.rf1 ∧ t.time = s.time ∧ t.plt = s.plt ∧
    t.rsq.run = s.rsq.run ∧ t.rsq.seq = s.rsq.seq ∧ t.rsq.desc = s.rsq.desc ∧ t.rsq.roster = s.rsq.roster ∧
    t.rsq.enrolWindow = s.rsq.enrolWindow ∧ t.rsq.allowance = s.rsq.allowance ∧ t.rsq.barrier = s.rsq.barrier ∧
    t.rsq.enrolSent = s.rsq.enrolSent ∧ t.rsq.settle = s.rsq.settle ∧ t.rsq.tally = s.rsq.tally ∧ t.rsq.verdict = s.rsq.verdict ∧
    t.bli.stage = s.bli.stage ∧ t.bli.quiet = s.bli.quiet ∧ t.bli.stuck = s.bli.stuck ∧ t.bli.dominantSince = s.bli.dominantSince ∧
    t.bli.afterStuck = s.bli.afterStuck ∧ t.bli.low = s.bli.low ∧ t.bli.unseen = s.bli.unseen ∧ t.bli.buffer = s.bli.buffer ∧
    t.bli.attempt = s.bli.attempt ∧ t.bli.w = s.bli.w ∧ t.bli.lineErrors = s.bli.lineErrors ∧ t.bli.overruns = s.bli.overruns ∧
    t.bli.lost = s.bli.lost ∧ t.bli.strays = s.bli.strays ∧ t.rrp.queue = s.rrp.queue ∧ t.rrp.tq = s.rrp.tq ∧ t.rrp.td = s.rrp.td ∧
    t.rrp.delay = s.rrp.delay ∧ t.rrp.call = s.rrp.call ∧ t.rrp.drops = s.rrp.drops ∧ t.rrp.mask = s.rrp.mask ∧
    t.rrp.lastRefusal = s.rrp.lastRefusal ∧ t.seu = s.seu ∧ t.rst = s.rst ∧ t.sys = s.sys ∧ t.pins = s.pins ∧ t.freeIndex = s.freeIndex ∧
    t.pending = s.pending := by
  simp only [State.loseMains]
  repeat' first | (simp; done) | (simp [MeterInput.settings]; done) | (simp [Pfe.settings]; done) | split

@[simp] theorem State.countCycle_frame (s : State) (stamp : Word) : let t := s.countCycle stamp
    t.pfe.settings = s.pfe.settings ∧ t.pfe.rf0 = s.pfe.rf0 ∧ t.pfe.rf1 = s.pfe.rf1 ∧ t.pfe.zc = s.pfe.zc ∧ t.time = s.time ∧
    t.plt = s.plt ∧ t.rsq.run = s.rsq.run ∧ t.rsq.seq = s.rsq.seq ∧ t.rsq.desc = s.rsq.desc ∧ t.rsq.roster = s.rsq.roster ∧
    t.rsq.enrolWindow = s.rsq.enrolWindow ∧ t.rsq.allowance = s.rsq.allowance ∧ t.rsq.barrier = s.rsq.barrier ∧
    t.rsq.enrolSent = s.rsq.enrolSent ∧ t.rsq.tally = s.rsq.tally ∧ t.rsq.verdict = s.rsq.verdict ∧ t.bli.stage = s.bli.stage ∧
    t.bli.quiet = s.bli.quiet ∧ t.bli.stuck = s.bli.stuck ∧ t.bli.dominantSince = s.bli.dominantSince ∧
    t.bli.afterStuck = s.bli.afterStuck ∧ t.bli.low = s.bli.low ∧ t.bli.unseen = s.bli.unseen ∧ t.bli.buffer = s.bli.buffer ∧
    t.bli.report = s.bli.report ∧ t.bli.attempt = s.bli.attempt ∧ t.bli.w = s.bli.w ∧ t.bli.lineErrors = s.bli.lineErrors ∧
    t.bli.overruns = s.bli.overruns ∧ t.bli.lost = s.bli.lost ∧ t.bli.strays = s.bli.strays ∧ t.rrp = s.rrp ∧ t.seu = s.seu ∧
    t.rst = s.rst ∧ t.sys = s.sys ∧ t.pins = s.pins ∧ t.freeIndex = s.freeIndex ∧ t.pending = s.pending := by
  simp only [State.countCycle]
  repeat' first | (simp; done) | (simp [MeterInput.settings]; done) | (simp [Pfe.settings]; done) | split

/-! ### Run -/

@[simp] theorem State.stopRunTimers_frame (s : State) : let t := s.stopRunTimers
    t.pfe = s.pfe ∧ t.time = s.time ∧ t.gates = s.gates ∧ t.ecu = s.ecu ∧ t.plt = s.plt ∧ t.rsq.runState = s.rsq.runState ∧
    t.rsq.run = s.rsq.run ∧ t.rsq.seq = s.rsq.seq ∧ t.rsq.desc = s.rsq.desc ∧ t.rsq.roster = s.rsq.roster ∧
    t.rsq.enrolSent = s.rsq.enrolSent ∧ t.rsq.phase = s.rsq.phase ∧ t.rsq.settle = s.rsq.settle ∧ t.rsq.received = s.rsq.received ∧
    t.rsq.window = s.rsq.window ∧ t.rsq.figure = s.rsq.figure ∧ t.rsq.tally = s.rsq.tally ∧ t.rsq.verdict = s.rsq.verdict ∧ t.bli = s.bli ∧
    t.rrp = s.rrp ∧ t.seu = s.seu ∧ t.rst = s.rst ∧ t.sys = s.sys ∧ t.pins = s.pins ∧ t.freeIndex = s.freeIndex ∧
    t.pending = s.pending := by
  simp only [State.stopRunTimers]
  repeat' first | (simp; done) | split

@[simp] theorem State.markOwn_frame (s : State) (st : PeerStatus) : let t := s.markOwn st
    t.pfe = s.pfe ∧ t.time = s.time ∧ t.gates = s.gates ∧ t.ecu = s.ecu ∧ t.plt = s.plt ∧ t.rsq.runState = s.rsq.runState ∧
    t.rsq.run = s.rsq.run ∧ t.rsq.seq = s.rsq.seq ∧ t.rsq.desc = s.rsq.desc ∧ t.rsq.enrolWindow = s.rsq.enrolWindow ∧
    t.rsq.allowance = s.rsq.allowance ∧ t.rsq.barrier = s.rsq.barrier ∧ t.rsq.enrolSent = s.rsq.enrolSent ∧ t.rsq.phase = s.rsq.phase ∧
    t.rsq.settle = s.rsq.settle ∧ t.rsq.received = s.rsq.received ∧ t.rsq.window = s.rsq.window ∧ t.rsq.figure = s.rsq.figure ∧
    t.rsq.tally = s.rsq.tally ∧ t.rsq.verdict = s.rsq.verdict ∧ t.bli = s.bli ∧ t.rrp = s.rrp ∧ t.seu = s.seu ∧ t.rst = s.rst ∧
    t.sys = s.sys ∧ t.pins = s.pins ∧ t.freeIndex = s.freeIndex ∧ t.pending = s.pending := by
  simp only [State.markOwn]
  repeat' first | (simp; done) | split

@[simp] theorem State.takeIncomplete_frame (s : State) : let t := s.takeIncomplete
    t.pfe = s.pfe ∧ t.time = s.time ∧ t.gates = s.gates ∧ t.ecu = s.ecu ∧ t.plt = s.plt ∧ t.rsq.run = s.rsq.run ∧ t.rsq.seq = s.rsq.seq ∧
    t.rsq.desc = s.rsq.desc ∧ t.rsq.roster = s.rsq.roster ∧ t.rsq.enrolWindow = s.rsq.enrolWindow ∧ t.rsq.allowance = s.rsq.allowance ∧
    t.rsq.barrier = s.rsq.barrier ∧ t.rsq.enrolSent = s.rsq.enrolSent ∧ t.rsq.phase = s.rsq.phase ∧ t.rsq.settle = s.rsq.settle ∧
    t.rsq.received = s.rsq.received ∧ t.rsq.window = s.rsq.window ∧ t.rsq.figure = s.rsq.figure ∧ t.rsq.tally = s.rsq.tally ∧
    t.bli.stage = s.bli.stage ∧ t.bli.quiet = s.bli.quiet ∧ t.bli.stuck = s.bli.stuck ∧ t.bli.dominantSince = s.bli.dominantSince ∧
    t.bli.afterStuck = s.bli.afterStuck ∧ t.bli.low = s.bli.low ∧ t.bli.unseen = s.bli.unseen ∧ t.bli.buffer = s.bli.buffer ∧
    t.bli.coord = s.bli.coord ∧ t.bli.waiting = s.bli.waiting ∧ t.bli.attempt = s.bli.attempt ∧ t.bli.w = s.bli.w ∧
    t.bli.lineErrors = s.bli.lineErrors ∧ t.bli.overruns = s.bli.overruns ∧ t.bli.lost = s.bli.lost ∧ t.bli.strays = s.bli.strays ∧
    t.rrp.queue = s.rrp.queue ∧ t.rrp.tq = s.rrp.tq ∧ t.rrp.td = s.rrp.td ∧ t.rrp.delay = s.rrp.delay ∧ t.rrp.call = s.rrp.call ∧
    t.rrp.drops = s.rrp.drops ∧ t.rrp.mask = s.rrp.mask ∧ t.rrp.lastRefusal = s.rrp.lastRefusal ∧ t.seu.enable = s.seu.enable ∧
    t.seu.block = s.seu.block ∧ t.seu.watermark = s.seu.watermark ∧ t.seu.strokeTimeout = s.seu.strokeTimeout ∧ t.seu.voids = s.seu.voids ∧
    t.seu.press = s.seu.press ∧ t.seu.strokeTimer = s.seu.strokeTimer ∧ t.seu.seenInactive = s.seu.seenInactive ∧
    t.seu.lamps = s.seu.lamps ∧ t.seu.reject = s.seu.reject ∧ t.seu.rejectTimer = s.seu.rejectTimer ∧ t.seu.aborted = s.seu.aborted ∧
    t.rst.slots = s.rst.slots ∧ t.rst.damaged = s.rst.damaged ∧ t.rst.reserveAsked = s.rst.reserveAsked ∧ t.sys = s.sys ∧ t.pins = s.pins ∧
    t.freeIndex = s.freeIndex ∧ t.pending = s.pending := by
  simp only [State.takeIncomplete]
  repeat' first | (simp; done) | split

@[simp] theorem State.withdrawRun_frame (s : State) (r : WithdrawReason) : let t := s.withdrawRun r
    t.pfe.settings = s.pfe.settings ∧ t.pfe.rf0 = s.pfe.rf0 ∧ t.pfe.rf1 = s.pfe.rf1 ∧ t.pfe.zc = s.pfe.zc ∧ t.time = s.time ∧
    t.ecu.copy = s.ecu.copy ∧ t.ecu.acc = s.ecu.acc ∧ t.ecu.outcomes = s.ecu.outcomes ∧ t.plt = s.plt ∧ t.rsq.run = s.rsq.run ∧
    t.rsq.seq = s.rsq.seq ∧ t.rsq.desc = s.rsq.desc ∧ t.rsq.enrolSent = s.rsq.enrolSent ∧ t.rsq.settle = s.rsq.settle ∧
    t.rsq.received = s.rsq.received ∧ t.rsq.figure = s.rsq.figure ∧ t.rsq.tally = s.rsq.tally ∧ t.bli.stage = s.bli.stage ∧
    t.bli.quiet = s.bli.quiet ∧ t.bli.stuck = s.bli.stuck ∧ t.bli.dominantSince = s.bli.dominantSince ∧
    t.bli.afterStuck = s.bli.afterStuck ∧ t.bli.low = s.bli.low ∧ t.bli.unseen = s.bli.unseen ∧ t.bli.buffer = s.bli.buffer ∧
    t.bli.w = s.bli.w ∧ t.bli.lineErrors = s.bli.lineErrors ∧ t.bli.overruns = s.bli.overruns ∧ t.bli.lost = s.bli.lost ∧
    t.bli.strays = s.bli.strays ∧ t.rrp.queue = s.rrp.queue ∧ t.rrp.tq = s.rrp.tq ∧ t.rrp.td = s.rrp.td ∧ t.rrp.delay = s.rrp.delay ∧
    t.rrp.call = s.rrp.call ∧ t.rrp.drops = s.rrp.drops ∧ t.rrp.mask = s.rrp.mask ∧ t.rrp.lastRefusal = s.rrp.lastRefusal ∧
    t.seu.enable = s.seu.enable ∧ t.seu.block = s.seu.block ∧ t.seu.watermark = s.seu.watermark ∧
    t.seu.strokeTimeout = s.seu.strokeTimeout ∧ t.seu.voids = s.seu.voids ∧ t.seu.press = s.seu.press ∧
    t.seu.strokeTimer = s.seu.strokeTimer ∧ t.seu.seenInactive = s.seu.seenInactive ∧ t.seu.lamps = s.seu.lamps ∧
    t.seu.reject = s.seu.reject ∧ t.seu.rejectTimer = s.seu.rejectTimer ∧ t.seu.aborted = s.seu.aborted ∧ t.rst.slots = s.rst.slots ∧
    t.rst.damaged = s.rst.damaged ∧ t.rst.reserveAsked = s.rst.reserveAsked ∧ t.sys = s.sys ∧ t.pins = s.pins ∧ t.freeIndex = s.freeIndex ∧
    t.pending = s.pending := by
  simp only [State.withdrawRun]
  repeat' first | (simp; done) | (simp [MeterInput.settings]; done) | (simp [Pfe.settings]; done) | split

@[simp] theorem State.planFault_frame (s : State) (c : PlanCause) : let t := s.planFault c
    t.pfe.settings = s.pfe.settings ∧ t.pfe.rf0 = s.pfe.rf0 ∧ t.pfe.rf1 = s.pfe.rf1 ∧ t.pfe.zc = s.pfe.zc ∧ t.time = s.time ∧
    t.ecu.copy = s.ecu.copy ∧ t.ecu.acc = s.ecu.acc ∧ t.ecu.outcomes = s.ecu.outcomes ∧ t.plt.plan = s.plt.plan ∧ t.plt.head = s.plt.head ∧
    t.plt.tail = s.plt.tail ∧ t.plt.cyclic = s.plt.cyclic ∧ t.plt.loops = s.plt.loops ∧ t.plt.loop = s.plt.loop ∧ t.rsq.run = s.rsq.run ∧
    t.rsq.seq = s.rsq.seq ∧ t.rsq.desc = s.rsq.desc ∧ t.rsq.enrolSent = s.rsq.enrolSent ∧ t.rsq.settle = s.rsq.settle ∧
    t.rsq.received = s.rsq.received ∧ t.rsq.figure = s.rsq.figure ∧ t.rsq.tally = s.rsq.tally ∧ t.bli.stage = s.bli.stage ∧
    t.bli.quiet = s.bli.quiet ∧ t.bli.stuck = s.bli.stuck ∧ t.bli.dominantSince = s.bli.dominantSince ∧
    t.bli.afterStuck = s.bli.afterStuck ∧ t.bli.low = s.bli.low ∧ t.bli.unseen = s.bli.unseen ∧ t.bli.buffer = s.bli.buffer ∧
    t.bli.w = s.bli.w ∧ t.bli.lineErrors = s.bli.lineErrors ∧ t.bli.overruns = s.bli.overruns ∧ t.bli.lost = s.bli.lost ∧
    t.bli.strays = s.bli.strays ∧ t.rrp.queue = s.rrp.queue ∧ t.rrp.tq = s.rrp.tq ∧ t.rrp.td = s.rrp.td ∧ t.rrp.delay = s.rrp.delay ∧
    t.rrp.call = s.rrp.call ∧ t.rrp.drops = s.rrp.drops ∧ t.rrp.mask = s.rrp.mask ∧ t.rrp.lastRefusal = s.rrp.lastRefusal ∧
    t.seu.enable = s.seu.enable ∧ t.seu.block = s.seu.block ∧ t.seu.watermark = s.seu.watermark ∧
    t.seu.strokeTimeout = s.seu.strokeTimeout ∧ t.seu.voids = s.seu.voids ∧ t.seu.press = s.seu.press ∧
    t.seu.strokeTimer = s.seu.strokeTimer ∧ t.seu.seenInactive = s.seu.seenInactive ∧ t.seu.lamps = s.seu.lamps ∧
    t.seu.reject = s.seu.reject ∧ t.seu.rejectTimer = s.seu.rejectTimer ∧ t.seu.aborted = s.seu.aborted ∧ t.rst.slots = s.rst.slots ∧
    t.rst.damaged = s.rst.damaged ∧ t.rst.reserveAsked = s.rst.reserveAsked ∧ t.sys = s.sys ∧ t.pins = s.pins ∧ t.freeIndex = s.freeIndex ∧
    t.pending = s.pending := by
  simp only [State.planFault]
  repeat' first | (simp; done) | (simp [MeterInput.settings]; done) | (simp [Pfe.settings]; done) | split

@[simp] theorem State.judgeTakeUp_frame (s : State) : let t := s.judgeTakeUp
    t.pfe.settings = s.pfe.settings ∧ t.pfe.rf0 = s.pfe.rf0 ∧ t.pfe.rf1 = s.pfe.rf1 ∧ t.pfe.zc = s.pfe.zc ∧ t.time = s.time ∧
    t.ecu.copy = s.ecu.copy ∧ t.ecu.acc = s.ecu.acc ∧ t.ecu.outcomes = s.ecu.outcomes ∧ t.plt.plan = s.plt.plan ∧ t.plt.head = s.plt.head ∧
    t.plt.tail = s.plt.tail ∧ t.plt.cyclic = s.plt.cyclic ∧ t.plt.loops = s.plt.loops ∧ t.plt.loop = s.plt.loop ∧ t.rsq.run = s.rsq.run ∧
    t.rsq.seq = s.rsq.seq ∧ t.rsq.desc = s.rsq.desc ∧ t.rsq.enrolSent = s.rsq.enrolSent ∧ t.rsq.settle = s.rsq.settle ∧
    t.rsq.received = s.rsq.received ∧ t.rsq.figure = s.rsq.figure ∧ t.rsq.tally = s.rsq.tally ∧ t.bli.stage = s.bli.stage ∧
    t.bli.quiet = s.bli.quiet ∧ t.bli.stuck = s.bli.stuck ∧ t.bli.dominantSince = s.bli.dominantSince ∧
    t.bli.afterStuck = s.bli.afterStuck ∧ t.bli.low = s.bli.low ∧ t.bli.unseen = s.bli.unseen ∧ t.bli.buffer = s.bli.buffer ∧
    t.bli.w = s.bli.w ∧ t.bli.lineErrors = s.bli.lineErrors ∧ t.bli.overruns = s.bli.overruns ∧ t.bli.lost = s.bli.lost ∧
    t.bli.strays = s.bli.strays ∧ t.rrp.queue = s.rrp.queue ∧ t.rrp.tq = s.rrp.tq ∧ t.rrp.td = s.rrp.td ∧ t.rrp.delay = s.rrp.delay ∧
    t.rrp.call = s.rrp.call ∧ t.rrp.drops = s.rrp.drops ∧ t.rrp.mask = s.rrp.mask ∧ t.rrp.lastRefusal = s.rrp.lastRefusal ∧
    t.seu.enable = s.seu.enable ∧ t.seu.block = s.seu.block ∧ t.seu.watermark = s.seu.watermark ∧
    t.seu.strokeTimeout = s.seu.strokeTimeout ∧ t.seu.voids = s.seu.voids ∧ t.seu.press = s.seu.press ∧
    t.seu.strokeTimer = s.seu.strokeTimer ∧ t.seu.seenInactive = s.seu.seenInactive ∧ t.seu.lamps = s.seu.lamps ∧
    t.seu.reject = s.seu.reject ∧ t.seu.rejectTimer = s.seu.rejectTimer ∧ t.seu.aborted = s.seu.aborted ∧ t.rst.slots = s.rst.slots ∧
    t.rst.damaged = s.rst.damaged ∧ t.rst.reserveAsked = s.rst.reserveAsked ∧ t.sys = s.sys ∧ t.pins = s.pins ∧ t.freeIndex = s.freeIndex ∧
    t.pending = s.pending := by
  simp only [State.judgeTakeUp]
  repeat' first | (simp; done) | (simp [MeterInput.settings]; done) | (simp [Pfe.settings]; done) | split

@[simp] theorem State.enterWaitLoad_frame (s : State) (n d : Nat) : let t := s.enterWaitLoad n d
    t.pfe.settings = s.pfe.settings ∧ t.pfe.rf0 = s.pfe.rf0 ∧ t.pfe.rf1 = s.pfe.rf1 ∧ t.pfe.zc = s.pfe.zc ∧ t.time = s.time ∧
    t.ecu.copy = s.ecu.copy ∧ t.ecu.acc = s.ecu.acc ∧ t.ecu.outcomes = s.ecu.outcomes ∧ t.plt.plan = s.plt.plan ∧ t.plt.head = s.plt.head ∧
    t.plt.tail = s.plt.tail ∧ t.plt.cyclic = s.plt.cyclic ∧ t.plt.loops = s.plt.loops ∧ t.plt.loop = s.plt.loop ∧ t.rsq.run = s.rsq.run ∧
    t.rsq.enrolSent = s.rsq.enrolSent ∧ t.rsq.settle = s.rsq.settle ∧ t.rsq.received = s.rsq.received ∧ t.rsq.figure = s.rsq.figure ∧
    t.rsq.tally = s.rsq.tally ∧ t.bli.stage = s.bli.stage ∧ t.bli.quiet = s.bli.quiet ∧ t.bli.stuck = s.bli.stuck ∧
    t.bli.dominantSince = s.bli.dominantSince ∧ t.bli.afterStuck = s.bli.afterStuck ∧ t.bli.low = s.bli.low ∧ t.bli.unseen = s.bli.unseen ∧
    t.bli.buffer = s.bli.buffer ∧ t.bli.w = s.bli.w ∧ t.bli.lineErrors = s.bli.lineErrors ∧ t.bli.overruns = s.bli.overruns ∧
    t.bli.lost = s.bli.lost ∧ t.bli.strays = s.bli.strays ∧ t.rrp.queue = s.rrp.queue ∧ t.rrp.tq = s.rrp.tq ∧ t.rrp.td = s.rrp.td ∧
    t.rrp.delay = s.rrp.delay ∧ t.rrp.call = s.rrp.call ∧ t.rrp.drops = s.rrp.drops ∧ t.rrp.mask = s.rrp.mask ∧
    t.rrp.lastRefusal = s.rrp.lastRefusal ∧ t.seu.enable = s.seu.enable ∧ t.seu.block = s.seu.block ∧ t.seu.watermark = s.seu.watermark ∧
    t.seu.strokeTimeout = s.seu.strokeTimeout ∧ t.seu.voids = s.seu.voids ∧ t.seu.press = s.seu.press ∧
    t.seu.strokeTimer = s.seu.strokeTimer ∧ t.seu.seenInactive = s.seu.seenInactive ∧ t.seu.lamps = s.seu.lamps ∧
    t.seu.reject = s.seu.reject ∧ t.seu.rejectTimer = s.seu.rejectTimer ∧ t.seu.aborted = s.seu.aborted ∧ t.rst.slots = s.rst.slots ∧
    t.rst.damaged = s.rst.damaged ∧ t.rst.reserveAsked = s.rst.reserveAsked ∧ t.sys = s.sys ∧ t.pins = s.pins ∧ t.freeIndex = s.freeIndex ∧
    t.pending = s.pending := by
  simp only [State.enterWaitLoad]
  repeat' first | (simp; done) | (simp [MeterInput.settings]; done) | (simp [Pfe.settings]; done) | split

@[simp] theorem State.pulseReject_frame (s : State) : let t := s.pulseReject
    t.pfe = s.pfe ∧ t.time = s.time ∧ t.gates = s.gates ∧ t.ecu = s.ecu ∧ t.plt = s.plt ∧ t.rsq = s.rsq ∧ t.bli = s.bli ∧ t.rrp = s.rrp ∧
    t.seu.enable = s.seu.enable ∧ t.seu.block = s.seu.block ∧ t.seu.watermark = s.seu.watermark ∧
    t.seu.strokeTimeout = s.seu.strokeTimeout ∧ t.seu.voids = s.seu.voids ∧ t.seu.claim = s.seu.claim ∧ t.seu.press = s.seu.press ∧
    t.seu.strokeTimer = s.seu.strokeTimer ∧ t.seu.seenInactive = s.seu.seenInactive ∧ t.seu.outcome = s.seu.outcome ∧
    t.seu.lamps = s.seu.lamps ∧ t.seu.aborted = s.seu.aborted ∧ t.rst = s.rst ∧ t.sys = s.sys ∧ t.pins = s.pins ∧
    t.freeIndex = s.freeIndex ∧ t.pending = s.pending := by
  simp only [State.pulseReject]
  repeat' first | (simp; done) | split

@[simp] theorem State.endRun_frame (s : State) : let t := s.endRun
    t.pfe = s.pfe ∧ t.time = s.time ∧ t.gates = s.gates ∧ t.ecu = s.ecu ∧ t.plt = s.plt ∧ t.rsq.run = s.rsq.run ∧ t.rsq.seq = s.rsq.seq ∧
    t.rsq.desc = s.rsq.desc ∧ t.rsq.roster = s.rsq.roster ∧ t.rsq.enrolWindow = s.rsq.enrolWindow ∧ t.rsq.allowance = s.rsq.allowance ∧
    t.rsq.barrier = s.rsq.barrier ∧ t.rsq.enrolSent = s.rsq.enrolSent ∧ t.rsq.settle = s.rsq.settle ∧ t.rsq.received = s.rsq.received ∧
    t.rsq.window = s.rsq.window ∧ t.rsq.figure = s.rsq.figure ∧ t.rsq.tally = s.rsq.tally ∧ t.bli.stage = s.bli.stage ∧
    t.bli.quiet = s.bli.quiet ∧ t.bli.stuck = s.bli.stuck ∧ t.bli.dominantSince = s.bli.dominantSince ∧
    t.bli.afterStuck = s.bli.afterStuck ∧ t.bli.low = s.bli.low ∧ t.bli.unseen = s.bli.unseen ∧ t.bli.buffer = s.bli.buffer ∧
    t.bli.attempt = s.bli.attempt ∧ t.bli.w = s.bli.w ∧ t.bli.lineErrors = s.bli.lineErrors ∧ t.bli.overruns = s.bli.overruns ∧
    t.bli.lost = s.bli.lost ∧ t.bli.strays = s.bli.strays ∧ t.rrp.queue = s.rrp.queue ∧ t.rrp.tq = s.rrp.tq ∧ t.rrp.td = s.rrp.td ∧
    t.rrp.delay = s.rrp.delay ∧ t.rrp.call = s.rrp.call ∧ t.rrp.drops = s.rrp.drops ∧ t.rrp.mask = s.rrp.mask ∧
    t.rrp.lastRefusal = s.rrp.lastRefusal ∧ t.seu.enable = s.seu.enable ∧ t.seu.block = s.seu.block ∧ t.seu.watermark = s.seu.watermark ∧
    t.seu.strokeTimeout = s.seu.strokeTimeout ∧ t.seu.voids = s.seu.voids ∧ t.seu.press = s.seu.press ∧
    t.seu.strokeTimer = s.seu.strokeTimer ∧ t.seu.seenInactive = s.seu.seenInactive ∧ t.seu.lamps = s.seu.lamps ∧
    t.seu.aborted = s.seu.aborted ∧ t.rst.slots = s.rst.slots ∧ t.rst.damaged = s.rst.damaged ∧ t.sys = s.sys ∧ t.pins = s.pins ∧
    t.freeIndex = s.freeIndex ∧ t.pending = s.pending := by
  simp only [State.endRun]
  repeat' first | (simp; done) | split

@[simp] theorem State.followStep_frame (s : State) (n : NextStep) : let t := s.followStep n
    t.pfe.settings = s.pfe.settings ∧ t.pfe.rf0 = s.pfe.rf0 ∧ t.pfe.rf1 = s.pfe.rf1 ∧ t.pfe.zc = s.pfe.zc ∧ t.time = s.time ∧
    t.ecu.copy = s.ecu.copy ∧ t.ecu.acc = s.ecu.acc ∧ t.ecu.outcomes = s.ecu.outcomes ∧ t.plt.plan = s.plt.plan ∧ t.plt.head = s.plt.head ∧
    t.plt.tail = s.plt.tail ∧ t.plt.cyclic = s.plt.cyclic ∧ t.plt.loops = s.plt.loops ∧ t.plt.loop = s.plt.loop ∧ t.rsq.run = s.rsq.run ∧
    t.rsq.enrolSent = s.rsq.enrolSent ∧ t.rsq.settle = s.rsq.settle ∧ t.rsq.received = s.rsq.received ∧ t.rsq.figure = s.rsq.figure ∧
    t.rsq.tally = s.rsq.tally ∧ t.bli.stage = s.bli.stage ∧ t.bli.quiet = s.bli.quiet ∧ t.bli.stuck = s.bli.stuck ∧
    t.bli.dominantSince = s.bli.dominantSince ∧ t.bli.afterStuck = s.bli.afterStuck ∧ t.bli.low = s.bli.low ∧ t.bli.unseen = s.bli.unseen ∧
    t.bli.buffer = s.bli.buffer ∧ t.bli.w = s.bli.w ∧ t.bli.lineErrors = s.bli.lineErrors ∧ t.bli.overruns = s.bli.overruns ∧
    t.bli.lost = s.bli.lost ∧ t.bli.strays = s.bli.strays ∧ t.rrp.queue = s.rrp.queue ∧ t.rrp.tq = s.rrp.tq ∧ t.rrp.td = s.rrp.td ∧
    t.rrp.delay = s.rrp.delay ∧ t.rrp.call = s.rrp.call ∧ t.rrp.drops = s.rrp.drops ∧ t.rrp.mask = s.rrp.mask ∧
    t.rrp.lastRefusal = s.rrp.lastRefusal ∧ t.seu.enable = s.seu.enable ∧ t.seu.block = s.seu.block ∧ t.seu.watermark = s.seu.watermark ∧
    t.seu.strokeTimeout = s.seu.strokeTimeout ∧ t.seu.voids = s.seu.voids ∧ t.seu.press = s.seu.press ∧
    t.seu.strokeTimer = s.seu.strokeTimer ∧ t.seu.seenInactive = s.seu.seenInactive ∧ t.seu.lamps = s.seu.lamps ∧
    t.seu.aborted = s.seu.aborted ∧ t.rst.slots = s.rst.slots ∧ t.rst.damaged = s.rst.damaged ∧ t.sys = s.sys ∧ t.pins = s.pins ∧
    t.freeIndex = s.freeIndex ∧ t.pending = s.pending := by
  simp only [State.followStep]
  repeat' first | (simp; done) | (simp [MeterInput.settings]; done) | (simp [Pfe.settings]; done) | split

@[simp] theorem State.closeBarrier_frame (s : State) : let t := s.closeBarrier
    t.pfe.settings = s.pfe.settings ∧ t.pfe.rf0 = s.pfe.rf0 ∧ t.pfe.rf1 = s.pfe.rf1 ∧ t.pfe.zc = s.pfe.zc ∧ t.time = s.time ∧
    t.ecu.copy = s.ecu.copy ∧ t.ecu.acc = s.ecu.acc ∧ t.ecu.outcomes = s.ecu.outcomes ∧ t.plt.head = s.plt.head ∧ t.plt.tail = s.plt.tail ∧
    t.plt.cyclic = s.plt.cyclic ∧ t.plt.loops = s.plt.loops ∧ t.rsq.run = s.rsq.run ∧ t.rsq.enrolSent = s.rsq.enrolSent ∧
    t.rsq.settle = s.rsq.settle ∧ t.rsq.figure = s.rsq.figure ∧ t.bli.stage = s.bli.stage ∧ t.bli.quiet = s.bli.quiet ∧
    t.bli.stuck = s.bli.stuck ∧ t.bli.dominantSince = s.bli.dominantSince ∧ t.bli.afterStuck = s.bli.afterStuck ∧ t.bli.low = s.bli.low ∧
    t.bli.unseen = s.bli.unseen ∧ t.bli.buffer = s.bli.buffer ∧ t.bli.w = s.bli.w ∧ t.bli.lineErrors = s.bli.lineErrors ∧
    t.bli.overruns = s.bli.overruns ∧ t.bli.lost = s.bli.lost ∧ t.bli.strays = s.bli.strays ∧ t.rrp.tq = s.rrp.tq ∧ t.rrp.td = s.rrp.td ∧
    t.rrp.mask = s.rrp.mask ∧ t.rrp.lastRefusal = s.rrp.lastRefusal ∧ t.seu.enable = s.seu.enable ∧ t.seu.block = s.seu.block ∧
    t.seu.watermark = s.seu.watermark ∧ t.seu.strokeTimeout = s.seu.strokeTimeout ∧ t.seu.voids = s.seu.voids ∧ t.seu.press = s.seu.press ∧
    t.seu.strokeTimer = s.seu.strokeTimer ∧ t.seu.seenInactive = s.seu.seenInactive ∧ t.seu.lamps = s.seu.lamps ∧
    t.seu.aborted = s.seu.aborted ∧ t.rst.slots = s.rst.slots ∧ t.rst.damaged = s.rst.damaged ∧ t.sys = s.sys ∧ t.pins = s.pins ∧
    t.freeIndex = s.freeIndex ∧ t.pending = s.pending := by
  simp only [State.closeBarrier]
  repeat' first | (simp; done) | (simp [MeterInput.settings]; done) | (simp [Pfe.settings]; done) | split

@[simp] theorem State.testBarrier_frame (s : State) : let t := s.testBarrier
    t.pfe.settings = s.pfe.settings ∧ t.pfe.rf0 = s.pfe.rf0 ∧ t.pfe.rf1 = s.pfe.rf1 ∧ t.pfe.zc = s.pfe.zc ∧ t.time = s.time ∧
    t.ecu.copy = s.ecu.copy ∧ t.ecu.acc = s.ecu.acc ∧ t.ecu.outcomes = s.ecu.outcomes ∧ t.plt.head = s.plt.head ∧ t.plt.tail = s.plt.tail ∧
    t.plt.cyclic = s.plt.cyclic ∧ t.plt.loops = s.plt.loops ∧ t.rsq.run = s.rsq.run ∧ t.rsq.enrolSent = s.rsq.enrolSent ∧
    t.rsq.settle = s.rsq.settle ∧ t.rsq.figure = s.rsq.figure ∧ t.bli.stage = s.bli.stage ∧ t.bli.quiet = s.bli.quiet ∧
    t.bli.stuck = s.bli.stuck ∧ t.bli.dominantSince = s.bli.dominantSince ∧ t.bli.afterStuck = s.bli.afterStuck ∧ t.bli.low = s.bli.low ∧
    t.bli.unseen = s.bli.unseen ∧ t.bli.buffer = s.bli.buffer ∧ t.bli.w = s.bli.w ∧ t.bli.lineErrors = s.bli.lineErrors ∧
    t.bli.overruns = s.bli.overruns ∧ t.bli.lost = s.bli.lost ∧ t.bli.strays = s.bli.strays ∧ t.rrp.tq = s.rrp.tq ∧ t.rrp.td = s.rrp.td ∧
    t.rrp.mask = s.rrp.mask ∧ t.rrp.lastRefusal = s.rrp.lastRefusal ∧ t.seu.enable = s.seu.enable ∧ t.seu.block = s.seu.block ∧
    t.seu.watermark = s.seu.watermark ∧ t.seu.strokeTimeout = s.seu.strokeTimeout ∧ t.seu.voids = s.seu.voids ∧ t.seu.press = s.seu.press ∧
    t.seu.strokeTimer = s.seu.strokeTimer ∧ t.seu.seenInactive = s.seu.seenInactive ∧ t.seu.lamps = s.seu.lamps ∧
    t.seu.aborted = s.seu.aborted ∧ t.rst.slots = s.rst.slots ∧ t.rst.damaged = s.rst.damaged ∧ t.sys = s.sys ∧ t.pins = s.pins ∧
    t.freeIndex = s.freeIndex ∧ t.pending = s.pending := by
  simp only [State.testBarrier]
  repeat' first | (simp; done) | (simp [MeterInput.settings]; done) | (simp [Pfe.settings]; done) | split

@[simp] theorem State.lapseRoster_frame (s : State) (n : Nat) (named : Nat → Bool) : let t := s.lapseRoster n named
    t.pfe = s.pfe ∧ t.time = s.time ∧ t.gates = s.gates ∧ t.ecu = s.ecu ∧ t.plt = s.plt ∧ t.rsq.runState = s.rsq.runState ∧
    t.rsq.run = s.rsq.run ∧ t.rsq.seq = s.rsq.seq ∧ t.rsq.desc = s.rsq.desc ∧ t.rsq.enrolWindow = s.rsq.enrolWindow ∧
    t.rsq.allowance = s.rsq.allowance ∧ t.rsq.barrier = s.rsq.barrier ∧ t.rsq.enrolSent = s.rsq.enrolSent ∧ t.rsq.phase = s.rsq.phase ∧
    t.rsq.settle = s.rsq.settle ∧ t.rsq.received = s.rsq.received ∧ t.rsq.window = s.rsq.window ∧ t.rsq.figure = s.rsq.figure ∧
    t.rsq.tally = s.rsq.tally ∧ t.rsq.verdict = s.rsq.verdict ∧ t.bli = s.bli ∧ t.rrp = s.rrp ∧ t.seu = s.seu ∧ t.rst = s.rst ∧
    t.sys = s.sys ∧ t.pins = s.pins ∧ t.freeIndex = s.freeIndex ∧ t.pending = s.pending := by
  simp only [State.lapseRoster]
  repeat' first | (simp; done) | split

@[simp] theorem State.lapsedOut_frame (s : State) : let t := s.lapsedOut
    t.pfe.settings = s.pfe.settings ∧ t.pfe.rf0 = s.pfe.rf0 ∧ t.pfe.rf1 = s.pfe.rf1 ∧ t.pfe.zc = s.pfe.zc ∧ t.time = s.time ∧
    t.ecu.copy = s.ecu.copy ∧ t.ecu.acc = s.ecu.acc ∧ t.ecu.outcomes = s.ecu.outcomes ∧ t.plt = s.plt ∧ t.rsq.run = s.rsq.run ∧
    t.rsq.seq = s.rsq.seq ∧ t.rsq.desc = s.rsq.desc ∧ t.rsq.enrolWindow = s.rsq.enrolWindow ∧ t.rsq.allowance = s.rsq.allowance ∧
    t.rsq.enrolSent = s.rsq.enrolSent ∧ t.rsq.settle = s.rsq.settle ∧ t.rsq.received = s.rsq.received ∧ t.rsq.figure = s.rsq.figure ∧
    t.rsq.tally = s.rsq.tally ∧ t.bli.stage = s.bli.stage ∧ t.bli.quiet = s.bli.quiet ∧ t.bli.stuck = s.bli.stuck ∧
    t.bli.dominantSince = s.bli.dominantSince ∧ t.bli.afterStuck = s.bli.afterStuck ∧ t.bli.low = s.bli.low ∧ t.bli.unseen = s.bli.unseen ∧
    t.bli.buffer = s.bli.buffer ∧ t.bli.w = s.bli.w ∧ t.bli.lineErrors = s.bli.lineErrors ∧ t.bli.overruns = s.bli.overruns ∧
    t.bli.lost = s.bli.lost ∧ t.bli.strays = s.bli.strays ∧ t.rrp.queue = s.rrp.queue ∧ t.rrp.tq = s.rrp.tq ∧ t.rrp.td = s.rrp.td ∧
    t.rrp.delay = s.rrp.delay ∧ t.rrp.call = s.rrp.call ∧ t.rrp.drops = s.rrp.drops ∧ t.rrp.mask = s.rrp.mask ∧
    t.rrp.lastRefusal = s.rrp.lastRefusal ∧ t.seu.enable = s.seu.enable ∧ t.seu.block = s.seu.block ∧ t.seu.watermark = s.seu.watermark ∧
    t.seu.strokeTimeout = s.seu.strokeTimeout ∧ t.seu.voids = s.seu.voids ∧ t.seu.press = s.seu.press ∧
    t.seu.strokeTimer = s.seu.strokeTimer ∧ t.seu.seenInactive = s.seu.seenInactive ∧ t.seu.lamps = s.seu.lamps ∧
    t.seu.reject = s.seu.reject ∧ t.seu.rejectTimer = s.seu.rejectTimer ∧ t.seu.aborted = s.seu.aborted ∧ t.rst.slots = s.rst.slots ∧
    t.rst.damaged = s.rst.damaged ∧ t.rst.reserveAsked = s.rst.reserveAsked ∧ t.sys = s.sys ∧ t.pins = s.pins ∧ t.freeIndex = s.freeIndex ∧
    t.pending = s.pending := by
  simp only [State.lapsedOut]
  repeat' first | (simp; done) | (simp [MeterInput.settings]; done) | (simp [Pfe.settings]; done) | split

@[simp] theorem State.applyLapse_frame (s : State) (n : Nat) (named : Nat → Bool) : let t := s.applyLapse n named
    t.pfe.settings = s.pfe.settings ∧ t.pfe.rf0 = s.pfe.rf0 ∧ t.pfe.rf1 = s.pfe.rf1 ∧ t.pfe.zc = s.pfe.zc ∧ t.time = s.time ∧
    t.ecu.copy = s.ecu.copy ∧ t.ecu.acc = s.ecu.acc ∧ t.ecu.outcomes = s.ecu.outcomes ∧ t.plt.head = s.plt.head ∧ t.plt.tail = s.plt.tail ∧
    t.plt.cyclic = s.plt.cyclic ∧ t.plt.loops = s.plt.loops ∧ t.rsq.run = s.rsq.run ∧ t.rsq.enrolSent = s.rsq.enrolSent ∧
    t.rsq.settle = s.rsq.settle ∧ t.rsq.figure = s.rsq.figure ∧ t.bli.stage = s.bli.stage ∧ t.bli.quiet = s.bli.quiet ∧
    t.bli.stuck = s.bli.stuck ∧ t.bli.dominantSince = s.bli.dominantSince ∧ t.bli.afterStuck = s.bli.afterStuck ∧ t.bli.low = s.bli.low ∧
    t.bli.unseen = s.bli.unseen ∧ t.bli.buffer = s.bli.buffer ∧ t.bli.w = s.bli.w ∧ t.bli.lineErrors = s.bli.lineErrors ∧
    t.bli.overruns = s.bli.overruns ∧ t.bli.lost = s.bli.lost ∧ t.bli.strays = s.bli.strays ∧ t.rrp.tq = s.rrp.tq ∧ t.rrp.td = s.rrp.td ∧
    t.rrp.mask = s.rrp.mask ∧ t.rrp.lastRefusal = s.rrp.lastRefusal ∧ t.seu.enable = s.seu.enable ∧ t.seu.block = s.seu.block ∧
    t.seu.watermark = s.seu.watermark ∧ t.seu.strokeTimeout = s.seu.strokeTimeout ∧ t.seu.voids = s.seu.voids ∧ t.seu.press = s.seu.press ∧
    t.seu.strokeTimer = s.seu.strokeTimer ∧ t.seu.seenInactive = s.seu.seenInactive ∧ t.seu.lamps = s.seu.lamps ∧
    t.seu.aborted = s.seu.aborted ∧ t.rst.slots = s.rst.slots ∧ t.rst.damaged = s.rst.damaged ∧ t.sys = s.sys ∧ t.pins = s.pins ∧
    t.freeIndex = s.freeIndex ∧ t.pending = s.pending := by
  simp only [State.applyLapse]
  repeat' first | (simp; done) | (simp [MeterInput.settings]; done) | (simp [Pfe.settings]; done) | split

@[simp] theorem State.abortRun_frame (s : State) : let t := s.abortRun
    t.pfe.settings = s.pfe.settings ∧ t.pfe.rf0 = s.pfe.rf0 ∧ t.pfe.rf1 = s.pfe.rf1 ∧ t.pfe.zc = s.pfe.zc ∧ t.time = s.time ∧
    t.ecu.copy = s.ecu.copy ∧ t.ecu.acc = s.ecu.acc ∧ t.ecu.outcomes = s.ecu.outcomes ∧ t.plt = s.plt ∧ t.rsq.run = s.rsq.run ∧
    t.rsq.seq = s.rsq.seq ∧ t.rsq.desc = s.rsq.desc ∧ t.rsq.enrolSent = s.rsq.enrolSent ∧ t.rsq.settle = s.rsq.settle ∧
    t.rsq.received = s.rsq.received ∧ t.rsq.figure = s.rsq.figure ∧ t.rsq.tally = s.rsq.tally ∧ t.bli.stage = s.bli.stage ∧
    t.bli.quiet = s.bli.quiet ∧ t.bli.stuck = s.bli.stuck ∧ t.bli.dominantSince = s.bli.dominantSince ∧
    t.bli.afterStuck = s.bli.afterStuck ∧ t.bli.low = s.bli.low ∧ t.bli.unseen = s.bli.unseen ∧ t.bli.buffer = s.bli.buffer ∧
    t.bli.w = s.bli.w ∧ t.bli.lineErrors = s.bli.lineErrors ∧ t.bli.overruns = s.bli.overruns ∧ t.bli.lost = s.bli.lost ∧
    t.bli.strays = s.bli.strays ∧ t.rrp.queue = s.rrp.queue ∧ t.rrp.tq = s.rrp.tq ∧ t.rrp.td = s.rrp.td ∧ t.rrp.delay = s.rrp.delay ∧
    t.rrp.call = s.rrp.call ∧ t.rrp.drops = s.rrp.drops ∧ t.rrp.mask = s.rrp.mask ∧ t.rrp.lastRefusal = s.rrp.lastRefusal ∧
    t.seu.enable = s.seu.enable ∧ t.seu.block = s.seu.block ∧ t.seu.watermark = s.seu.watermark ∧
    t.seu.strokeTimeout = s.seu.strokeTimeout ∧ t.seu.voids = s.seu.voids ∧ t.seu.press = s.seu.press ∧
    t.seu.strokeTimer = s.seu.strokeTimer ∧ t.seu.seenInactive = s.seu.seenInactive ∧ t.seu.reject = s.seu.reject ∧
    t.seu.rejectTimer = s.seu.rejectTimer ∧ t.rst.slots = s.rst.slots ∧ t.rst.damaged = s.rst.damaged ∧ t.sys = s.sys ∧ t.pins = s.pins ∧
    t.freeIndex = s.freeIndex ∧ t.pending = s.pending := by
  simp only [State.abortRun]
  repeat' first | (simp; done) | (simp [MeterInput.settings]; done) | (simp [Pfe.settings]; done) | split

@[simp] theorem State.dropEnrol_frame (s : State) : let t := s.dropEnrol
    t.pfe = s.pfe ∧ t.time = s.time ∧ t.gates = s.gates ∧ t.ecu = s.ecu ∧ t.plt = s.plt ∧ t.rsq.run = s.rsq.run ∧ t.rsq.seq = s.rsq.seq ∧
    t.rsq.desc = s.rsq.desc ∧ t.rsq.enrolWindow = s.rsq.enrolWindow ∧ t.rsq.allowance = s.rsq.allowance ∧ t.rsq.barrier = s.rsq.barrier ∧
    t.rsq.enrolSent = s.rsq.enrolSent ∧ t.rsq.phase = s.rsq.phase ∧ t.rsq.settle = s.rsq.settle ∧ t.rsq.received = s.rsq.received ∧
    t.rsq.window = s.rsq.window ∧ t.rsq.figure = s.rsq.figure ∧ t.rsq.tally = s.rsq.tally ∧ t.rsq.verdict = s.rsq.verdict ∧ t.bli = s.bli ∧
    t.rrp = s.rrp ∧ t.seu = s.seu ∧ t.rst = s.rst ∧ t.sys = s.sys ∧ t.pins = s.pins ∧ t.freeIndex = s.freeIndex ∧
    t.pending = s.pending := by
  simp only [State.dropEnrol]
  repeat' first | (simp; done) | split

@[simp] theorem State.closeWindow_frame (s : State) : let t := s.closeWindow
    t.pfe.settings = s.pfe.settings ∧ t.pfe.rf0 = s.pfe.rf0 ∧ t.pfe.rf1 = s.pfe.rf1 ∧ t.pfe.zc = s.pfe.zc ∧ t.time = s.time ∧
    t.ecu.copy = s.ecu.copy ∧ t.ecu.acc = s.ecu.acc ∧ t.ecu.outcomes = s.ecu.outcomes ∧ t.plt.plan = s.plt.plan ∧ t.plt.head = s.plt.head ∧
    t.plt.tail = s.plt.tail ∧ t.plt.cyclic = s.plt.cyclic ∧ t.plt.loops = s.plt.loops ∧ t.plt.loop = s.plt.loop ∧ t.rsq.run = s.rsq.run ∧
    t.rsq.enrolSent = s.rsq.enrolSent ∧ t.rsq.settle = s.rsq.settle ∧ t.rsq.received = s.rsq.received ∧ t.rsq.figure = s.rsq.figure ∧
    t.rsq.tally = s.rsq.tally ∧ t.bli.stage = s.bli.stage ∧ t.bli.quiet = s.bli.quiet ∧ t.bli.stuck = s.bli.stuck ∧
    t.bli.dominantSince = s.bli.dominantSince ∧ t.bli.afterStuck = s.bli.afterStuck ∧ t.bli.low = s.bli.low ∧ t.bli.unseen = s.bli.unseen ∧
    t.bli.buffer = s.bli.buffer ∧ t.bli.w = s.bli.w ∧ t.bli.lineErrors = s.bli.lineErrors ∧ t.bli.overruns = s.bli.overruns ∧
    t.bli.lost = s.bli.lost ∧ t.bli.strays = s.bli.strays ∧ t.rrp.queue = s.rrp.queue ∧ t.rrp.tq = s.rrp.tq ∧ t.rrp.td = s.rrp.td ∧
    t.rrp.delay = s.rrp.delay ∧ t.rrp.call = s.rrp.call ∧ t.rrp.drops = s.rrp.drops ∧ t.rrp.mask = s.rrp.mask ∧
    t.rrp.lastRefusal = s.rrp.lastRefusal ∧ t.seu.enable = s.seu.enable ∧ t.seu.block = s.seu.block ∧ t.seu.watermark = s.seu.watermark ∧
    t.seu.strokeTimeout = s.seu.strokeTimeout ∧ t.seu.voids = s.seu.voids ∧ t.seu.press = s.seu.press ∧
    t.seu.strokeTimer = s.seu.strokeTimer ∧ t.seu.seenInactive = s.seu.seenInactive ∧ t.seu.lamps = s.seu.lamps ∧
    t.seu.reject = s.seu.reject ∧ t.seu.rejectTimer = s.seu.rejectTimer ∧ t.seu.aborted = s.seu.aborted ∧ t.rst.slots = s.rst.slots ∧
    t.rst.damaged = s.rst.damaged ∧ t.rst.reserveAsked = s.rst.reserveAsked ∧ t.sys = s.sys ∧ t.pins = s.pins ∧ t.freeIndex = s.freeIndex ∧
    t.pending = s.pending := by
  simp only [State.closeWindow]
  repeat' first | (simp; done) | (simp [MeterInput.settings]; done) | (simp [Pfe.settings]; done) | split

/-! ### Requests -/

@[simp] theorem State.answerRecord_frame (s : State) (selector : Nat) : let t := s.answerRecord selector
    t.pfe = s.pfe ∧ t.time = s.time ∧ t.gates = s.gates ∧ t.ecu = s.ecu ∧ t.plt = s.plt ∧ t.rsq = s.rsq ∧ t.bli.stage = s.bli.stage ∧
    t.bli.quiet = s.bli.quiet ∧ t.bli.stuck = s.bli.stuck ∧ t.bli.dominantSince = s.bli.dominantSince ∧
    t.bli.afterStuck = s.bli.afterStuck ∧ t.bli.low = s.bli.low ∧ t.bli.unseen = s.bli.unseen ∧ t.bli.buffer = s.bli.buffer ∧
    t.bli.coord = s.bli.coord ∧ t.bli.waiting = s.bli.waiting ∧ t.bli.attempt = s.bli.attempt ∧ t.bli.w = s.bli.w ∧
    t.bli.lineErrors = s.bli.lineErrors ∧ t.bli.overruns = s.bli.overruns ∧ t.bli.lost = s.bli.lost ∧ t.bli.strays = s.bli.strays ∧
    t.rrp.queue = s.rrp.queue ∧ t.rrp.tq = s.rrp.tq ∧ t.rrp.td = s.rrp.td ∧ t.rrp.delay = s.rrp.delay ∧ t.rrp.call = s.rrp.call ∧
    t.rrp.drops = s.rrp.drops ∧ t.rrp.flags = s.rrp.flags ∧ t.rrp.mask = s.rrp.mask ∧ t.rrp.statusDue = s.rrp.statusDue ∧ t.seu = s.seu ∧
    t.rst = s.rst ∧ t.sys = s.sys ∧ t.pins = s.pins ∧ t.freeIndex = s.freeIndex ∧ t.pending = s.pending := by
  simp only [State.answerRecord]
  repeat' first | (simp; done) | split

@[simp] theorem State.answerSum_frame (s : State) (n : Nat) : let t := s.answerSum n
    t.pfe = s.pfe ∧ t.time = s.time ∧ t.gates = s.gates ∧ t.ecu = s.ecu ∧ t.plt = s.plt ∧ t.rsq = s.rsq ∧ t.bli.stage = s.bli.stage ∧
    t.bli.quiet = s.bli.quiet ∧ t.bli.stuck = s.bli.stuck ∧ t.bli.dominantSince = s.bli.dominantSince ∧
    t.bli.afterStuck = s.bli.afterStuck ∧ t.bli.low = s.bli.low ∧ t.bli.unseen = s.bli.unseen ∧ t.bli.buffer = s.bli.buffer ∧
    t.bli.coord = s.bli.coord ∧ t.bli.waiting = s.bli.waiting ∧ t.bli.attempt = s.bli.attempt ∧ t.bli.w = s.bli.w ∧
    t.bli.lineErrors = s.bli.lineErrors ∧ t.bli.overruns = s.bli.overruns ∧ t.bli.lost = s.bli.lost ∧ t.bli.strays = s.bli.strays ∧
    t.rrp.queue = s.rrp.queue ∧ t.rrp.tq = s.rrp.tq ∧ t.rrp.td = s.rrp.td ∧ t.rrp.delay = s.rrp.delay ∧ t.rrp.call = s.rrp.call ∧
    t.rrp.drops = s.rrp.drops ∧ t.rrp.flags = s.rrp.flags ∧ t.rrp.mask = s.rrp.mask ∧ t.rrp.statusDue = s.rrp.statusDue ∧ t.seu = s.seu ∧
    t.rst = s.rst ∧ t.sys = s.sys ∧ t.pins = s.pins ∧ t.freeIndex = s.freeIndex ∧ t.pending = s.pending := by
  simp only [State.answerSum]
  repeat' first | (simp; done) | split

@[simp] theorem State.markRecord_frame (s : State) (n q : Nat) : let t := s.markRecord n q
    t.pfe = s.pfe ∧ t.time = s.time ∧ t.gates = s.gates ∧ t.ecu = s.ecu ∧ t.plt = s.plt ∧ t.rsq.run = s.rsq.run ∧ t.rsq.seq = s.rsq.seq ∧
    t.rsq.desc = s.rsq.desc ∧ t.rsq.roster = s.rsq.roster ∧ t.rsq.enrolWindow = s.rsq.enrolWindow ∧ t.rsq.allowance = s.rsq.allowance ∧
    t.rsq.barrier = s.rsq.barrier ∧ t.rsq.enrolSent = s.rsq.enrolSent ∧ t.rsq.phase = s.rsq.phase ∧ t.rsq.settle = s.rsq.settle ∧
    t.rsq.received = s.rsq.received ∧ t.rsq.window = s.rsq.window ∧ t.rsq.figure = s.rsq.figure ∧ t.rsq.tally = s.rsq.tally ∧
    t.rsq.verdict = s.rsq.verdict ∧ t.bli.stage = s.bli.stage ∧ t.bli.quiet = s.bli.quiet ∧ t.bli.stuck = s.bli.stuck ∧
    t.bli.dominantSince = s.bli.dominantSince ∧ t.bli.afterStuck = s.bli.afterStuck ∧ t.bli.low = s.bli.low ∧ t.bli.unseen = s.bli.unseen ∧
    t.bli.buffer = s.bli.buffer ∧ t.bli.coord = s.bli.coord ∧ t.bli.waiting = s.bli.waiting ∧ t.bli.attempt = s.bli.attempt ∧
    t.bli.w = s.bli.w ∧ t.bli.lineErrors = s.bli.lineErrors ∧ t.bli.overruns = s.bli.overruns ∧ t.bli.lost = s.bli.lost ∧
    t.bli.strays = s.bli.strays ∧ t.rrp.queue = s.rrp.queue ∧ t.rrp.tq = s.rrp.tq ∧ t.rrp.td = s.rrp.td ∧ t.rrp.delay = s.rrp.delay ∧
    t.rrp.call = s.rrp.call ∧ t.rrp.drops = s.rrp.drops ∧ t.rrp.mask = s.rrp.mask ∧ t.seu.enable = s.seu.enable ∧
    t.seu.block = s.seu.block ∧ t.seu.watermark = s.seu.watermark ∧ t.seu.strokeTimeout = s.seu.strokeTimeout ∧ t.seu.voids = s.seu.voids ∧
    t.seu.press = s.seu.press ∧ t.seu.strokeTimer = s.seu.strokeTimer ∧ t.seu.seenInactive = s.seu.seenInactive ∧
    t.seu.lamps = s.seu.lamps ∧ t.seu.reject = s.seu.reject ∧ t.seu.rejectTimer = s.seu.rejectTimer ∧ t.seu.aborted = s.seu.aborted ∧
    t.rst.slots = s.rst.slots ∧ t.rst.damaged = s.rst.damaged ∧ t.rst.reserveAsked = s.rst.reserveAsked ∧ t.sys = s.sys ∧ t.pins = s.pins ∧
    t.freeIndex = s.freeIndex ∧ t.pending = s.pending := by
  simp only [State.markRecord]
  repeat' first | (simp; done) | split

@[simp] theorem State.wipeStore_frame (s : State) : let t := s.wipeStore
    t.pfe = s.pfe ∧ t.time = s.time ∧ t.gates = s.gates ∧ t.ecu = s.ecu ∧ t.plt = s.plt ∧ t.rsq = s.rsq ∧ t.bli = s.bli ∧
    t.rrp.queue = s.rrp.queue ∧ t.rrp.tq = s.rrp.tq ∧ t.rrp.td = s.rrp.td ∧ t.rrp.delay = s.rrp.delay ∧ t.rrp.call = s.rrp.call ∧
    t.rrp.drops = s.rrp.drops ∧ t.rrp.flags = s.rrp.flags ∧ t.rrp.mask = s.rrp.mask ∧ t.rrp.statusDue = s.rrp.statusDue ∧ t.seu = s.seu ∧
    t.rst.slots = s.rst.slots ∧ t.rst.damaged = s.rst.damaged ∧ t.rst.lastRecord = s.rst.lastRecord ∧ t.rst.waiting = s.rst.waiting ∧
    t.rst.reservation = s.rst.reservation ∧ t.rst.reserveAsked = s.rst.reserveAsked ∧ t.sys = s.sys ∧ t.pins = s.pins ∧
    t.freeIndex = s.freeIndex ∧ t.pending = s.pending := by
  simp only [State.wipeStore]
  repeat' first | (simp; done) | split

@[simp] theorem State.answer_frame (s : State) (f : RxFrame) : let t := s.answer f
    t.pfe = s.pfe ∧ t.time = s.time ∧ t.gates = s.gates ∧ t.ecu = s.ecu ∧ t.plt = s.plt ∧ t.rsq = s.rsq ∧ t.bli.stage = s.bli.stage ∧
    t.bli.quiet = s.bli.quiet ∧ t.bli.stuck = s.bli.stuck ∧ t.bli.dominantSince = s.bli.dominantSince ∧
    t.bli.afterStuck = s.bli.afterStuck ∧ t.bli.low = s.bli.low ∧ t.bli.unseen = s.bli.unseen ∧ t.bli.buffer = s.bli.buffer ∧
    t.bli.coord = s.bli.coord ∧ t.bli.waiting = s.bli.waiting ∧ t.bli.attempt = s.bli.attempt ∧ t.bli.w = s.bli.w ∧
    t.bli.lineErrors = s.bli.lineErrors ∧ t.bli.overruns = s.bli.overruns ∧ t.bli.lost = s.bli.lost ∧ t.bli.strays = s.bli.strays ∧
    t.rrp.queue = s.rrp.queue ∧ t.rrp.tq = s.rrp.tq ∧ t.rrp.td = s.rrp.td ∧ t.rrp.delay = s.rrp.delay ∧ t.rrp.call = s.rrp.call ∧
    t.rrp.drops = s.rrp.drops ∧ t.rrp.flags = s.rrp.flags ∧ t.rrp.mask = s.rrp.mask ∧ t.seu = s.seu ∧ t.rst = s.rst ∧ t.sys = s.sys ∧
    t.pins = s.pins ∧ t.freeIndex = s.freeIndex ∧ t.pending = s.pending := by
  simp only [State.answer]
  repeat' first | (simp; done) | split

@[simp] theorem State.takeRequests_frame (s : State) (l : List RxFrame) : let t := s.takeRequests l
    t.pfe = s.pfe ∧ t.time = s.time ∧ t.gates = s.gates ∧ t.ecu = s.ecu ∧ t.plt = s.plt ∧ t.rsq = s.rsq ∧ t.bli.stage = s.bli.stage ∧
    t.bli.quiet = s.bli.quiet ∧ t.bli.stuck = s.bli.stuck ∧ t.bli.dominantSince = s.bli.dominantSince ∧
    t.bli.afterStuck = s.bli.afterStuck ∧ t.bli.low = s.bli.low ∧ t.bli.unseen = s.bli.unseen ∧ t.bli.coord = s.bli.coord ∧
    t.bli.waiting = s.bli.waiting ∧ t.bli.attempt = s.bli.attempt ∧ t.bli.w = s.bli.w ∧ t.bli.lineErrors = s.bli.lineErrors ∧
    t.bli.overruns = s.bli.overruns ∧ t.bli.lost = s.bli.lost ∧ t.bli.strays = s.bli.strays ∧ t.rrp.queue = s.rrp.queue ∧
    t.rrp.tq = s.rrp.tq ∧ t.rrp.td = s.rrp.td ∧ t.rrp.delay = s.rrp.delay ∧ t.rrp.call = s.rrp.call ∧ t.rrp.drops = s.rrp.drops ∧
    t.rrp.flags = s.rrp.flags ∧ t.rrp.mask = s.rrp.mask ∧ t.seu = s.seu ∧ t.rst = s.rst ∧ t.sys = s.sys ∧ t.pins = s.pins ∧
    t.freeIndex = s.freeIndex ∧ t.pending = s.pending := by
  induction l generalizing s with
  | nil => simp [State.takeRequests]
  | cons q rest ih =>
    simp only [State.takeRequests]
    split <;> simp [ih]

@[simp] theorem State.queueDueStatus_frame (s : State) : let t := s.queueDueStatus
    t.pfe = s.pfe ∧ t.time = s.time ∧ t.gates = s.gates ∧ t.ecu = s.ecu ∧ t.plt = s.plt ∧ t.rsq = s.rsq ∧ t.bli.stage = s.bli.stage ∧
    t.bli.quiet = s.bli.quiet ∧ t.bli.stuck = s.bli.stuck ∧ t.bli.dominantSince = s.bli.dominantSince ∧
    t.bli.afterStuck = s.bli.afterStuck ∧ t.bli.low = s.bli.low ∧ t.bli.unseen = s.bli.unseen ∧ t.bli.buffer = s.bli.buffer ∧
    t.bli.coord = s.bli.coord ∧ t.bli.waiting = s.bli.waiting ∧ t.bli.attempt = s.bli.attempt ∧ t.bli.w = s.bli.w ∧
    t.bli.lineErrors = s.bli.lineErrors ∧ t.bli.overruns = s.bli.overruns ∧ t.bli.lost = s.bli.lost ∧ t.bli.strays = s.bli.strays ∧
    t.rrp.queue = s.rrp.queue ∧ t.rrp.tq = s.rrp.tq ∧ t.rrp.td = s.rrp.td ∧ t.rrp.delay = s.rrp.delay ∧ t.rrp.call = s.rrp.call ∧
    t.rrp.drops = s.rrp.drops ∧ t.rrp.flags = s.rrp.flags ∧ t.rrp.mask = s.rrp.mask ∧ t.rrp.lastRefusal = s.rrp.lastRefusal ∧
    t.seu = s.seu ∧ t.rst = s.rst ∧ t.sys = s.sys ∧ t.pins = s.pins ∧ t.freeIndex = s.freeIndex ∧ t.pending = s.pending := by
  simp only [State.queueDueStatus]
  repeat' first | (simp; done) | split

@[simp] theorem State.reportLeft_frame (s : State) : let t := s.reportLeft
    t.pfe = s.pfe ∧ t.time = s.time ∧ t.gates = s.gates ∧ t.ecu = s.ecu ∧ t.plt = s.plt ∧ t.rsq = s.rsq ∧ t.bli.stage = s.bli.stage ∧
    t.bli.quiet = s.bli.quiet ∧ t.bli.stuck = s.bli.stuck ∧ t.bli.dominantSince = s.bli.dominantSince ∧
    t.bli.afterStuck = s.bli.afterStuck ∧ t.bli.low = s.bli.low ∧ t.bli.unseen = s.bli.unseen ∧ t.bli.coord = s.bli.coord ∧
    t.bli.waiting = s.bli.waiting ∧ t.bli.attempt = s.bli.attempt ∧ t.bli.w = s.bli.w ∧ t.bli.lineErrors = s.bli.lineErrors ∧
    t.bli.overruns = s.bli.overruns ∧ t.bli.lost = s.bli.lost ∧ t.bli.strays = s.bli.strays ∧ t.rrp.tq = s.rrp.tq ∧ t.rrp.td = s.rrp.td ∧
    t.rrp.flags = s.rrp.flags ∧ t.rrp.mask = s.rrp.mask ∧ t.seu = s.seu ∧ t.rst = s.rst ∧ t.sys = s.sys ∧ t.pins = s.pins ∧
    t.freeIndex = s.freeIndex ∧ t.pending = s.pending := by
  simp only [State.reportLeft]
  repeat' first | (simp; done) | split

/-! ### Receive -/

/-- A change of the line touches the line's level, the quiet count and the 1 ms after a stuck stretch alone. -/
theorem Bli.edge_eq (b : Bli) (e : LineEdge) : b.edge e =
    { b with low := (b.edge e).low, unseen := (b.edge e).unseen, quiet := (b.edge e).quiet, afterStuck := (b.edge e).afterStuck } := by
  simp only [Bli.edge, Bli.goesDominant, Bli.goesRecessive]
  repeat' first | rfl | split

theorem Bli.edges_eq (b : Bli) (line : List LineEdge) : let c := line.foldl Bli.edge b
    c = { b with low := c.low, unseen := c.unseen, quiet := c.quiet, afterStuck := c.afterStuck } := by
  induction line generalizing b with
  | nil => rfl
  | cons e rest ih =>
    simp only [List.foldl_cons]
    exact (ih (b.edge e)).trans (by rw [Bli.edge_eq b e])

theorem Bli.see_eq (b : Bli) (line : List LineEdge) : let c := b.see line
    c = { b with low := c.low, unseen := c.unseen, quiet := c.quiet, afterStuck := c.afterStuck } := by
  simp only [Bli.see]
  split
  · rw [Bli.edges_eq b line]
  · exact Bli.edges_eq b line

@[simp] theorem Bli.see_frame (b : Bli) (line : List LineEdge) : let c := b.see line
    c.stage = b.stage ∧ c.stuck = b.stuck ∧ c.dominantSince = b.dominantSince ∧ c.buffer = b.buffer ∧ c.coord = b.coord ∧
    c.report = b.report ∧ c.waiting = b.waiting ∧ c.attempt = b.attempt ∧ c.w = b.w ∧ c.lineErrors = b.lineErrors ∧
    c.overruns = b.overruns ∧ c.lost = b.lost ∧ c.strays = b.strays := by
  simp only []
  rw [Bli.see_eq b line]
  simp

@[simp] theorem State.see_frame (s : State) (line : List LineEdge) : let t := s.see line
    t.pfe = s.pfe ∧ t.time = s.time ∧ t.gates = s.gates ∧ t.ecu = s.ecu ∧ t.plt = s.plt ∧ t.rsq = s.rsq ∧ t.bli.stage = s.bli.stage ∧
    t.bli.stuck = s.bli.stuck ∧ t.bli.dominantSince = s.bli.dominantSince ∧ t.bli.buffer = s.bli.buffer ∧ t.bli.coord = s.bli.coord ∧
    t.bli.report = s.bli.report ∧ t.bli.waiting = s.bli.waiting ∧ t.bli.attempt = s.bli.attempt ∧ t.bli.w = s.bli.w ∧
    t.bli.lineErrors = s.bli.lineErrors ∧ t.bli.overruns = s.bli.overruns ∧ t.bli.lost = s.bli.lost ∧ t.bli.strays = s.bli.strays ∧
    t.rrp = s.rrp ∧ t.seu = s.seu ∧ t.rst = s.rst ∧ t.sys = s.sys ∧ t.pins = s.pins ∧ t.freeIndex = s.freeIndex ∧
    t.pending = s.pending := by
  simp [State.see]

@[simp] theorem State.frameEnded_frame (s : State) (length tail ago : Nat) : let t := s.frameEnded length tail ago
    t.pfe = s.pfe ∧ t.time = s.time ∧ t.gates = s.gates ∧ t.ecu = s.ecu ∧ t.plt = s.plt ∧ t.rsq = s.rsq ∧ t.bli.stuck = s.bli.stuck ∧
    t.bli.dominantSince = s.bli.dominantSince ∧ t.bli.buffer = s.bli.buffer ∧ t.bli.coord = s.bli.coord ∧ t.bli.report = s.bli.report ∧
    t.bli.waiting = s.bli.waiting ∧ t.bli.attempt = s.bli.attempt ∧ t.bli.w = s.bli.w ∧ t.bli.lineErrors = s.bli.lineErrors ∧
    t.bli.overruns = s.bli.overruns ∧ t.bli.lost = s.bli.lost ∧ t.bli.strays = s.bli.strays ∧ t.rrp = s.rrp ∧ t.seu = s.seu ∧
    t.rst = s.rst ∧ t.sys = s.sys ∧ t.pins = s.pins ∧ t.freeIndex = s.freeIndex ∧ t.pending = s.pending := by
  simp only [State.frameEnded, State.mapBli, Bli.goesDominant, Bli.goesRecessive]
  repeat' first | (simp; done) | split

@[simp] theorem State.charactersEnded_frame (s : State) (bytes : List Byte) (ago : Nat) : let t := s.charactersEnded bytes ago
    t.pfe = s.pfe ∧ t.time = s.time ∧ t.gates = s.gates ∧ t.ecu = s.ecu ∧ t.plt = s.plt ∧ t.rsq = s.rsq ∧ t.bli.stuck = s.bli.stuck ∧
    t.bli.dominantSince = s.bli.dominantSince ∧ t.bli.buffer = s.bli.buffer ∧ t.bli.coord = s.bli.coord ∧ t.bli.report = s.bli.report ∧
    t.bli.waiting = s.bli.waiting ∧ t.bli.attempt = s.bli.attempt ∧ t.bli.w = s.bli.w ∧ t.bli.lineErrors = s.bli.lineErrors ∧
    t.bli.overruns = s.bli.overruns ∧ t.bli.lost = s.bli.lost ∧ t.bli.strays = s.bli.strays ∧ t.rrp = s.rrp ∧ t.seu = s.seu ∧
    t.rst = s.rst ∧ t.sys = s.sys ∧ t.pins = s.pins ∧ t.freeIndex = s.freeIndex ∧ t.pending = s.pending := by
  simp only [State.charactersEnded]
  repeat' first | (simp; done) | split

@[simp] theorem State.lineError_frame (s : State) : let t := s.lineError
    t.pfe = s.pfe ∧ t.time = s.time ∧ t.gates = s.gates ∧ t.ecu = s.ecu ∧ t.plt = s.plt ∧ t.rsq = s.rsq ∧ t.bli.stage = s.bli.stage ∧
    t.bli.quiet = s.bli.quiet ∧ t.bli.stuck = s.bli.stuck ∧ t.bli.dominantSince = s.bli.dominantSince ∧
    t.bli.afterStuck = s.bli.afterStuck ∧ t.bli.low = s.bli.low ∧ t.bli.unseen = s.bli.unseen ∧ t.bli.buffer = s.bli.buffer ∧
    t.bli.coord = s.bli.coord ∧ t.bli.waiting = s.bli.waiting ∧ t.bli.attempt = s.bli.attempt ∧ t.bli.w = s.bli.w ∧
    t.bli.overruns = s.bli.overruns ∧ t.bli.lost = s.bli.lost ∧ t.bli.strays = s.bli.strays ∧ t.rrp.queue = s.rrp.queue ∧
    t.rrp.tq = s.rrp.tq ∧ t.rrp.td = s.rrp.td ∧ t.rrp.delay = s.rrp.delay ∧ t.rrp.call = s.rrp.call ∧ t.rrp.drops = s.rrp.drops ∧
    t.rrp.mask = s.rrp.mask ∧ t.rrp.lastRefusal = s.rrp.lastRefusal ∧ t.seu = s.seu ∧ t.rst = s.rst ∧ t.sys = s.sys ∧ t.pins = s.pins ∧
    t.freeIndex = s.freeIndex ∧ t.pending = s.pending := by
  simp only [State.lineError]
  repeat' first | (simp; done) | split

@[simp] theorem State.receiveError_frame (s : State) : let t := s.receiveError
    t.pfe = s.pfe ∧ t.time = s.time ∧ t.gates = s.gates ∧ t.ecu = s.ecu ∧ t.plt = s.plt ∧ t.rsq = s.rsq ∧ t.bli.stuck = s.bli.stuck ∧
    t.bli.dominantSince = s.bli.dominantSince ∧ t.bli.buffer = s.bli.buffer ∧ t.bli.coord = s.bli.coord ∧ t.bli.waiting = s.bli.waiting ∧
    t.bli.attempt = s.bli.attempt ∧ t.bli.w = s.bli.w ∧ t.bli.overruns = s.bli.overruns ∧ t.bli.lost = s.bli.lost ∧
    t.bli.strays = s.bli.strays ∧ t.rrp.queue = s.rrp.queue ∧ t.rrp.tq = s.rrp.tq ∧ t.rrp.td = s.rrp.td ∧ t.rrp.delay = s.rrp.delay ∧
    t.rrp.call = s.rrp.call ∧ t.rrp.drops = s.rrp.drops ∧ t.rrp.mask = s.rrp.mask ∧ t.rrp.lastRefusal = s.rrp.lastRefusal ∧ t.seu = s.seu ∧
    t.rst = s.rst ∧ t.sys = s.sys ∧ t.pins = s.pins ∧ t.freeIndex = s.freeIndex ∧ t.pending = s.pending := by
  simp only [State.receiveError]
  repeat' first | (simp; done) | split

@[simp] theorem State.enterClashed_frame (s : State) : let t := s.enterClashed
    t.pfe.settings = s.pfe.settings ∧ t.pfe.rf0 = s.pfe.rf0 ∧ t.pfe.rf1 = s.pfe.rf1 ∧ t.pfe.zc = s.pfe.zc ∧ t.time = s.time ∧
    t.ecu.copy = s.ecu.copy ∧ t.ecu.acc = s.ecu.acc ∧ t.ecu.outcomes = s.ecu.outcomes ∧ t.plt = s.plt ∧ t.rsq.run = s.rsq.run ∧
    t.rsq.seq = s.rsq.seq ∧ t.rsq.desc = s.rsq.desc ∧ t.rsq.roster = s.rsq.roster ∧ t.rsq.enrolSent = s.rsq.enrolSent ∧
    t.rsq.settle = s.rsq.settle ∧ t.rsq.received = s.rsq.received ∧ t.rsq.figure = s.rsq.figure ∧ t.rsq.tally = s.rsq.tally ∧
    t.bli.stage = s.bli.stage ∧ t.bli.quiet = s.bli.quiet ∧ t.bli.stuck = s.bli.stuck ∧ t.bli.dominantSince = s.bli.dominantSince ∧
    t.bli.afterStuck = s.bli.afterStuck ∧ t.bli.low = s.bli.low ∧ t.bli.unseen = s.bli.unseen ∧ t.bli.w = s.bli.w ∧
    t.bli.lineErrors = s.bli.lineErrors ∧ t.bli.overruns = s.bli.overruns ∧ t.bli.lost = s.bli.lost ∧ t.bli.strays = s.bli.strays ∧
    t.rrp.tq = s.rrp.tq ∧ t.rrp.td = s.rrp.td ∧ t.rrp.mask = s.rrp.mask ∧ t.seu.enable = s.seu.enable ∧ t.seu.block = s.seu.block ∧
    t.seu.watermark = s.seu.watermark ∧ t.seu.strokeTimeout = s.seu.strokeTimeout ∧ t.seu.voids = s.seu.voids ∧ t.seu.press = s.seu.press ∧
    t.seu.strokeTimer = s.seu.strokeTimer ∧ t.seu.seenInactive = s.seu.seenInactive ∧ t.seu.lamps = s.seu.lamps ∧
    t.seu.reject = s.seu.reject ∧ t.seu.rejectTimer = s.seu.rejectTimer ∧ t.seu.aborted = s.seu.aborted ∧ t.rst.slots = s.rst.slots ∧
    t.rst.damaged = s.rst.damaged ∧ t.sys = s.sys ∧ t.pins = s.pins ∧ t.freeIndex = s.freeIndex ∧ t.pending = s.pending := by
  simp only [State.enterClashed]
  repeat' first | (simp; done) | (simp [MeterInput.settings]; done) | (simp [Pfe.settings]; done) | split

@[simp] theorem State.clash_frame (s : State) : let t := s.clash
    t.pfe.settings = s.pfe.settings ∧ t.pfe.rf0 = s.pfe.rf0 ∧ t.pfe.rf1 = s.pfe.rf1 ∧ t.pfe.zc = s.pfe.zc ∧ t.time = s.time ∧
    t.ecu.copy = s.ecu.copy ∧ t.ecu.acc = s.ecu.acc ∧ t.ecu.outcomes = s.ecu.outcomes ∧ t.plt = s.plt ∧ t.rsq.run = s.rsq.run ∧
    t.rsq.seq = s.rsq.seq ∧ t.rsq.desc = s.rsq.desc ∧ t.rsq.roster = s.rsq.roster ∧ t.rsq.enrolSent = s.rsq.enrolSent ∧
    t.rsq.settle = s.rsq.settle ∧ t.rsq.received = s.rsq.received ∧ t.rsq.figure = s.rsq.figure ∧ t.rsq.tally = s.rsq.tally ∧
    t.bli.stage = s.bli.stage ∧ t.bli.quiet = s.bli.quiet ∧ t.bli.stuck = s.bli.stuck ∧ t.bli.dominantSince = s.bli.dominantSince ∧
    t.bli.afterStuck = s.bli.afterStuck ∧ t.bli.low = s.bli.low ∧ t.bli.unseen = s.bli.unseen ∧ t.bli.w = s.bli.w ∧
    t.bli.lineErrors = s.bli.lineErrors ∧ t.bli.overruns = s.bli.overruns ∧ t.bli.lost = s.bli.lost ∧ t.bli.strays = s.bli.strays ∧
    t.rrp.tq = s.rrp.tq ∧ t.rrp.td = s.rrp.td ∧ t.rrp.mask = s.rrp.mask ∧ t.seu.enable = s.seu.enable ∧ t.seu.block = s.seu.block ∧
    t.seu.watermark = s.seu.watermark ∧ t.seu.strokeTimeout = s.seu.strokeTimeout ∧ t.seu.voids = s.seu.voids ∧ t.seu.press = s.seu.press ∧
    t.seu.strokeTimer = s.seu.strokeTimer ∧ t.seu.seenInactive = s.seu.seenInactive ∧ t.seu.lamps = s.seu.lamps ∧
    t.seu.reject = s.seu.reject ∧ t.seu.rejectTimer = s.seu.rejectTimer ∧ t.seu.aborted = s.seu.aborted ∧ t.rst.slots = s.rst.slots ∧
    t.rst.damaged = s.rst.damaged ∧ t.sys = s.sys ∧ t.pins = s.pins ∧ t.freeIndex = s.freeIndex ∧ t.pending = s.pending := by
  simp only [State.clash]
  repeat' first | (simp; done) | (simp [MeterInput.settings]; done) | (simp [Pfe.settings]; done) | split

@[simp] theorem State.bufferFrame_frame (s : State) (f : RxFrame) : let t := s.bufferFrame f
    t.pfe = s.pfe ∧ t.time = s.time ∧ t.gates = s.gates ∧ t.ecu = s.ecu ∧ t.plt = s.plt ∧ t.rsq = s.rsq ∧ t.bli.stage = s.bli.stage ∧
    t.bli.quiet = s.bli.quiet ∧ t.bli.stuck = s.bli.stuck ∧ t.bli.dominantSince = s.bli.dominantSince ∧
    t.bli.afterStuck = s.bli.afterStuck ∧ t.bli.low = s.bli.low ∧ t.bli.unseen = s.bli.unseen ∧ t.bli.coord = s.bli.coord ∧
    t.bli.waiting = s.bli.waiting ∧ t.bli.attempt = s.bli.attempt ∧ t.bli.w = s.bli.w ∧ t.bli.lineErrors = s.bli.lineErrors ∧
    t.bli.lost = s.bli.lost ∧ t.bli.strays = s.bli.strays ∧ t.rrp.queue = s.rrp.queue ∧ t.rrp.tq = s.rrp.tq ∧ t.rrp.td = s.rrp.td ∧
    t.rrp.delay = s.rrp.delay ∧ t.rrp.call = s.rrp.call ∧ t.rrp.drops = s.rrp.drops ∧ t.rrp.mask = s.rrp.mask ∧
    t.rrp.lastRefusal = s.rrp.lastRefusal ∧ t.seu = s.seu ∧ t.rst = s.rst ∧ t.sys = s.sys ∧ t.pins = s.pins ∧ t.freeIndex = s.freeIndex ∧
    t.pending = s.pending := by
  simp only [State.bufferFrame]
  repeat' first | (simp; done) | split

@[simp] theorem State.heard_frame (s : State) (f : RxFrame) : let t := s.heard f
    t.pfe = s.pfe ∧ t.time = s.time ∧ t.gates = s.gates ∧ t.ecu = s.ecu ∧ t.plt = s.plt ∧ t.rsq = s.rsq ∧ t.bli.stage = s.bli.stage ∧
    t.bli.quiet = s.bli.quiet ∧ t.bli.stuck = s.bli.stuck ∧ t.bli.dominantSince = s.bli.dominantSince ∧
    t.bli.afterStuck = s.bli.afterStuck ∧ t.bli.low = s.bli.low ∧ t.bli.unseen = s.bli.unseen ∧ t.bli.buffer = s.bli.buffer ∧
    t.bli.coord = s.bli.coord ∧ t.bli.report = s.bli.report ∧ t.bli.waiting = s.bli.waiting ∧ t.bli.attempt = s.bli.attempt ∧
    t.bli.lineErrors = s.bli.lineErrors ∧ t.bli.overruns = s.bli.overruns ∧ t.bli.lost = s.bli.lost ∧ t.bli.strays = s.bli.strays ∧
    t.rrp = s.rrp ∧ t.seu = s.seu ∧ t.rst = s.rst ∧ t.sys = s.sys ∧ t.pins = s.pins ∧ t.freeIndex = s.freeIndex ∧ t.pending = s.pending := by
  simp only [State.heard]
  repeat' first | (simp; done) | split

@[simp] theorem State.takeRequest_frame (s : State) (f : RxFrame) : let t := s.takeRequest f
    t.pfe = s.pfe ∧ t.time = s.time ∧ t.gates = s.gates ∧ t.ecu = s.ecu ∧ t.plt = s.plt ∧ t.rsq = s.rsq ∧ t.bli.stage = s.bli.stage ∧
    t.bli.quiet = s.bli.quiet ∧ t.bli.stuck = s.bli.stuck ∧ t.bli.dominantSince = s.bli.dominantSince ∧
    t.bli.afterStuck = s.bli.afterStuck ∧ t.bli.low = s.bli.low ∧ t.bli.unseen = s.bli.unseen ∧ t.bli.coord = s.bli.coord ∧
    t.bli.waiting = s.bli.waiting ∧ t.bli.attempt = s.bli.attempt ∧ t.bli.w = s.bli.w ∧ t.bli.lineErrors = s.bli.lineErrors ∧
    t.bli.lost = s.bli.lost ∧ t.bli.strays = s.bli.strays ∧ t.rrp.queue = s.rrp.queue ∧ t.rrp.tq = s.rrp.tq ∧ t.rrp.td = s.rrp.td ∧
    t.rrp.delay = s.rrp.delay ∧ t.rrp.call = s.rrp.call ∧ t.rrp.drops = s.rrp.drops ∧ t.rrp.mask = s.rrp.mask ∧ t.seu = s.seu ∧
    t.rst = s.rst ∧ t.sys = s.sys ∧ t.pins = s.pins ∧ t.freeIndex = s.freeIndex ∧ t.pending = s.pending := by
  simp only [State.takeRequest]
  repeat' first | (simp; done) | (simp [MeterInput.settings]; done) | (simp [Pfe.settings]; done) | split

/-! ### Reset -/

@[simp] theorem State.resetWith_frame (s : State) (cause : ResetCause) : let t := s.resetWith cause
    t.rst.lastRecord = s.rst.lastRecord ∧ t.pins = s.pins ∧ t.pending = s.pending := by
  simp only [State.resetWith]
  repeat' first | (simp [State.inReset, Rst.afterReset]; done) | split

@[simp] theorem State.takeRestart_frame (s : State) : let t := s.takeRestart
    t.rst.lastRecord = s.rst.lastRecord ∧ t.pins = s.pins ∧ t.pending = s.pending := by
  simp only [State.takeRestart]
  repeat' first | (simp; done) | split

@[simp] theorem State.startingFrame_frame (s : State) (f : RxFrame) : let t := s.startingFrame f
    t.pfe = s.pfe ∧ t.time = s.time ∧ t.gates = s.gates ∧ t.ecu = s.ecu ∧ t.plt = s.plt ∧ t.rsq = s.rsq ∧ t.bli.stage = s.bli.stage ∧
    t.bli.quiet = s.bli.quiet ∧ t.bli.stuck = s.bli.stuck ∧ t.bli.dominantSince = s.bli.dominantSince ∧
    t.bli.afterStuck = s.bli.afterStuck ∧ t.bli.low = s.bli.low ∧ t.bli.unseen = s.bli.unseen ∧ t.bli.buffer = s.bli.buffer ∧
    t.bli.coord = s.bli.coord ∧ t.bli.report = s.bli.report ∧ t.bli.waiting = s.bli.waiting ∧ t.bli.attempt = s.bli.attempt ∧
    t.bli.lineErrors = s.bli.lineErrors ∧ t.bli.overruns = s.bli.overruns ∧ t.bli.lost = s.bli.lost ∧ t.rrp = s.rrp ∧ t.seu = s.seu ∧
    t.rst = s.rst ∧ t.sys = s.sys ∧ t.pins = s.pins ∧ t.freeIndex = s.freeIndex ∧ t.pending = s.pending := by
  simp only [State.startingFrame]
  repeat' first | (simp; done) | split

@[simp] theorem State.startingHears_frame (s : State) (h : Heard) : let t := s.startingHears h
    t.pfe = s.pfe ∧ t.time = s.time ∧ t.gates = s.gates ∧ t.ecu = s.ecu ∧ t.plt = s.plt ∧ t.rsq = s.rsq ∧ t.bli.stuck = s.bli.stuck ∧
    t.bli.dominantSince = s.bli.dominantSince ∧ t.bli.buffer = s.bli.buffer ∧ t.bli.coord = s.bli.coord ∧ t.bli.waiting = s.bli.waiting ∧
    t.bli.attempt = s.bli.attempt ∧ t.bli.overruns = s.bli.overruns ∧ t.bli.lost = s.bli.lost ∧ t.rrp.queue = s.rrp.queue ∧
    t.rrp.tq = s.rrp.tq ∧ t.rrp.td = s.rrp.td ∧ t.rrp.delay = s.rrp.delay ∧ t.rrp.call = s.rrp.call ∧ t.rrp.drops = s.rrp.drops ∧
    t.rrp.mask = s.rrp.mask ∧ t.rrp.lastRefusal = s.rrp.lastRefusal ∧ t.seu = s.seu ∧ t.rst = s.rst ∧ t.sys = s.sys ∧ t.pins = s.pins ∧
    t.freeIndex = s.freeIndex ∧ t.pending = s.pending := by
  simp only [State.startingHears]
  repeat' first | (simp; done) | split

@[simp] theorem State.startingHears_foldl_frame (s : State) (l : List Heard) : let t := l.foldl State.startingHears s
    t.pfe = s.pfe ∧ t.time = s.time ∧ t.gates = s.gates ∧ t.ecu = s.ecu ∧ t.plt = s.plt ∧ t.rsq = s.rsq ∧ t.bli.stuck = s.bli.stuck ∧
    t.bli.dominantSince = s.bli.dominantSince ∧ t.bli.buffer = s.bli.buffer ∧ t.bli.coord = s.bli.coord ∧ t.bli.waiting = s.bli.waiting ∧
    t.bli.attempt = s.bli.attempt ∧ t.bli.overruns = s.bli.overruns ∧ t.bli.lost = s.bli.lost ∧ t.rrp.queue = s.rrp.queue ∧
    t.rrp.tq = s.rrp.tq ∧ t.rrp.td = s.rrp.td ∧ t.rrp.delay = s.rrp.delay ∧ t.rrp.call = s.rrp.call ∧ t.rrp.drops = s.rrp.drops ∧
    t.rrp.mask = s.rrp.mask ∧ t.rrp.lastRefusal = s.rrp.lastRefusal ∧ t.seu = s.seu ∧ t.rst = s.rst ∧ t.sys = s.sys ∧ t.pins = s.pins ∧
    t.freeIndex = s.freeIndex ∧ t.pending = s.pending := by
  induction l generalizing s with
  | nil => simp
  | cons h rest ih => simp [ih]

@[simp] theorem State.scanStore_frame (s : State) : let t := s.scanStore
    t.pfe = s.pfe ∧ t.time = s.time ∧ t.gates = s.gates ∧ t.ecu = s.ecu ∧ t.plt = s.plt ∧ t.rsq = s.rsq ∧ t.bli.stage = s.bli.stage ∧
    t.bli.quiet = s.bli.quiet ∧ t.bli.stuck = s.bli.stuck ∧ t.bli.dominantSince = s.bli.dominantSince ∧
    t.bli.afterStuck = s.bli.afterStuck ∧ t.bli.low = s.bli.low ∧ t.bli.unseen = s.bli.unseen ∧ t.bli.buffer = s.bli.buffer ∧
    t.bli.coord = s.bli.coord ∧ t.bli.waiting = s.bli.waiting ∧ t.bli.attempt = s.bli.attempt ∧ t.bli.w = s.bli.w ∧
    t.bli.lineErrors = s.bli.lineErrors ∧ t.bli.overruns = s.bli.overruns ∧ t.bli.lost = s.bli.lost ∧ t.bli.strays = s.bli.strays ∧
    t.rrp.queue = s.rrp.queue ∧ t.rrp.tq = s.rrp.tq ∧ t.rrp.td = s.rrp.td ∧ t.rrp.delay = s.rrp.delay ∧ t.rrp.call = s.rrp.call ∧
    t.rrp.drops = s.rrp.drops ∧ t.rrp.mask = s.rrp.mask ∧ t.rrp.lastRefusal = s.rrp.lastRefusal ∧ t.seu = s.seu ∧
    t.rst.slots = s.rst.slots ∧ t.rst.lastRecord = s.rst.lastRecord ∧ t.rst.op = s.rst.op ∧ t.rst.opTimer = s.rst.opTimer ∧
    t.rst.waiting = s.rst.waiting ∧ t.rst.reservation = s.rst.reservation ∧ t.rst.reserveAsked = s.rst.reserveAsked ∧ t.sys = s.sys ∧
    t.pins = s.pins ∧ t.freeIndex = s.freeIndex ∧ t.pending = s.pending := by
  simp only [State.scanStore]
  repeat' first | (simp; done) | split

@[simp] theorem State.startUp_frame (s : State) (address : Nat) (rate : LineRate) (heard : List Heard) : let t := s.startUp address rate heard
    t.pfe = s.pfe ∧ t.time = s.time ∧ t.gates = s.gates ∧ t.ecu = s.ecu ∧ t.plt = s.plt ∧ t.rsq.run = s.rsq.run ∧ t.rsq.seq = s.rsq.seq ∧
    t.rsq.desc = s.rsq.desc ∧ t.rsq.roster = s.rsq.roster ∧ t.rsq.enrolWindow = s.rsq.enrolWindow ∧ t.rsq.allowance = s.rsq.allowance ∧
    t.rsq.barrier = s.rsq.barrier ∧ t.rsq.enrolSent = s.rsq.enrolSent ∧ t.rsq.phase = s.rsq.phase ∧ t.rsq.settle = s.rsq.settle ∧
    t.rsq.received = s.rsq.received ∧ t.rsq.window = s.rsq.window ∧ t.rsq.figure = s.rsq.figure ∧ t.rsq.tally = s.rsq.tally ∧
    t.rsq.verdict = s.rsq.verdict ∧ t.bli.stuck = s.bli.stuck ∧ t.bli.dominantSince = s.bli.dominantSince ∧ t.bli.buffer = s.bli.buffer ∧
    t.bli.coord = s.bli.coord ∧ t.bli.waiting = s.bli.waiting ∧ t.bli.attempt = s.bli.attempt ∧ t.bli.overruns = s.bli.overruns ∧
    t.bli.lost = s.bli.lost ∧ t.rrp.queue = s.rrp.queue ∧ t.rrp.tq = s.rrp.tq ∧ t.rrp.td = s.rrp.td ∧ t.rrp.delay = s.rrp.delay ∧
    t.rrp.call = s.rrp.call ∧ t.rrp.drops = s.rrp.drops ∧ t.rrp.mask = s.rrp.mask ∧ t.rrp.lastRefusal = s.rrp.lastRefusal ∧
    t.seu = s.seu ∧ t.rst.slots = s.rst.slots ∧ t.rst.lastRecord = s.rst.lastRecord ∧ t.rst.op = s.rst.op ∧
    t.rst.opTimer = s.rst.opTimer ∧ t.rst.waiting = s.rst.waiting ∧ t.rst.reservation = s.rst.reservation ∧
    t.rst.reserveAsked = s.rst.reserveAsked ∧ t.sys.cause = s.sys.cause ∧ t.sys.holds = s.sys.holds ∧ t.pins = s.pins ∧
    t.freeIndex = s.freeIndex ∧ t.pending = s.pending := by
  simp only [State.startUp]
  repeat' first | (simp; done) | split

@[simp] theorem State.endReset_frame (s : State) (addr : BitVec 6) (rate : BitVec 2) (heard : List Heard) : let t := s.endReset addr rate heard
    t.pfe = s.pfe ∧ t.time = s.time ∧ t.gates = s.gates ∧ t.ecu = s.ecu ∧ t.plt = s.plt ∧ t.rsq.run = s.rsq.run ∧ t.rsq.seq = s.rsq.seq ∧
    t.rsq.desc = s.rsq.desc ∧ t.rsq.roster = s.rsq.roster ∧ t.rsq.enrolWindow = s.rsq.enrolWindow ∧ t.rsq.allowance = s.rsq.allowance ∧
    t.rsq.barrier = s.rsq.barrier ∧ t.rsq.enrolSent = s.rsq.enrolSent ∧ t.rsq.phase = s.rsq.phase ∧ t.rsq.settle = s.rsq.settle ∧
    t.rsq.received = s.rsq.received ∧ t.rsq.window = s.rsq.window ∧ t.rsq.figure = s.rsq.figure ∧ t.rsq.tally = s.rsq.tally ∧
    t.rsq.verdict = s.rsq.verdict ∧ t.bli.stuck = s.bli.stuck ∧ t.bli.dominantSince = s.bli.dominantSince ∧ t.bli.buffer = s.bli.buffer ∧
    t.bli.coord = s.bli.coord ∧ t.bli.waiting = s.bli.waiting ∧ t.bli.attempt = s.bli.attempt ∧ t.bli.overruns = s.bli.overruns ∧
    t.bli.lost = s.bli.lost ∧ t.rrp.queue = s.rrp.queue ∧ t.rrp.tq = s.rrp.tq ∧ t.rrp.td = s.rrp.td ∧ t.rrp.delay = s.rrp.delay ∧
    t.rrp.call = s.rrp.call ∧ t.rrp.drops = s.rrp.drops ∧ t.rrp.mask = s.rrp.mask ∧ t.rrp.lastRefusal = s.rrp.lastRefusal ∧
    t.seu = s.seu ∧ t.rst.slots = s.rst.slots ∧ t.rst.lastRecord = s.rst.lastRecord ∧ t.rst.op = s.rst.op ∧
    t.rst.opTimer = s.rst.opTimer ∧ t.rst.waiting = s.rst.waiting ∧ t.rst.reservation = s.rst.reservation ∧
    t.rst.reserveAsked = s.rst.reserveAsked ∧ t.sys.cause = s.sys.cause ∧ t.sys.holds = s.sys.holds ∧ t.pins = s.pins ∧
    t.freeIndex = s.freeIndex ∧ t.pending = s.pending := by
  simp only [State.endReset]
  repeat' first | (simp; done) | split

/-! ### Transmit -/

@[simp] theorem State.sendCoord_frame (s : State) (f : CoordFrame) (list : List Nat) (serial : Nat) : let t := s.sendCoord f list serial
    t.pfe = s.pfe ∧ t.time = s.time ∧ t.gates = s.gates ∧ t.ecu = s.ecu ∧ t.plt = s.plt ∧ t.rsq = s.rsq ∧ t.bli.stage = s.bli.stage ∧
    t.bli.stuck = s.bli.stuck ∧ t.bli.dominantSince = s.bli.dominantSince ∧
    t.bli.buffer = s.bli.buffer ∧ t.bli.coord = s.bli.coord ∧ t.bli.report = s.bli.report ∧ t.bli.waiting = s.bli.waiting ∧
    t.bli.w = s.bli.w ∧ t.bli.lineErrors = s.bli.lineErrors ∧ t.bli.overruns = s.bli.overruns ∧ t.bli.lost = s.bli.lost ∧
    t.bli.strays = s.bli.strays ∧ t.rrp = s.rrp ∧ t.seu = s.seu ∧ t.rst = s.rst ∧ t.sys = s.sys ∧ t.pins = s.pins ∧
    t.freeIndex = s.freeIndex ∧ t.pending = s.pending := by
  simp only [State.sendCoord]
  repeat' first | (simp [Bli.begin]; done) | split

@[simp] theorem State.sendReport_frame (s : State) (f : ReportFrame) : let t := s.sendReport f
    t.pfe = s.pfe ∧ t.time = s.time ∧ t.gates = s.gates ∧ t.ecu = s.ecu ∧ t.plt = s.plt ∧ t.rsq = s.rsq ∧ t.bli.stage = s.bli.stage ∧
    t.bli.stuck = s.bli.stuck ∧ t.bli.dominantSince = s.bli.dominantSince ∧
    t.bli.buffer = s.bli.buffer ∧ t.bli.coord = s.bli.coord ∧ t.bli.report = s.bli.report ∧ t.bli.waiting = s.bli.waiting ∧
    t.bli.w = s.bli.w ∧ t.bli.lineErrors = s.bli.lineErrors ∧ t.bli.overruns = s.bli.overruns ∧ t.bli.lost = s.bli.lost ∧
    t.bli.strays = s.bli.strays ∧ t.rrp = s.rrp ∧ t.seu = s.seu ∧ t.rst = s.rst ∧ t.sys = s.sys ∧ t.pins = s.pins ∧
    t.freeIndex = s.freeIndex ∧ t.pending = s.pending := by
  simp only [State.sendReport]
  repeat' first | (simp [Bli.begin]; done) | split

@[simp] theorem State.dropHead_frame (s : State) : let t := s.dropHead
    t.pfe = s.pfe ∧ t.time = s.time ∧ t.gates = s.gates ∧ t.ecu = s.ecu ∧ t.plt = s.plt ∧ t.rsq = s.rsq ∧ t.bli.stage = s.bli.stage ∧
    t.bli.quiet = s.bli.quiet ∧ t.bli.stuck = s.bli.stuck ∧ t.bli.dominantSince = s.bli.dominantSince ∧
    t.bli.afterStuck = s.bli.afterStuck ∧ t.bli.low = s.bli.low ∧ t.bli.unseen = s.bli.unseen ∧ t.bli.buffer = s.bli.buffer ∧
    t.bli.report = s.bli.report ∧ t.bli.attempt = s.bli.attempt ∧ t.bli.w = s.bli.w ∧ t.bli.lineErrors = s.bli.lineErrors ∧
    t.bli.overruns = s.bli.overruns ∧ t.bli.lost = s.bli.lost ∧ t.bli.strays = s.bli.strays ∧ t.rrp = s.rrp ∧ t.seu = s.seu ∧
    t.rst = s.rst ∧ t.sys = s.sys ∧ t.pins = s.pins ∧ t.freeIndex = s.freeIndex ∧ t.pending = s.pending := by
  simp only [State.dropHead]
  repeat' first | (simp [Bli.refill]; done) | split

@[simp] theorem State.formAttempt_frame (s : State) (fuel : Nat) : let t := s.formAttempt fuel
    t.pfe = s.pfe ∧ t.time = s.time ∧ t.gates = s.gates ∧ t.ecu = s.ecu ∧ t.plt = s.plt ∧ t.rsq.run = s.rsq.run ∧ t.rsq.seq = s.rsq.seq ∧
    t.rsq.desc = s.rsq.desc ∧ t.rsq.roster = s.rsq.roster ∧ t.rsq.enrolWindow = s.rsq.enrolWindow ∧ t.rsq.allowance = s.rsq.allowance ∧
    t.rsq.barrier = s.rsq.barrier ∧ t.rsq.enrolSent = s.rsq.enrolSent ∧ t.rsq.phase = s.rsq.phase ∧ t.rsq.settle = s.rsq.settle ∧
    t.rsq.received = s.rsq.received ∧ t.rsq.window = s.rsq.window ∧ t.rsq.figure = s.rsq.figure ∧ t.rsq.tally = s.rsq.tally ∧
    t.rsq.verdict = s.rsq.verdict ∧ t.bli.stage = s.bli.stage ∧ t.bli.stuck = s.bli.stuck ∧ t.bli.dominantSince = s.bli.dominantSince ∧
    t.bli.buffer = s.bli.buffer ∧ t.bli.w = s.bli.w ∧ t.bli.lineErrors = s.bli.lineErrors ∧
    t.bli.overruns = s.bli.overruns ∧ t.bli.lost = s.bli.lost ∧ t.bli.strays = s.bli.strays ∧ t.rrp.queue = s.rrp.queue ∧
    t.rrp.tq = s.rrp.tq ∧ t.rrp.td = s.rrp.td ∧ t.rrp.delay = s.rrp.delay ∧ t.rrp.call = s.rrp.call ∧ t.rrp.drops = s.rrp.drops ∧
    t.rrp.mask = s.rrp.mask ∧ t.rrp.lastRefusal = s.rrp.lastRefusal ∧ t.seu.enable = s.seu.enable ∧ t.seu.block = s.seu.block ∧
    t.seu.watermark = s.seu.watermark ∧ t.seu.strokeTimeout = s.seu.strokeTimeout ∧ t.seu.voids = s.seu.voids ∧ t.seu.press = s.seu.press ∧
    t.seu.strokeTimer = s.seu.strokeTimer ∧ t.seu.seenInactive = s.seu.seenInactive ∧ t.seu.lamps = s.seu.lamps ∧
    t.seu.reject = s.seu.reject ∧ t.seu.rejectTimer = s.seu.rejectTimer ∧ t.seu.aborted = s.seu.aborted ∧ t.rst.slots = s.rst.slots ∧
    t.rst.damaged = s.rst.damaged ∧ t.rst.reserveAsked = s.rst.reserveAsked ∧ t.sys = s.sys ∧ t.pins = s.pins ∧ t.freeIndex = s.freeIndex ∧
    t.pending = s.pending := by
  induction fuel generalizing s with
  | zero => simp [State.formAttempt]
  | succ k ih =>
    simp only [State.formAttempt]
    repeat' first | (simp [ih]; done) | split

@[simp] theorem State.enrolWasSent_frame (s : State) (run : Half) : let t := s.enrolWasSent run
    t.pfe.settings = s.pfe.settings ∧ t.pfe.rf0 = s.pfe.rf0 ∧ t.pfe.rf1 = s.pfe.rf1 ∧ t.pfe.zc = s.pfe.zc ∧ t.time = s.time ∧
    t.ecu.copy = s.ecu.copy ∧ t.ecu.acc = s.ecu.acc ∧ t.ecu.outcomes = s.ecu.outcomes ∧ t.plt.plan = s.plt.plan ∧ t.plt.head = s.plt.head ∧
    t.plt.tail = s.plt.tail ∧ t.plt.cyclic = s.plt.cyclic ∧ t.plt.loops = s.plt.loops ∧ t.plt.loop = s.plt.loop ∧ t.rsq.run = s.rsq.run ∧
    t.rsq.settle = s.rsq.settle ∧ t.rsq.received = s.rsq.received ∧ t.rsq.figure = s.rsq.figure ∧ t.rsq.tally = s.rsq.tally ∧
    t.bli.stage = s.bli.stage ∧ t.bli.quiet = s.bli.quiet ∧ t.bli.stuck = s.bli.stuck ∧ t.bli.dominantSince = s.bli.dominantSince ∧
    t.bli.afterStuck = s.bli.afterStuck ∧ t.bli.low = s.bli.low ∧ t.bli.unseen = s.bli.unseen ∧ t.bli.buffer = s.bli.buffer ∧
    t.bli.w = s.bli.w ∧ t.bli.lineErrors = s.bli.lineErrors ∧ t.bli.overruns = s.bli.overruns ∧ t.bli.lost = s.bli.lost ∧
    t.bli.strays = s.bli.strays ∧ t.rrp.queue = s.rrp.queue ∧ t.rrp.tq = s.rrp.tq ∧ t.rrp.td = s.rrp.td ∧ t.rrp.delay = s.rrp.delay ∧
    t.rrp.call = s.rrp.call ∧ t.rrp.drops = s.rrp.drops ∧ t.rrp.mask = s.rrp.mask ∧ t.rrp.lastRefusal = s.rrp.lastRefusal ∧
    t.seu.enable = s.seu.enable ∧ t.seu.block = s.seu.block ∧ t.seu.watermark = s.seu.watermark ∧
    t.seu.strokeTimeout = s.seu.strokeTimeout ∧ t.seu.voids = s.seu.voids ∧ t.seu.press = s.seu.press ∧
    t.seu.strokeTimer = s.seu.strokeTimer ∧ t.seu.seenInactive = s.seu.seenInactive ∧ t.seu.lamps = s.seu.lamps ∧
    t.seu.reject = s.seu.reject ∧ t.seu.rejectTimer = s.seu.rejectTimer ∧ t.seu.aborted = s.seu.aborted ∧ t.rst.slots = s.rst.slots ∧
    t.rst.damaged = s.rst.damaged ∧ t.rst.reserveAsked = s.rst.reserveAsked ∧ t.sys = s.sys ∧ t.pins = s.pins ∧ t.freeIndex = s.freeIndex ∧
    t.pending = s.pending := by
  simp only [State.enrolWasSent]
  repeat' first | (simp; done) | (simp [MeterInput.settings]; done) | (simp [Pfe.settings]; done) | split

@[simp] theorem State.doneWasSent_frame (s : State) (run : Half) (n : Nat) (figure : Option Nat) : let t := s.doneWasSent run n figure
    t.pfe.settings = s.pfe.settings ∧ t.pfe.rf0 = s.pfe.rf0 ∧ t.pfe.rf1 = s.pfe.rf1 ∧ t.pfe.zc = s.pfe.zc ∧ t.time = s.time ∧
    t.ecu.copy = s.ecu.copy ∧ t.ecu.acc = s.ecu.acc ∧ t.ecu.outcomes = s.ecu.outcomes ∧ t.plt.head = s.plt.head ∧ t.plt.tail = s.plt.tail ∧
    t.plt.cyclic = s.plt.cyclic ∧ t.plt.loops = s.plt.loops ∧ t.rsq.run = s.rsq.run ∧ t.rsq.enrolSent = s.rsq.enrolSent ∧
    t.rsq.settle = s.rsq.settle ∧ t.rsq.figure = s.rsq.figure ∧ t.bli.stage = s.bli.stage ∧ t.bli.quiet = s.bli.quiet ∧
    t.bli.stuck = s.bli.stuck ∧ t.bli.dominantSince = s.bli.dominantSince ∧ t.bli.afterStuck = s.bli.afterStuck ∧ t.bli.low = s.bli.low ∧
    t.bli.unseen = s.bli.unseen ∧ t.bli.buffer = s.bli.buffer ∧ t.bli.w = s.bli.w ∧ t.bli.lineErrors = s.bli.lineErrors ∧
    t.bli.overruns = s.bli.overruns ∧ t.bli.lost = s.bli.lost ∧ t.bli.strays = s.bli.strays ∧ t.rrp.tq = s.rrp.tq ∧ t.rrp.td = s.rrp.td ∧
    t.rrp.mask = s.rrp.mask ∧ t.rrp.lastRefusal = s.rrp.lastRefusal ∧ t.seu.enable = s.seu.enable ∧ t.seu.block = s.seu.block ∧
    t.seu.watermark = s.seu.watermark ∧ t.seu.strokeTimeout = s.seu.strokeTimeout ∧ t.seu.voids = s.seu.voids ∧ t.seu.press = s.seu.press ∧
    t.seu.strokeTimer = s.seu.strokeTimer ∧ t.seu.seenInactive = s.seu.seenInactive ∧ t.seu.lamps = s.seu.lamps ∧
    t.seu.aborted = s.seu.aborted ∧ t.rst.slots = s.rst.slots ∧ t.rst.damaged = s.rst.damaged ∧ t.sys = s.sys ∧ t.pins = s.pins ∧
    t.freeIndex = s.freeIndex ∧ t.pending = s.pending := by
  simp only [State.doneWasSent]
  repeat' first | (simp; done) | (simp [MeterInput.settings]; done) | (simp [Pfe.settings]; done) | split

@[simp] theorem State.lapseWasSent_frame (s : State) (run : Half) (n : Nat) (list : List Nat) : let t := s.lapseWasSent run n list
    t.pfe.settings = s.pfe.settings ∧ t.pfe.rf0 = s.pfe.rf0 ∧ t.pfe.rf1 = s.pfe.rf1 ∧ t.pfe.zc = s.pfe.zc ∧ t.time = s.time ∧
    t.ecu.copy = s.ecu.copy ∧ t.ecu.acc = s.ecu.acc ∧ t.ecu.outcomes = s.ecu.outcomes ∧ t.plt.head = s.plt.head ∧ t.plt.tail = s.plt.tail ∧
    t.plt.cyclic = s.plt.cyclic ∧ t.plt.loops = s.plt.loops ∧ t.rsq.run = s.rsq.run ∧ t.rsq.enrolSent = s.rsq.enrolSent ∧
    t.rsq.settle = s.rsq.settle ∧ t.rsq.figure = s.rsq.figure ∧ t.bli.stage = s.bli.stage ∧ t.bli.quiet = s.bli.quiet ∧
    t.bli.stuck = s.bli.stuck ∧ t.bli.dominantSince = s.bli.dominantSince ∧ t.bli.afterStuck = s.bli.afterStuck ∧ t.bli.low = s.bli.low ∧
    t.bli.unseen = s.bli.unseen ∧ t.bli.buffer = s.bli.buffer ∧ t.bli.w = s.bli.w ∧ t.bli.lineErrors = s.bli.lineErrors ∧
    t.bli.overruns = s.bli.overruns ∧ t.bli.lost = s.bli.lost ∧ t.bli.strays = s.bli.strays ∧ t.rrp.tq = s.rrp.tq ∧ t.rrp.td = s.rrp.td ∧
    t.rrp.mask = s.rrp.mask ∧ t.rrp.lastRefusal = s.rrp.lastRefusal ∧ t.seu.enable = s.seu.enable ∧ t.seu.block = s.seu.block ∧
    t.seu.watermark = s.seu.watermark ∧ t.seu.strokeTimeout = s.seu.strokeTimeout ∧ t.seu.voids = s.seu.voids ∧ t.seu.press = s.seu.press ∧
    t.seu.strokeTimer = s.seu.strokeTimer ∧ t.seu.seenInactive = s.seu.seenInactive ∧ t.seu.lamps = s.seu.lamps ∧
    t.seu.aborted = s.seu.aborted ∧ t.rst.slots = s.rst.slots ∧ t.rst.damaged = s.rst.damaged ∧ t.sys = s.sys ∧ t.pins = s.pins ∧
    t.freeIndex = s.freeIndex ∧ t.pending = s.pending := by
  simp only [State.lapseWasSent]
  repeat' first | (simp; done) | (simp [MeterInput.settings]; done) | (simp [Pfe.settings]; done) | split

@[simp] theorem State.claimWasSent_frame (s : State) (run : Half) (serial : Nat) : let t := s.claimWasSent run serial
    t.pfe = s.pfe ∧ t.time = s.time ∧ t.gates = s.gates ∧ t.ecu = s.ecu ∧ t.plt = s.plt ∧ t.rsq = s.rsq ∧ t.bli = s.bli ∧ t.rrp = s.rrp ∧
    t.seu.enable = s.seu.enable ∧ t.seu.block = s.seu.block ∧ t.seu.strokeTimeout = s.seu.strokeTimeout ∧ t.seu.voids = s.seu.voids ∧
    t.seu.press = s.seu.press ∧ t.seu.strokeTimer = s.seu.strokeTimer ∧ t.seu.seenInactive = s.seu.seenInactive ∧
    t.seu.outcome = s.seu.outcome ∧ t.seu.lamps = s.seu.lamps ∧ t.seu.reject = s.seu.reject ∧ t.seu.rejectTimer = s.seu.rejectTimer ∧
    t.seu.aborted = s.seu.aborted ∧ t.rst = s.rst ∧ t.sys = s.sys ∧ t.pins = s.pins ∧ t.freeIndex = s.freeIndex ∧
    t.pending = s.pending := by
  simp only [State.claimWasSent]
  repeat' first | (simp; done) | split

@[simp] theorem State.coordWasSent_frame (s : State) (f : CoordFrame) (a : Attempt) : let t := s.coordWasSent f a
    t.pfe.settings = s.pfe.settings ∧ t.pfe.rf0 = s.pfe.rf0 ∧ t.pfe.rf1 = s.pfe.rf1 ∧ t.pfe.zc = s.pfe.zc ∧ t.time = s.time ∧
    t.ecu.copy = s.ecu.copy ∧ t.ecu.acc = s.ecu.acc ∧ t.ecu.outcomes = s.ecu.outcomes ∧ t.plt.head = s.plt.head ∧ t.plt.tail = s.plt.tail ∧
    t.plt.cyclic = s.plt.cyclic ∧ t.plt.loops = s.plt.loops ∧ t.rsq.run = s.rsq.run ∧ t.rsq.settle = s.rsq.settle ∧
    t.rsq.figure = s.rsq.figure ∧ t.bli.stage = s.bli.stage ∧ t.bli.quiet = s.bli.quiet ∧ t.bli.stuck = s.bli.stuck ∧
    t.bli.dominantSince = s.bli.dominantSince ∧ t.bli.afterStuck = s.bli.afterStuck ∧ t.bli.low = s.bli.low ∧ t.bli.unseen = s.bli.unseen ∧
    t.bli.buffer = s.bli.buffer ∧ t.bli.w = s.bli.w ∧ t.bli.lineErrors = s.bli.lineErrors ∧ t.bli.overruns = s.bli.overruns ∧
    t.bli.lost = s.bli.lost ∧ t.bli.strays = s.bli.strays ∧ t.rrp.tq = s.rrp.tq ∧ t.rrp.td = s.rrp.td ∧ t.rrp.mask = s.rrp.mask ∧
    t.rrp.lastRefusal = s.rrp.lastRefusal ∧ t.seu.enable = s.seu.enable ∧ t.seu.block = s.seu.block ∧
    t.seu.strokeTimeout = s.seu.strokeTimeout ∧ t.seu.voids = s.seu.voids ∧ t.seu.press = s.seu.press ∧
    t.seu.strokeTimer = s.seu.strokeTimer ∧ t.seu.seenInactive = s.seu.seenInactive ∧ t.seu.lamps = s.seu.lamps ∧
    t.seu.aborted = s.seu.aborted ∧ t.rst.slots = s.rst.slots ∧ t.rst.damaged = s.rst.damaged ∧ t.sys = s.sys ∧ t.pins = s.pins ∧
    t.freeIndex = s.freeIndex ∧ t.pending = s.pending := by
  simp only [State.coordWasSent]
  repeat' first | (simp; done) | (simp [MeterInput.settings]; done) | (simp [Pfe.settings]; done) | split

@[simp] theorem State.sendEnds_frame (s : State) (a : Attempt) : let t := s.sendEnds a
    t.pfe.settings = s.pfe.settings ∧ t.pfe.rf0 = s.pfe.rf0 ∧ t.pfe.rf1 = s.pfe.rf1 ∧ t.pfe.zc = s.pfe.zc ∧ t.time = s.time ∧
    t.ecu.copy = s.ecu.copy ∧ t.ecu.acc = s.ecu.acc ∧ t.ecu.outcomes = s.ecu.outcomes ∧ t.plt.head = s.plt.head ∧ t.plt.tail = s.plt.tail ∧
    t.plt.cyclic = s.plt.cyclic ∧ t.plt.loops = s.plt.loops ∧ t.rsq.run = s.rsq.run ∧ t.rsq.settle = s.rsq.settle ∧
    t.rsq.figure = s.rsq.figure ∧ t.bli.stuck = s.bli.stuck ∧ t.bli.dominantSince = s.bli.dominantSince ∧
    t.bli.lineErrors = s.bli.lineErrors ∧ t.bli.overruns = s.bli.overruns ∧ t.bli.lost = s.bli.lost ∧ t.bli.strays = s.bli.strays ∧
    t.rrp.tq = s.rrp.tq ∧ t.rrp.td = s.rrp.td ∧ t.rrp.mask = s.rrp.mask ∧ t.seu.enable = s.seu.enable ∧ t.seu.block = s.seu.block ∧
    t.seu.strokeTimeout = s.seu.strokeTimeout ∧ t.seu.voids = s.seu.voids ∧ t.seu.press = s.seu.press ∧
    t.seu.strokeTimer = s.seu.strokeTimer ∧ t.seu.seenInactive = s.seu.seenInactive ∧ t.seu.lamps = s.seu.lamps ∧
    t.seu.aborted = s.seu.aborted ∧ t.rst.slots = s.rst.slots ∧ t.rst.damaged = s.rst.damaged ∧ t.sys = s.sys ∧ t.pins = s.pins ∧
    t.freeIndex = s.freeIndex ∧ t.pending = s.pending := by
  simp only [State.sendEnds]
  repeat' first | (simp; done) | (simp [MeterInput.settings]; done) | (simp [Pfe.settings]; done) | split

@[simp] theorem State.removeWithdrawn_frame (s : State) (a : Attempt) : let t := s.removeWithdrawn a
    t.pfe = s.pfe ∧ t.time = s.time ∧ t.gates = s.gates ∧ t.ecu = s.ecu ∧ t.plt = s.plt ∧ t.rsq.run = s.rsq.run ∧ t.rsq.seq = s.rsq.seq ∧
    t.rsq.desc = s.rsq.desc ∧ t.rsq.enrolWindow = s.rsq.enrolWindow ∧ t.rsq.allowance = s.rsq.allowance ∧ t.rsq.barrier = s.rsq.barrier ∧
    t.rsq.enrolSent = s.rsq.enrolSent ∧ t.rsq.phase = s.rsq.phase ∧ t.rsq.settle = s.rsq.settle ∧ t.rsq.received = s.rsq.received ∧
    t.rsq.window = s.rsq.window ∧ t.rsq.figure = s.rsq.figure ∧ t.rsq.tally = s.rsq.tally ∧ t.rsq.verdict = s.rsq.verdict ∧
    t.bli.stage = s.bli.stage ∧ t.bli.quiet = s.bli.quiet ∧ t.bli.stuck = s.bli.stuck ∧ t.bli.dominantSince = s.bli.dominantSince ∧
    t.bli.afterStuck = s.bli.afterStuck ∧ t.bli.low = s.bli.low ∧ t.bli.unseen = s.bli.unseen ∧ t.bli.buffer = s.bli.buffer ∧
    t.bli.report = s.bli.report ∧ t.bli.attempt = s.bli.attempt ∧ t.bli.w = s.bli.w ∧ t.bli.lineErrors = s.bli.lineErrors ∧
    t.bli.overruns = s.bli.overruns ∧ t.bli.lost = s.bli.lost ∧ t.bli.strays = s.bli.strays ∧ t.rrp = s.rrp ∧ t.seu = s.seu ∧
    t.rst = s.rst ∧ t.sys = s.sys ∧ t.pins = s.pins ∧ t.freeIndex = s.freeIndex ∧ t.pending = s.pending := by
  simp only [State.removeWithdrawn]
  repeat' first | (simp; done) | split

@[simp] theorem State.attemptLost_frame (s : State) (a : Attempt) (low : Bool) (quiet : Nat) : let t := s.attemptLost a low quiet
    t.pfe = s.pfe ∧ t.time = s.time ∧ t.gates = s.gates ∧ t.ecu = s.ecu ∧ t.plt = s.plt ∧ t.rsq.run = s.rsq.run ∧ t.rsq.seq = s.rsq.seq ∧
    t.rsq.desc = s.rsq.desc ∧ t.rsq.enrolWindow = s.rsq.enrolWindow ∧ t.rsq.allowance = s.rsq.allowance ∧ t.rsq.barrier = s.rsq.barrier ∧
    t.rsq.enrolSent = s.rsq.enrolSent ∧ t.rsq.phase = s.rsq.phase ∧ t.rsq.settle = s.rsq.settle ∧ t.rsq.received = s.rsq.received ∧
    t.rsq.window = s.rsq.window ∧ t.rsq.figure = s.rsq.figure ∧ t.rsq.tally = s.rsq.tally ∧ t.rsq.verdict = s.rsq.verdict ∧
    t.bli.stuck = s.bli.stuck ∧ t.bli.dominantSince = s.bli.dominantSince ∧ t.bli.buffer = s.bli.buffer ∧ t.bli.report = s.bli.report ∧
    t.bli.w = s.bli.w ∧ t.bli.lineErrors = s.bli.lineErrors ∧ t.bli.overruns = s.bli.overruns ∧ t.bli.lost = s.bli.lost ∧
    t.bli.strays = s.bli.strays ∧ t.rrp = s.rrp ∧ t.seu = s.seu ∧ t.rst = s.rst ∧ t.sys = s.sys ∧ t.pins = s.pins ∧
    t.freeIndex = s.freeIndex ∧ t.pending = s.pending := by
  simp only [State.attemptLost]
  repeat' first | (simp; done) | split

@[simp] theorem State.lineLost_frame (s : State) (a : Attempt) : let t := s.lineLost a
    t.pfe = s.pfe ∧ t.time = s.time ∧ t.gates = s.gates ∧ t.ecu = s.ecu ∧ t.plt = s.plt ∧ t.rsq.run = s.rsq.run ∧ t.rsq.seq = s.rsq.seq ∧
    t.rsq.desc = s.rsq.desc ∧ t.rsq.enrolWindow = s.rsq.enrolWindow ∧ t.rsq.allowance = s.rsq.allowance ∧ t.rsq.barrier = s.rsq.barrier ∧
    t.rsq.enrolSent = s.rsq.enrolSent ∧ t.rsq.phase = s.rsq.phase ∧ t.rsq.settle = s.rsq.settle ∧ t.rsq.received = s.rsq.received ∧
    t.rsq.window = s.rsq.window ∧ t.rsq.figure = s.rsq.figure ∧ t.rsq.tally = s.rsq.tally ∧ t.rsq.verdict = s.rsq.verdict ∧
    t.bli.stuck = s.bli.stuck ∧ t.bli.dominantSince = s.bli.dominantSince ∧ t.bli.buffer = s.bli.buffer ∧ t.bli.report = s.bli.report ∧
    t.bli.w = s.bli.w ∧ t.bli.lineErrors = s.bli.lineErrors ∧ t.bli.overruns = s.bli.overruns ∧ t.bli.strays = s.bli.strays ∧
    t.rrp = s.rrp ∧ t.seu = s.seu ∧ t.rst = s.rst ∧ t.sys = s.sys ∧ t.pins = s.pins ∧ t.freeIndex = s.freeIndex ∧
    t.pending = s.pending := by
  simp only [State.lineLost]
  repeat' first | (simp; done) | (simp [MeterInput.settings]; done) | (simp [Pfe.settings]; done) | split

/-! ### PulseCommands -/

@[simp] theorem State.mapZc_frame (s : State) (f : Zc → Zc) : let t := s.mapZc f
    t.pfe.settings = s.pfe.settings ∧ t.pfe.meters = s.pfe.meters ∧ t.pfe.rf0 = s.pfe.rf0 ∧ t.pfe.rf1 = s.pfe.rf1 ∧ t.time = s.time ∧
    t.gates = s.gates ∧ t.ecu = s.ecu ∧ t.plt = s.plt ∧ t.rsq = s.rsq ∧ t.bli = s.bli ∧ t.rrp = s.rrp ∧ t.seu = s.seu ∧ t.rst = s.rst ∧
    t.sys = s.sys ∧ t.pins = s.pins ∧ t.freeIndex = s.freeIndex ∧ t.pending = s.pending := by
  simp only [State.mapZc]
  repeat' first | (simp; done) | (simp [MeterInput.settings]; done) | (simp [Pfe.settings]; done) | split

@[simp] theorem State.zcEdge_frame (s : State) (since : Option Nat) : let t := s.zcEdge since
    t.pfe.settings = s.pfe.settings ∧ t.pfe.rf0 = s.pfe.rf0 ∧ t.pfe.rf1 = s.pfe.rf1 ∧ t.time = s.time ∧ t.plt = s.plt ∧
    t.rsq.run = s.rsq.run ∧ t.rsq.seq = s.rsq.seq ∧ t.rsq.desc = s.rsq.desc ∧ t.rsq.roster = s.rsq.roster ∧
    t.rsq.enrolWindow = s.rsq.enrolWindow ∧ t.rsq.allowance = s.rsq.allowance ∧ t.rsq.barrier = s.rsq.barrier ∧
    t.rsq.enrolSent = s.rsq.enrolSent ∧ t.rsq.tally = s.rsq.tally ∧ t.rsq.verdict = s.rsq.verdict ∧ t.bli.stage = s.bli.stage ∧
    t.bli.quiet = s.bli.quiet ∧ t.bli.stuck = s.bli.stuck ∧ t.bli.dominantSince = s.bli.dominantSince ∧
    t.bli.afterStuck = s.bli.afterStuck ∧ t.bli.low = s.bli.low ∧ t.bli.unseen = s.bli.unseen ∧ t.bli.buffer = s.bli.buffer ∧
    t.bli.attempt = s.bli.attempt ∧ t.bli.w = s.bli.w ∧ t.bli.lineErrors = s.bli.lineErrors ∧ t.bli.overruns = s.bli.overruns ∧
    t.bli.lost = s.bli.lost ∧ t.bli.strays = s.bli.strays ∧ t.rrp.queue = s.rrp.queue ∧ t.rrp.tq = s.rrp.tq ∧ t.rrp.td = s.rrp.td ∧
    t.rrp.delay = s.rrp.delay ∧ t.rrp.call = s.rrp.call ∧ t.rrp.drops = s.rrp.drops ∧ t.rrp.mask = s.rrp.mask ∧
    t.rrp.lastRefusal = s.rrp.lastRefusal ∧ t.seu = s.seu ∧ t.rst = s.rst ∧ t.sys = s.sys ∧ t.pins = s.pins ∧ t.freeIndex = s.freeIndex ∧
    t.pending = s.pending := by
  simp only [State.zcEdge]
  repeat' first | (simp; done) | (simp [MeterInput.settings]; done) | (simp [Pfe.settings]; done) | split

/-! ### PlanCommands -/

@[simp] theorem State.writeDescriptor_frame (s : State) (i : Nat) (d : Descriptor) : let t := s.writeDescriptor i d
    t.pfe = s.pfe ∧ t.time = s.time ∧ t.gates = s.gates ∧ t.ecu = s.ecu ∧ t.plt.head = s.plt.head ∧ t.plt.tail = s.plt.tail ∧
    t.plt.cyclic = s.plt.cyclic ∧ t.plt.loops = s.plt.loops ∧ t.plt.loop = s.plt.loop ∧ t.plt.fault = s.plt.fault ∧ t.rsq = s.rsq ∧
    t.bli = s.bli ∧ t.rrp = s.rrp ∧ t.seu = s.seu ∧ t.rst = s.rst ∧ t.sys = s.sys ∧ t.pins = s.pins ∧ t.freeIndex = s.freeIndex ∧
    t.pending = s.pending := by
  simp only [State.writeDescriptor]
  repeat' first | (simp; done) | split

@[simp] theorem State.putDescriptor_frame (s : State) (i : Nat) (d : Descriptor) : let t := s.putDescriptor i d
    t.pfe.settings = s.pfe.settings ∧ t.pfe.rf0 = s.pfe.rf0 ∧ t.pfe.rf1 = s.pfe.rf1 ∧ t.pfe.zc = s.pfe.zc ∧ t.time = s.time ∧
    t.ecu.copy = s.ecu.copy ∧ t.ecu.acc = s.ecu.acc ∧ t.ecu.outcomes = s.ecu.outcomes ∧ t.plt.head = s.plt.head ∧ t.plt.tail = s.plt.tail ∧
    t.plt.cyclic = s.plt.cyclic ∧ t.plt.loops = s.plt.loops ∧ t.plt.loop = s.plt.loop ∧ t.rsq.run = s.rsq.run ∧ t.rsq.seq = s.rsq.seq ∧
    t.rsq.desc = s.rsq.desc ∧ t.rsq.enrolSent = s.rsq.enrolSent ∧ t.rsq.settle = s.rsq.settle ∧ t.rsq.received = s.rsq.received ∧
    t.rsq.figure = s.rsq.figure ∧ t.rsq.tally = s.rsq.tally ∧ t.bli.stage = s.bli.stage ∧ t.bli.quiet = s.bli.quiet ∧
    t.bli.stuck = s.bli.stuck ∧ t.bli.dominantSince = s.bli.dominantSince ∧ t.bli.afterStuck = s.bli.afterStuck ∧ t.bli.low = s.bli.low ∧
    t.bli.unseen = s.bli.unseen ∧ t.bli.buffer = s.bli.buffer ∧ t.bli.w = s.bli.w ∧ t.bli.lineErrors = s.bli.lineErrors ∧
    t.bli.overruns = s.bli.overruns ∧ t.bli.lost = s.bli.lost ∧ t.bli.strays = s.bli.strays ∧ t.rrp.queue = s.rrp.queue ∧
    t.rrp.tq = s.rrp.tq ∧ t.rrp.td = s.rrp.td ∧ t.rrp.delay = s.rrp.delay ∧ t.rrp.call = s.rrp.call ∧ t.rrp.drops = s.rrp.drops ∧
    t.rrp.mask = s.rrp.mask ∧ t.seu.enable = s.seu.enable ∧ t.seu.block = s.seu.block ∧ t.seu.watermark = s.seu.watermark ∧
    t.seu.strokeTimeout = s.seu.strokeTimeout ∧ t.seu.voids = s.seu.voids ∧ t.seu.press = s.seu.press ∧
    t.seu.strokeTimer = s.seu.strokeTimer ∧ t.seu.seenInactive = s.seu.seenInactive ∧ t.seu.lamps = s.seu.lamps ∧
    t.seu.reject = s.seu.reject ∧ t.seu.rejectTimer = s.seu.rejectTimer ∧ t.seu.aborted = s.seu.aborted ∧ t.rst.slots = s.rst.slots ∧
    t.rst.damaged = s.rst.damaged ∧ t.rst.reserveAsked = s.rst.reserveAsked ∧ t.sys = s.sys ∧ t.pins = s.pins ∧ t.freeIndex = s.freeIndex ∧
    t.pending = s.pending := by
  simp only [State.putDescriptor]
  repeat' first | (simp; done) | (simp [MeterInput.settings]; done) | (simp [Pfe.settings]; done) | split

@[simp] theorem State.setTail_frame (s : State) (tail : Nat) : let t := s.setTail tail
    t.pfe.settings = s.pfe.settings ∧ t.pfe.rf0 = s.pfe.rf0 ∧ t.pfe.rf1 = s.pfe.rf1 ∧ t.pfe.zc = s.pfe.zc ∧ t.time = s.time ∧
    t.ecu.copy = s.ecu.copy ∧ t.ecu.acc = s.ecu.acc ∧ t.ecu.outcomes = s.ecu.outcomes ∧ t.plt.plan = s.plt.plan ∧ t.plt.head = s.plt.head ∧
    t.plt.cyclic = s.plt.cyclic ∧ t.plt.loops = s.plt.loops ∧ t.plt.loop = s.plt.loop ∧ t.rsq.run = s.rsq.run ∧
    t.rsq.enrolSent = s.rsq.enrolSent ∧ t.rsq.settle = s.rsq.settle ∧ t.rsq.received = s.rsq.received ∧ t.rsq.figure = s.rsq.figure ∧
    t.rsq.tally = s.rsq.tally ∧ t.bli.stage = s.bli.stage ∧ t.bli.quiet = s.bli.quiet ∧ t.bli.stuck = s.bli.stuck ∧
    t.bli.dominantSince = s.bli.dominantSince ∧ t.bli.afterStuck = s.bli.afterStuck ∧ t.bli.low = s.bli.low ∧ t.bli.unseen = s.bli.unseen ∧
    t.bli.buffer = s.bli.buffer ∧ t.bli.w = s.bli.w ∧ t.bli.lineErrors = s.bli.lineErrors ∧ t.bli.overruns = s.bli.overruns ∧
    t.bli.lost = s.bli.lost ∧ t.bli.strays = s.bli.strays ∧ t.rrp.queue = s.rrp.queue ∧ t.rrp.tq = s.rrp.tq ∧ t.rrp.td = s.rrp.td ∧
    t.rrp.delay = s.rrp.delay ∧ t.rrp.call = s.rrp.call ∧ t.rrp.drops = s.rrp.drops ∧ t.rrp.mask = s.rrp.mask ∧
    t.rrp.lastRefusal = s.rrp.lastRefusal ∧ t.seu.enable = s.seu.enable ∧ t.seu.block = s.seu.block ∧ t.seu.watermark = s.seu.watermark ∧
    t.seu.strokeTimeout = s.seu.strokeTimeout ∧ t.seu.voids = s.seu.voids ∧ t.seu.press = s.seu.press ∧
    t.seu.strokeTimer = s.seu.strokeTimer ∧ t.seu.seenInactive = s.seu.seenInactive ∧ t.seu.lamps = s.seu.lamps ∧
    t.seu.reject = s.seu.reject ∧ t.seu.rejectTimer = s.seu.rejectTimer ∧ t.seu.aborted = s.seu.aborted ∧ t.rst.slots = s.rst.slots ∧
    t.rst.damaged = s.rst.damaged ∧ t.rst.reserveAsked = s.rst.reserveAsked ∧ t.sys = s.sys ∧ t.pins = s.pins ∧ t.freeIndex = s.freeIndex ∧
    t.pending = s.pending := by
  simp only [State.setTail]
  repeat' first | (simp; done) | (simp [MeterInput.settings]; done) | (simp [Pfe.settings]; done) | split

@[simp] theorem State.takePlanPut_frame (s : State) (payload : List Byte) : let t := s.takePlanPut payload
    t.pfe.rf0 = s.pfe.rf0 ∧ t.pfe.rf1 = s.pfe.rf1 ∧ t.pfe.zc = s.pfe.zc ∧ t.pfe.settings = s.pfe.settings ∧ t.time = s.time ∧
    t.ecu.copy = s.ecu.copy ∧ t.ecu.acc = s.ecu.acc ∧ t.ecu.outcomes = s.ecu.outcomes ∧ t.plt.head = s.plt.head ∧ t.plt.tail = s.plt.tail ∧
    t.plt.cyclic = s.plt.cyclic ∧ t.plt.loops = s.plt.loops ∧ t.plt.loop = s.plt.loop ∧ t.rsq.run = s.rsq.run ∧ t.rsq.seq = s.rsq.seq ∧
    t.rsq.desc = s.rsq.desc ∧ t.rsq.enrolSent = s.rsq.enrolSent ∧ t.rsq.settle = s.rsq.settle ∧ t.rsq.received = s.rsq.received ∧
    t.rsq.figure = s.rsq.figure ∧ t.rsq.tally = s.rsq.tally ∧ t.bli.stage = s.bli.stage ∧ t.bli.quiet = s.bli.quiet ∧
    t.bli.stuck = s.bli.stuck ∧ t.bli.dominantSince = s.bli.dominantSince ∧ t.bli.afterStuck = s.bli.afterStuck ∧ t.bli.low = s.bli.low ∧
    t.bli.unseen = s.bli.unseen ∧ t.bli.buffer = s.bli.buffer ∧ t.bli.w = s.bli.w ∧ t.bli.lineErrors = s.bli.lineErrors ∧
    t.bli.overruns = s.bli.overruns ∧ t.bli.lost = s.bli.lost ∧ t.rrp.queue = s.rrp.queue ∧ t.rrp.tq = s.rrp.tq ∧ t.rrp.td = s.rrp.td ∧
    t.rrp.delay = s.rrp.delay ∧ t.rrp.call = s.rrp.call ∧ t.rrp.drops = s.rrp.drops ∧ t.rrp.mask = s.rrp.mask ∧
    t.seu.enable = s.seu.enable ∧ t.seu.block = s.seu.block ∧ t.seu.watermark = s.seu.watermark ∧
    t.seu.strokeTimeout = s.seu.strokeTimeout ∧ t.seu.voids = s.seu.voids ∧ t.seu.press = s.seu.press ∧
    t.seu.strokeTimer = s.seu.strokeTimer ∧ t.seu.seenInactive = s.seu.seenInactive ∧ t.seu.reject = s.seu.reject ∧
    t.seu.rejectTimer = s.seu.rejectTimer ∧ t.seu.aborted = s.seu.aborted ∧ t.seu.lamps = s.seu.lamps ∧ t.rst.damaged = s.rst.damaged ∧
    t.rst.reserveAsked = s.rst.reserveAsked ∧ t.rst.slots = s.rst.slots ∧ t.sys = s.sys ∧ t.pins = s.pins ∧ t.freeIndex = s.freeIndex ∧
    t.pending = s.pending := by
  simp only [State.takePlanPut]
  repeat' first | (simp; done) | (simp [MeterInput.settings]; done) | (simp [Pfe.settings]; done) | split

@[simp] theorem State.takePlanTail_frame (s : State) (run : Half) (tail : Byte) : let t := s.takePlanTail run tail
    t.pfe.rf0 = s.pfe.rf0 ∧ t.pfe.rf1 = s.pfe.rf1 ∧ t.pfe.zc = s.pfe.zc ∧ t.pfe.settings = s.pfe.settings ∧ t.time = s.time ∧
    t.ecu.copy = s.ecu.copy ∧ t.ecu.acc = s.ecu.acc ∧ t.ecu.outcomes = s.ecu.outcomes ∧ t.plt.head = s.plt.head ∧
    t.plt.cyclic = s.plt.cyclic ∧ t.plt.loops = s.plt.loops ∧ t.plt.loop = s.plt.loop ∧ t.plt.plan = s.plt.plan ∧ t.rsq.run = s.rsq.run ∧
    t.rsq.enrolSent = s.rsq.enrolSent ∧ t.rsq.settle = s.rsq.settle ∧ t.rsq.received = s.rsq.received ∧ t.rsq.figure = s.rsq.figure ∧
    t.rsq.tally = s.rsq.tally ∧ t.bli.stage = s.bli.stage ∧ t.bli.quiet = s.bli.quiet ∧ t.bli.stuck = s.bli.stuck ∧
    t.bli.dominantSince = s.bli.dominantSince ∧ t.bli.afterStuck = s.bli.afterStuck ∧ t.bli.low = s.bli.low ∧ t.bli.unseen = s.bli.unseen ∧
    t.bli.buffer = s.bli.buffer ∧ t.bli.w = s.bli.w ∧ t.bli.lineErrors = s.bli.lineErrors ∧ t.bli.overruns = s.bli.overruns ∧
    t.bli.lost = s.bli.lost ∧ t.bli.strays = s.bli.strays ∧ t.rrp.queue = s.rrp.queue ∧ t.rrp.tq = s.rrp.tq ∧ t.rrp.td = s.rrp.td ∧
    t.rrp.delay = s.rrp.delay ∧ t.rrp.call = s.rrp.call ∧ t.rrp.drops = s.rrp.drops ∧ t.rrp.mask = s.rrp.mask ∧
    t.rrp.lastRefusal = s.rrp.lastRefusal ∧ t.seu.enable = s.seu.enable ∧ t.seu.block = s.seu.block ∧ t.seu.watermark = s.seu.watermark ∧
    t.seu.strokeTimeout = s.seu.strokeTimeout ∧ t.seu.voids = s.seu.voids ∧ t.seu.press = s.seu.press ∧
    t.seu.strokeTimer = s.seu.strokeTimer ∧ t.seu.seenInactive = s.seu.seenInactive ∧ t.seu.reject = s.seu.reject ∧
    t.seu.rejectTimer = s.seu.rejectTimer ∧ t.seu.aborted = s.seu.aborted ∧ t.seu.lamps = s.seu.lamps ∧ t.rst.damaged = s.rst.damaged ∧
    t.rst.reserveAsked = s.rst.reserveAsked ∧ t.rst.slots = s.rst.slots ∧ t.sys = s.sys ∧ t.pins = s.pins ∧ t.freeIndex = s.freeIndex ∧
    t.pending = s.pending := by
  simp only [State.takePlanTail]
  repeat' first | (simp; done) | (simp [MeterInput.settings]; done) | (simp [Pfe.settings]; done) | split

@[simp] theorem State.takePlanClear_frame (s : State) : let t := s.takePlanClear
    t.pfe = s.pfe ∧ t.time = s.time ∧ t.gates = s.gates ∧ t.ecu = s.ecu ∧ t.plt.head = s.plt.head ∧ t.plt.tail = s.plt.tail ∧
    t.plt.cyclic = s.plt.cyclic ∧ t.plt.loops = s.plt.loops ∧ t.plt.loop = s.plt.loop ∧ t.rsq.run = s.rsq.run ∧ t.rsq.seq = s.rsq.seq ∧
    t.rsq.desc = s.rsq.desc ∧ t.rsq.enrolWindow = s.rsq.enrolWindow ∧ t.rsq.allowance = s.rsq.allowance ∧ t.rsq.barrier = s.rsq.barrier ∧
    t.rsq.enrolSent = s.rsq.enrolSent ∧ t.rsq.phase = s.rsq.phase ∧ t.rsq.settle = s.rsq.settle ∧ t.rsq.received = s.rsq.received ∧
    t.rsq.window = s.rsq.window ∧ t.rsq.figure = s.rsq.figure ∧ t.rsq.tally = s.rsq.tally ∧ t.rsq.verdict = s.rsq.verdict ∧
    t.rsq.roster = s.rsq.roster ∧ t.bli.stage = s.bli.stage ∧ t.bli.quiet = s.bli.quiet ∧ t.bli.stuck = s.bli.stuck ∧
    t.bli.dominantSince = s.bli.dominantSince ∧ t.bli.afterStuck = s.bli.afterStuck ∧ t.bli.low = s.bli.low ∧ t.bli.unseen = s.bli.unseen ∧
    t.bli.buffer = s.bli.buffer ∧ t.bli.coord = s.bli.coord ∧ t.bli.waiting = s.bli.waiting ∧ t.bli.attempt = s.bli.attempt ∧
    t.bli.w = s.bli.w ∧ t.bli.lineErrors = s.bli.lineErrors ∧ t.bli.overruns = s.bli.overruns ∧ t.bli.lost = s.bli.lost ∧
    t.bli.strays = s.bli.strays ∧ t.rrp.queue = s.rrp.queue ∧ t.rrp.tq = s.rrp.tq ∧ t.rrp.td = s.rrp.td ∧ t.rrp.delay = s.rrp.delay ∧
    t.rrp.call = s.rrp.call ∧ t.rrp.drops = s.rrp.drops ∧ t.rrp.mask = s.rrp.mask ∧ t.seu = s.seu ∧ t.rst = s.rst ∧ t.sys = s.sys ∧
    t.pins = s.pins ∧ t.freeIndex = s.freeIndex ∧ t.pending = s.pending := by
  simp only [State.takePlanClear]
  repeat' first | (simp; done) | (simp [MeterInput.settings]; done) | (simp [Pfe.settings]; done) | split

/-! ### RunCommands -/

@[simp] theorem State.openBlocks_frame (s : State) (f : RunOpenFields) : let t := s.openBlocks f
    t.pfe.rf0 = s.pfe.rf0 ∧ t.pfe.rf1 = s.pfe.rf1 ∧ t.pfe.zc = s.pfe.zc ∧ t.time = s.time ∧ t.gates = s.gates ∧ t.ecu = s.ecu ∧
    t.plt.plan = s.plt.plan ∧ t.plt.fault = s.plt.fault ∧ t.rsq.settle = s.rsq.settle ∧ t.rsq.received = s.rsq.received ∧
    t.rsq.window = s.rsq.window ∧ t.rsq.figure = s.rsq.figure ∧ t.bli = s.bli ∧ t.rrp.queue = s.rrp.queue ∧ t.rrp.delay = s.rrp.delay ∧
    t.rrp.call = s.rrp.call ∧ t.rrp.drops = s.rrp.drops ∧ t.rrp.flags = s.rrp.flags ∧ t.rrp.mask = s.rrp.mask ∧
    t.rrp.statusDue = s.rrp.statusDue ∧ t.rrp.lastRefusal = s.rrp.lastRefusal ∧ t.seu.press = s.seu.press ∧
    t.seu.strokeTimer = s.seu.strokeTimer ∧ t.seu.seenInactive = s.seu.seenInactive ∧ t.seu.lamps = s.seu.lamps ∧
    t.seu.reject = s.seu.reject ∧ t.seu.rejectTimer = s.seu.rejectTimer ∧ t.rst = s.rst ∧ t.sys = s.sys ∧ t.pins = s.pins ∧
    t.freeIndex = s.freeIndex ∧ t.pending = s.pending := by
  simp only [State.openBlocks]
  repeat' first | (simp [Pfe.openRun, Plt.openRun, Seu.openRun, Rrp.openRun, Rsq.openRun]; done) | split

@[simp] theorem State.enrolSelf_frame (s : State) (run : Half) : let t := s.enrolSelf run
    t.pfe = s.pfe ∧ t.time = s.time ∧ t.gates = s.gates ∧ t.ecu = s.ecu ∧ t.plt = s.plt ∧ t.rsq.runState = s.rsq.runState ∧
    t.rsq.run = s.rsq.run ∧ t.rsq.seq = s.rsq.seq ∧ t.rsq.desc = s.rsq.desc ∧ t.rsq.enrolWindow = s.rsq.enrolWindow ∧
    t.rsq.allowance = s.rsq.allowance ∧ t.rsq.barrier = s.rsq.barrier ∧ t.rsq.enrolSent = s.rsq.enrolSent ∧ t.rsq.phase = s.rsq.phase ∧
    t.rsq.settle = s.rsq.settle ∧ t.rsq.received = s.rsq.received ∧ t.rsq.window = s.rsq.window ∧ t.rsq.figure = s.rsq.figure ∧
    t.rsq.tally = s.rsq.tally ∧ t.rsq.verdict = s.rsq.verdict ∧ t.bli.stage = s.bli.stage ∧ t.bli.quiet = s.bli.quiet ∧
    t.bli.stuck = s.bli.stuck ∧ t.bli.dominantSince = s.bli.dominantSince ∧ t.bli.afterStuck = s.bli.afterStuck ∧ t.bli.low = s.bli.low ∧
    t.bli.unseen = s.bli.unseen ∧ t.bli.buffer = s.bli.buffer ∧ t.bli.report = s.bli.report ∧ t.bli.attempt = s.bli.attempt ∧
    t.bli.w = s.bli.w ∧ t.bli.lineErrors = s.bli.lineErrors ∧ t.bli.overruns = s.bli.overruns ∧ t.bli.lost = s.bli.lost ∧
    t.bli.strays = s.bli.strays ∧ t.rrp = s.rrp ∧ t.seu = s.seu ∧ t.rst = s.rst ∧ t.sys = s.sys ∧ t.pins = s.pins ∧
    t.freeIndex = s.freeIndex ∧ t.pending = s.pending := by
  simp only [State.enrolSelf]
  repeat' first | (simp; done) | split

@[simp] theorem State.openRun_frame (s : State) (f : RunOpenFields) (present : Bool) : let t := s.openRun f present
    t.pfe.rf0 = s.pfe.rf0 ∧ t.pfe.rf1 = s.pfe.rf1 ∧ t.pfe.zc = s.pfe.zc ∧ t.time = s.time ∧ t.gates = s.gates ∧ t.ecu = s.ecu ∧
    t.plt.plan = s.plt.plan ∧ t.plt.fault = s.plt.fault ∧ t.rsq.settle = s.rsq.settle ∧ t.rsq.received = s.rsq.received ∧
    t.rsq.window = s.rsq.window ∧ t.rsq.figure = s.rsq.figure ∧ t.bli.stage = s.bli.stage ∧ t.bli.quiet = s.bli.quiet ∧
    t.bli.stuck = s.bli.stuck ∧ t.bli.dominantSince = s.bli.dominantSince ∧ t.bli.afterStuck = s.bli.afterStuck ∧ t.bli.low = s.bli.low ∧
    t.bli.unseen = s.bli.unseen ∧ t.bli.buffer = s.bli.buffer ∧ t.bli.attempt = s.bli.attempt ∧ t.bli.w = s.bli.w ∧
    t.bli.lineErrors = s.bli.lineErrors ∧ t.bli.overruns = s.bli.overruns ∧ t.bli.lost = s.bli.lost ∧ t.bli.strays = s.bli.strays ∧
    t.rrp.flags = s.rrp.flags ∧ t.rrp.mask = s.rrp.mask ∧ t.rrp.statusDue = s.rrp.statusDue ∧ t.rrp.lastRefusal = s.rrp.lastRefusal ∧
    t.seu.press = s.seu.press ∧ t.seu.strokeTimer = s.seu.strokeTimer ∧ t.seu.seenInactive = s.seu.seenInactive ∧
    t.seu.lamps = s.seu.lamps ∧ t.seu.reject = s.seu.reject ∧ t.seu.rejectTimer = s.seu.rejectTimer ∧ t.rst = s.rst ∧ t.sys = s.sys ∧
    t.pins = s.pins ∧ t.freeIndex = s.freeIndex ∧ t.pending = s.pending := by
  simp only [State.openRun]
  repeat' first | (simp; done) | split

@[simp] theorem State.judgeOpen_frame (s : State) (f : RunOpenFields) (present : Bool) : let t := s.judgeOpen f present
    t.pfe.rf0 = s.pfe.rf0 ∧ t.pfe.rf1 = s.pfe.rf1 ∧ t.pfe.zc = s.pfe.zc ∧ t.time = s.time ∧ t.ecu.copy = s.ecu.copy ∧
    t.ecu.acc = s.ecu.acc ∧ t.ecu.outcomes = s.ecu.outcomes ∧ t.plt.plan = s.plt.plan ∧ t.plt.fault = s.plt.fault ∧
    t.rsq.settle = s.rsq.settle ∧ t.rsq.received = s.rsq.received ∧ t.rsq.figure = s.rsq.figure ∧ t.bli.stage = s.bli.stage ∧
    t.bli.quiet = s.bli.quiet ∧ t.bli.stuck = s.bli.stuck ∧ t.bli.dominantSince = s.bli.dominantSince ∧
    t.bli.afterStuck = s.bli.afterStuck ∧ t.bli.low = s.bli.low ∧ t.bli.unseen = s.bli.unseen ∧ t.bli.buffer = s.bli.buffer ∧
    t.bli.w = s.bli.w ∧ t.bli.lineErrors = s.bli.lineErrors ∧ t.bli.overruns = s.bli.overruns ∧ t.bli.lost = s.bli.lost ∧
    t.bli.strays = s.bli.strays ∧ t.rrp.mask = s.rrp.mask ∧ t.seu.press = s.seu.press ∧ t.seu.strokeTimer = s.seu.strokeTimer ∧
    t.seu.seenInactive = s.seu.seenInactive ∧ t.seu.reject = s.seu.reject ∧ t.seu.rejectTimer = s.seu.rejectTimer ∧
    t.rst.slots = s.rst.slots ∧ t.rst.damaged = s.rst.damaged ∧ t.sys = s.sys ∧ t.pins = s.pins ∧ t.freeIndex = s.freeIndex ∧
    t.pending = s.pending := by
  simp only [State.judgeOpen]
  repeat' first | (simp; done) | split

@[simp] theorem State.loadInWait_frame (s : State) (n d : Nat) : let t := s.loadInWait n d
    t.pfe.settings = s.pfe.settings ∧ t.pfe.zc = s.pfe.zc ∧ t.time = s.time ∧ t.plt = s.plt ∧ t.rsq.run = s.rsq.run ∧
    t.rsq.seq = s.rsq.seq ∧ t.rsq.desc = s.rsq.desc ∧ t.rsq.enrolSent = s.rsq.enrolSent ∧ t.rsq.tally = s.rsq.tally ∧
    t.bli.stage = s.bli.stage ∧ t.bli.quiet = s.bli.quiet ∧ t.bli.stuck = s.bli.stuck ∧ t.bli.dominantSince = s.bli.dominantSince ∧
    t.bli.afterStuck = s.bli.afterStuck ∧ t.bli.low = s.bli.low ∧ t.bli.unseen = s.bli.unseen ∧ t.bli.buffer = s.bli.buffer ∧
    t.bli.w = s.bli.w ∧ t.bli.lineErrors = s.bli.lineErrors ∧ t.bli.overruns = s.bli.overruns ∧ t.bli.lost = s.bli.lost ∧
    t.bli.strays = s.bli.strays ∧ t.rrp.queue = s.rrp.queue ∧ t.rrp.tq = s.rrp.tq ∧ t.rrp.td = s.rrp.td ∧ t.rrp.delay = s.rrp.delay ∧
    t.rrp.call = s.rrp.call ∧ t.rrp.drops = s.rrp.drops ∧ t.rrp.mask = s.rrp.mask ∧ t.rrp.lastRefusal = s.rrp.lastRefusal ∧
    t.seu.enable = s.seu.enable ∧ t.seu.block = s.seu.block ∧ t.seu.watermark = s.seu.watermark ∧
    t.seu.strokeTimeout = s.seu.strokeTimeout ∧ t.seu.voids = s.seu.voids ∧ t.seu.press = s.seu.press ∧
    t.seu.strokeTimer = s.seu.strokeTimer ∧ t.seu.seenInactive = s.seu.seenInactive ∧ t.seu.lamps = s.seu.lamps ∧
    t.seu.reject = s.seu.reject ∧ t.seu.rejectTimer = s.seu.rejectTimer ∧ t.seu.aborted = s.seu.aborted ∧ t.rst.slots = s.rst.slots ∧
    t.rst.damaged = s.rst.damaged ∧ t.rst.reserveAsked = s.rst.reserveAsked ∧ t.sys = s.sys ∧ t.pins = s.pins ∧ t.freeIndex = s.freeIndex ∧
    t.pending = s.pending := by
  simp only [State.loadInWait]
  repeat' first | (simp; done) | (simp [MeterInput.settings]; done) | (simp [Pfe.settings]; done) | split

@[simp] theorem State.thenWait_frame (s : State) (n d : Nat) : let t := s.thenWait n d
    t.pfe.settings = s.pfe.settings ∧ t.pfe.zc = s.pfe.zc ∧ t.time = s.time ∧ t.plt = s.plt ∧ t.rsq.run = s.rsq.run ∧
    t.rsq.seq = s.rsq.seq ∧ t.rsq.desc = s.rsq.desc ∧ t.rsq.enrolSent = s.rsq.enrolSent ∧ t.rsq.tally = s.rsq.tally ∧
    t.bli.stage = s.bli.stage ∧ t.bli.quiet = s.bli.quiet ∧ t.bli.stuck = s.bli.stuck ∧ t.bli.dominantSince = s.bli.dominantSince ∧
    t.bli.afterStuck = s.bli.afterStuck ∧ t.bli.low = s.bli.low ∧ t.bli.unseen = s.bli.unseen ∧ t.bli.buffer = s.bli.buffer ∧
    t.bli.w = s.bli.w ∧ t.bli.lineErrors = s.bli.lineErrors ∧ t.bli.overruns = s.bli.overruns ∧ t.bli.lost = s.bli.lost ∧
    t.bli.strays = s.bli.strays ∧ t.rrp.queue = s.rrp.queue ∧ t.rrp.tq = s.rrp.tq ∧ t.rrp.td = s.rrp.td ∧ t.rrp.delay = s.rrp.delay ∧
    t.rrp.call = s.rrp.call ∧ t.rrp.drops = s.rrp.drops ∧ t.rrp.mask = s.rrp.mask ∧ t.rrp.lastRefusal = s.rrp.lastRefusal ∧
    t.seu.enable = s.seu.enable ∧ t.seu.block = s.seu.block ∧ t.seu.watermark = s.seu.watermark ∧
    t.seu.strokeTimeout = s.seu.strokeTimeout ∧ t.seu.voids = s.seu.voids ∧ t.seu.press = s.seu.press ∧
    t.seu.strokeTimer = s.seu.strokeTimer ∧ t.seu.seenInactive = s.seu.seenInactive ∧ t.seu.lamps = s.seu.lamps ∧
    t.seu.reject = s.seu.reject ∧ t.seu.rejectTimer = s.seu.rejectTimer ∧ t.seu.aborted = s.seu.aborted ∧ t.rst.slots = s.rst.slots ∧
    t.rst.damaged = s.rst.damaged ∧ t.rst.reserveAsked = s.rst.reserveAsked ∧ t.sys = s.sys ∧ t.pins = s.pins ∧ t.freeIndex = s.freeIndex ∧
    t.pending = s.pending := by
  simp only [State.thenWait]
  repeat' first | (simp; done) | (simp [MeterInput.settings]; done) | (simp [Pfe.settings]; done) | split

@[simp] theorem State.loadInPaused_frame (s : State) (n d : Nat) : let t := s.loadInPaused n d
    t.pfe.settings = s.pfe.settings ∧ t.pfe.zc = s.pfe.zc ∧ t.time = s.time ∧ t.plt.plan = s.plt.plan ∧ t.plt.head = s.plt.head ∧
    t.plt.cyclic = s.plt.cyclic ∧ t.plt.loops = s.plt.loops ∧ t.plt.loop = s.plt.loop ∧ t.rsq.run = s.rsq.run ∧
    t.rsq.enrolSent = s.rsq.enrolSent ∧ t.rsq.tally = s.rsq.tally ∧ t.bli.stage = s.bli.stage ∧ t.bli.quiet = s.bli.quiet ∧
    t.bli.stuck = s.bli.stuck ∧ t.bli.dominantSince = s.bli.dominantSince ∧ t.bli.afterStuck = s.bli.afterStuck ∧ t.bli.low = s.bli.low ∧
    t.bli.unseen = s.bli.unseen ∧ t.bli.buffer = s.bli.buffer ∧ t.bli.w = s.bli.w ∧ t.bli.lineErrors = s.bli.lineErrors ∧
    t.bli.overruns = s.bli.overruns ∧ t.bli.lost = s.bli.lost ∧ t.bli.strays = s.bli.strays ∧ t.rrp.queue = s.rrp.queue ∧
    t.rrp.tq = s.rrp.tq ∧ t.rrp.td = s.rrp.td ∧ t.rrp.delay = s.rrp.delay ∧ t.rrp.call = s.rrp.call ∧ t.rrp.drops = s.rrp.drops ∧
    t.rrp.mask = s.rrp.mask ∧ t.rrp.lastRefusal = s.rrp.lastRefusal ∧ t.seu.enable = s.seu.enable ∧ t.seu.block = s.seu.block ∧
    t.seu.watermark = s.seu.watermark ∧ t.seu.strokeTimeout = s.seu.strokeTimeout ∧ t.seu.voids = s.seu.voids ∧ t.seu.press = s.seu.press ∧
    t.seu.strokeTimer = s.seu.strokeTimer ∧ t.seu.seenInactive = s.seu.seenInactive ∧ t.seu.lamps = s.seu.lamps ∧
    t.seu.reject = s.seu.reject ∧ t.seu.rejectTimer = s.seu.rejectTimer ∧ t.seu.aborted = s.seu.aborted ∧ t.rst.slots = s.rst.slots ∧
    t.rst.damaged = s.rst.damaged ∧ t.rst.reserveAsked = s.rst.reserveAsked ∧ t.sys = s.sys ∧ t.pins = s.pins ∧ t.freeIndex = s.freeIndex ∧
    t.pending = s.pending := by
  simp only [State.loadInPaused]
  repeat' first | (simp; done) | (simp [MeterInput.settings]; done) | (simp [Pfe.settings]; done) | split

@[simp] theorem State.countUnheard_frame (s : State) : let t := s.countUnheard
    t.pfe = s.pfe ∧ t.time = s.time ∧ t.gates = s.gates ∧ t.ecu = s.ecu ∧ t.plt = s.plt ∧ t.rsq.runState = s.rsq.runState ∧
    t.rsq.run = s.rsq.run ∧ t.rsq.seq = s.rsq.seq ∧ t.rsq.desc = s.rsq.desc ∧ t.rsq.enrolWindow = s.rsq.enrolWindow ∧
    t.rsq.allowance = s.rsq.allowance ∧ t.rsq.barrier = s.rsq.barrier ∧ t.rsq.enrolSent = s.rsq.enrolSent ∧ t.rsq.phase = s.rsq.phase ∧
    t.rsq.settle = s.rsq.settle ∧ t.rsq.received = s.rsq.received ∧ t.rsq.window = s.rsq.window ∧ t.rsq.figure = s.rsq.figure ∧
    t.rsq.tally = s.rsq.tally ∧ t.rsq.verdict = s.rsq.verdict ∧ t.bli = s.bli ∧ t.rrp = s.rrp ∧ t.seu = s.seu ∧ t.rst = s.rst ∧
    t.sys = s.sys ∧ t.pins = s.pins ∧ t.freeIndex = s.freeIndex ∧ t.pending = s.pending := by
  simp only [State.countUnheard]
  repeat' first | (simp; done) | split

@[simp] theorem State.loadReady_frame (s : State) (n d : Nat) : let t := s.loadReady n d
    t.pfe.settings = s.pfe.settings ∧ t.pfe.zc = s.pfe.zc ∧ t.time = s.time ∧ t.plt.head = s.plt.head ∧ t.plt.cyclic = s.plt.cyclic ∧
    t.plt.loops = s.plt.loops ∧ t.rsq.run = s.rsq.run ∧ t.rsq.enrolSent = s.rsq.enrolSent ∧ t.bli.stage = s.bli.stage ∧
    t.bli.quiet = s.bli.quiet ∧ t.bli.stuck = s.bli.stuck ∧ t.bli.dominantSince = s.bli.dominantSince ∧
    t.bli.afterStuck = s.bli.afterStuck ∧ t.bli.low = s.bli.low ∧ t.bli.unseen = s.bli.unseen ∧ t.bli.buffer = s.bli.buffer ∧
    t.bli.w = s.bli.w ∧ t.bli.lineErrors = s.bli.lineErrors ∧ t.bli.overruns = s.bli.overruns ∧ t.bli.lost = s.bli.lost ∧
    t.bli.strays = s.bli.strays ∧ t.rrp.tq = s.rrp.tq ∧ t.rrp.td = s.rrp.td ∧ t.rrp.mask = s.rrp.mask ∧
    t.rrp.lastRefusal = s.rrp.lastRefusal ∧ t.seu.enable = s.seu.enable ∧ t.seu.block = s.seu.block ∧ t.seu.watermark = s.seu.watermark ∧
    t.seu.strokeTimeout = s.seu.strokeTimeout ∧ t.seu.voids = s.seu.voids ∧ t.seu.press = s.seu.press ∧
    t.seu.strokeTimer = s.seu.strokeTimer ∧ t.seu.seenInactive = s.seu.seenInactive ∧ t.seu.lamps = s.seu.lamps ∧
    t.seu.aborted = s.seu.aborted ∧ t.rst.slots = s.rst.slots ∧ t.rst.damaged = s.rst.damaged ∧ t.sys = s.sys ∧ t.pins = s.pins ∧
    t.freeIndex = s.freeIndex ∧ t.pending = s.pending := by
  simp only [State.loadReady]
  repeat' first | (simp; done) | (simp [MeterInput.settings]; done) | (simp [Pfe.settings]; done) | split

@[simp] theorem State.closeRun_frame (s : State) : let t := s.closeRun
    t.pfe.settings = s.pfe.settings ∧ t.pfe.rf0 = s.pfe.rf0 ∧ t.pfe.rf1 = s.pfe.rf1 ∧ t.pfe.zc = s.pfe.zc ∧ t.time = s.time ∧
    t.ecu.copy = s.ecu.copy ∧ t.ecu.acc = s.ecu.acc ∧ t.ecu.outcomes = s.ecu.outcomes ∧ t.plt = s.plt ∧ t.rsq.run = s.rsq.run ∧
    t.rsq.seq = s.rsq.seq ∧ t.rsq.desc = s.rsq.desc ∧ t.rsq.enrolSent = s.rsq.enrolSent ∧ t.rsq.settle = s.rsq.settle ∧
    t.rsq.received = s.rsq.received ∧ t.rsq.figure = s.rsq.figure ∧ t.rsq.tally = s.rsq.tally ∧ t.bli.stage = s.bli.stage ∧
    t.bli.quiet = s.bli.quiet ∧ t.bli.stuck = s.bli.stuck ∧ t.bli.dominantSince = s.bli.dominantSince ∧
    t.bli.afterStuck = s.bli.afterStuck ∧ t.bli.low = s.bli.low ∧ t.bli.unseen = s.bli.unseen ∧ t.bli.buffer = s.bli.buffer ∧
    t.bli.w = s.bli.w ∧ t.bli.lineErrors = s.bli.lineErrors ∧ t.bli.overruns = s.bli.overruns ∧ t.bli.lost = s.bli.lost ∧
    t.bli.strays = s.bli.strays ∧ t.rrp.queue = s.rrp.queue ∧ t.rrp.tq = s.rrp.tq ∧ t.rrp.td = s.rrp.td ∧ t.rrp.delay = s.rrp.delay ∧
    t.rrp.call = s.rrp.call ∧ t.rrp.drops = s.rrp.drops ∧ t.rrp.mask = s.rrp.mask ∧ t.seu.enable = s.seu.enable ∧
    t.seu.block = s.seu.block ∧ t.seu.watermark = s.seu.watermark ∧ t.seu.strokeTimeout = s.seu.strokeTimeout ∧ t.seu.voids = s.seu.voids ∧
    t.seu.press = s.seu.press ∧ t.seu.strokeTimer = s.seu.strokeTimer ∧ t.seu.seenInactive = s.seu.seenInactive ∧
    t.seu.reject = s.seu.reject ∧ t.seu.rejectTimer = s.seu.rejectTimer ∧ t.rst.slots = s.rst.slots ∧ t.rst.damaged = s.rst.damaged ∧
    t.sys = s.sys ∧ t.pins = s.pins ∧ t.freeIndex = s.freeIndex ∧ t.pending = s.pending := by
  simp only [State.closeRun]
  repeat' first | (simp; done) | (simp [MeterInput.settings]; done) | (simp [Pfe.settings]; done) | split

@[simp] theorem State.meterRemoved_frame (s : State) : let t := s.meterRemoved
    t.pfe.settings = s.pfe.settings ∧ t.pfe.rf0 = s.pfe.rf0 ∧ t.pfe.rf1 = s.pfe.rf1 ∧ t.pfe.zc = s.pfe.zc ∧ t.time = s.time ∧
    t.ecu.copy = s.ecu.copy ∧ t.ecu.acc = s.ecu.acc ∧ t.ecu.outcomes = s.ecu.outcomes ∧ t.plt = s.plt ∧ t.rsq.run = s.rsq.run ∧
    t.rsq.seq = s.rsq.seq ∧ t.rsq.desc = s.rsq.desc ∧ t.rsq.enrolSent = s.rsq.enrolSent ∧ t.rsq.settle = s.rsq.settle ∧
    t.rsq.received = s.rsq.received ∧ t.rsq.figure = s.rsq.figure ∧ t.rsq.tally = s.rsq.tally ∧ t.bli.stage = s.bli.stage ∧
    t.bli.quiet = s.bli.quiet ∧ t.bli.stuck = s.bli.stuck ∧ t.bli.dominantSince = s.bli.dominantSince ∧
    t.bli.afterStuck = s.bli.afterStuck ∧ t.bli.low = s.bli.low ∧ t.bli.unseen = s.bli.unseen ∧ t.bli.buffer = s.bli.buffer ∧
    t.bli.w = s.bli.w ∧ t.bli.lineErrors = s.bli.lineErrors ∧ t.bli.overruns = s.bli.overruns ∧ t.bli.lost = s.bli.lost ∧
    t.bli.strays = s.bli.strays ∧ t.rrp.queue = s.rrp.queue ∧ t.rrp.tq = s.rrp.tq ∧ t.rrp.td = s.rrp.td ∧ t.rrp.delay = s.rrp.delay ∧
    t.rrp.call = s.rrp.call ∧ t.rrp.drops = s.rrp.drops ∧ t.rrp.mask = s.rrp.mask ∧ t.rrp.lastRefusal = s.rrp.lastRefusal ∧
    t.seu.enable = s.seu.enable ∧ t.seu.block = s.seu.block ∧ t.seu.watermark = s.seu.watermark ∧
    t.seu.strokeTimeout = s.seu.strokeTimeout ∧ t.seu.voids = s.seu.voids ∧ t.seu.press = s.seu.press ∧
    t.seu.strokeTimer = s.seu.strokeTimer ∧ t.seu.seenInactive = s.seu.seenInactive ∧ t.seu.lamps = s.seu.lamps ∧
    t.seu.reject = s.seu.reject ∧ t.seu.rejectTimer = s.seu.rejectTimer ∧ t.seu.aborted = s.seu.aborted ∧ t.rst.slots = s.rst.slots ∧
    t.rst.damaged = s.rst.damaged ∧ t.rst.reserveAsked = s.rst.reserveAsked ∧ t.sys = s.sys ∧ t.pins = s.pins ∧ t.freeIndex = s.freeIndex ∧
    t.pending = s.pending := by
  simp only [State.meterRemoved]
  repeat' first | (simp; done) | (simp [MeterInput.settings]; done) | (simp [Pfe.settings]; done) | split

@[simp] theorem State.takeRunOpen_frame (s : State) (f : RunOpenFields) (present : Bool) : let t := s.takeRunOpen f present
    t.pfe.rf0 = s.pfe.rf0 ∧ t.pfe.rf1 = s.pfe.rf1 ∧ t.pfe.zc = s.pfe.zc ∧ t.time = s.time ∧ t.ecu.copy = s.ecu.copy ∧
    t.ecu.acc = s.ecu.acc ∧ t.ecu.outcomes = s.ecu.outcomes ∧ t.plt.fault = s.plt.fault ∧ t.plt.plan = s.plt.plan ∧
    t.rsq.settle = s.rsq.settle ∧ t.rsq.received = s.rsq.received ∧ t.rsq.figure = s.rsq.figure ∧ t.bli.stage = s.bli.stage ∧
    t.bli.quiet = s.bli.quiet ∧ t.bli.stuck = s.bli.stuck ∧ t.bli.dominantSince = s.bli.dominantSince ∧
    t.bli.afterStuck = s.bli.afterStuck ∧ t.bli.low = s.bli.low ∧ t.bli.unseen = s.bli.unseen ∧ t.bli.buffer = s.bli.buffer ∧
    t.bli.w = s.bli.w ∧ t.bli.lineErrors = s.bli.lineErrors ∧ t.bli.overruns = s.bli.overruns ∧ t.bli.lost = s.bli.lost ∧
    t.rrp.mask = s.rrp.mask ∧ t.seu.press = s.seu.press ∧ t.seu.strokeTimer = s.seu.strokeTimer ∧ t.seu.seenInactive = s.seu.seenInactive ∧
    t.seu.reject = s.seu.reject ∧ t.seu.rejectTimer = s.seu.rejectTimer ∧ t.rst.damaged = s.rst.damaged ∧ t.rst.slots = s.rst.slots ∧
    t.sys = s.sys ∧ t.freeIndex = s.freeIndex ∧ t.pending = s.pending := by
  simp only [State.takeRunOpen]
  repeat' first | (simp; done) | (simp [MeterInput.settings]; done) | (simp [Pfe.settings]; done) | split

@[simp] theorem State.takeLoadReady_frame (s : State) (run seq : Half) (desc : Byte) : let t := s.takeLoadReady run seq desc
    t.pfe.zc = s.pfe.zc ∧ t.pfe.settings = s.pfe.settings ∧ t.time = s.time ∧ t.plt.head = s.plt.head ∧ t.plt.cyclic = s.plt.cyclic ∧
    t.plt.loops = s.plt.loops ∧ t.rsq.run = s.rsq.run ∧ t.rsq.enrolSent = s.rsq.enrolSent ∧ t.bli.stage = s.bli.stage ∧
    t.bli.quiet = s.bli.quiet ∧ t.bli.stuck = s.bli.stuck ∧ t.bli.dominantSince = s.bli.dominantSince ∧
    t.bli.afterStuck = s.bli.afterStuck ∧ t.bli.low = s.bli.low ∧ t.bli.unseen = s.bli.unseen ∧ t.bli.buffer = s.bli.buffer ∧
    t.bli.w = s.bli.w ∧ t.bli.lineErrors = s.bli.lineErrors ∧ t.bli.overruns = s.bli.overruns ∧ t.bli.lost = s.bli.lost ∧
    t.bli.strays = s.bli.strays ∧ t.rrp.tq = s.rrp.tq ∧ t.rrp.td = s.rrp.td ∧ t.rrp.mask = s.rrp.mask ∧
    t.rrp.lastRefusal = s.rrp.lastRefusal ∧ t.seu.enable = s.seu.enable ∧ t.seu.block = s.seu.block ∧ t.seu.watermark = s.seu.watermark ∧
    t.seu.strokeTimeout = s.seu.strokeTimeout ∧ t.seu.voids = s.seu.voids ∧ t.seu.press = s.seu.press ∧
    t.seu.strokeTimer = s.seu.strokeTimer ∧ t.seu.seenInactive = s.seu.seenInactive ∧ t.seu.aborted = s.seu.aborted ∧
    t.seu.lamps = s.seu.lamps ∧ t.rst.damaged = s.rst.damaged ∧ t.rst.slots = s.rst.slots ∧ t.sys = s.sys ∧ t.pins = s.pins ∧
    t.freeIndex = s.freeIndex ∧ t.pending = s.pending := by
  simp only [State.takeLoadReady]
  repeat' first | (simp; done) | (simp [MeterInput.settings]; done) | (simp [Pfe.settings]; done) | split

@[simp] theorem State.takeRunAbort_frame (s : State) (run : Half) : let t := s.takeRunAbort run
    t.pfe.rf0 = s.pfe.rf0 ∧ t.pfe.rf1 = s.pfe.rf1 ∧ t.pfe.zc = s.pfe.zc ∧ t.pfe.settings = s.pfe.settings ∧ t.time = s.time ∧
    t.ecu.copy = s.ecu.copy ∧ t.ecu.acc = s.ecu.acc ∧ t.ecu.outcomes = s.ecu.outcomes ∧ t.plt = s.plt ∧ t.rsq.run = s.rsq.run ∧
    t.rsq.seq = s.rsq.seq ∧ t.rsq.desc = s.rsq.desc ∧ t.rsq.enrolSent = s.rsq.enrolSent ∧ t.rsq.settle = s.rsq.settle ∧
    t.rsq.received = s.rsq.received ∧ t.rsq.figure = s.rsq.figure ∧ t.rsq.tally = s.rsq.tally ∧ t.bli.stage = s.bli.stage ∧
    t.bli.quiet = s.bli.quiet ∧ t.bli.stuck = s.bli.stuck ∧ t.bli.dominantSince = s.bli.dominantSince ∧
    t.bli.afterStuck = s.bli.afterStuck ∧ t.bli.low = s.bli.low ∧ t.bli.unseen = s.bli.unseen ∧ t.bli.buffer = s.bli.buffer ∧
    t.bli.w = s.bli.w ∧ t.bli.lineErrors = s.bli.lineErrors ∧ t.bli.overruns = s.bli.overruns ∧ t.bli.lost = s.bli.lost ∧
    t.bli.strays = s.bli.strays ∧ t.rrp.queue = s.rrp.queue ∧ t.rrp.tq = s.rrp.tq ∧ t.rrp.td = s.rrp.td ∧ t.rrp.delay = s.rrp.delay ∧
    t.rrp.call = s.rrp.call ∧ t.rrp.drops = s.rrp.drops ∧ t.rrp.mask = s.rrp.mask ∧ t.rrp.lastRefusal = s.rrp.lastRefusal ∧
    t.seu.enable = s.seu.enable ∧ t.seu.block = s.seu.block ∧ t.seu.watermark = s.seu.watermark ∧
    t.seu.strokeTimeout = s.seu.strokeTimeout ∧ t.seu.voids = s.seu.voids ∧ t.seu.press = s.seu.press ∧
    t.seu.strokeTimer = s.seu.strokeTimer ∧ t.seu.seenInactive = s.seu.seenInactive ∧ t.seu.reject = s.seu.reject ∧
    t.seu.rejectTimer = s.seu.rejectTimer ∧ t.rst.damaged = s.rst.damaged ∧ t.rst.slots = s.rst.slots ∧ t.sys = s.sys ∧ t.pins = s.pins ∧
    t.freeIndex = s.freeIndex ∧ t.pending = s.pending := by
  simp only [State.takeRunAbort]
  repeat' first | (simp; done) | (simp [MeterInput.settings]; done) | (simp [Pfe.settings]; done) | split

@[simp] theorem State.takeRunClose_frame (s : State) (run : Half) : let t := s.takeRunClose run
    t.pfe.rf0 = s.pfe.rf0 ∧ t.pfe.rf1 = s.pfe.rf1 ∧ t.pfe.zc = s.pfe.zc ∧ t.pfe.settings = s.pfe.settings ∧ t.time = s.time ∧
    t.ecu.copy = s.ecu.copy ∧ t.ecu.acc = s.ecu.acc ∧ t.ecu.outcomes = s.ecu.outcomes ∧ t.plt = s.plt ∧ t.rsq.run = s.rsq.run ∧
    t.rsq.seq = s.rsq.seq ∧ t.rsq.desc = s.rsq.desc ∧ t.rsq.enrolSent = s.rsq.enrolSent ∧ t.rsq.settle = s.rsq.settle ∧
    t.rsq.received = s.rsq.received ∧ t.rsq.figure = s.rsq.figure ∧ t.rsq.tally = s.rsq.tally ∧ t.bli.stage = s.bli.stage ∧
    t.bli.quiet = s.bli.quiet ∧ t.bli.stuck = s.bli.stuck ∧ t.bli.dominantSince = s.bli.dominantSince ∧
    t.bli.afterStuck = s.bli.afterStuck ∧ t.bli.low = s.bli.low ∧ t.bli.unseen = s.bli.unseen ∧ t.bli.buffer = s.bli.buffer ∧
    t.bli.w = s.bli.w ∧ t.bli.lineErrors = s.bli.lineErrors ∧ t.bli.overruns = s.bli.overruns ∧ t.bli.lost = s.bli.lost ∧
    t.bli.strays = s.bli.strays ∧ t.rrp.queue = s.rrp.queue ∧ t.rrp.tq = s.rrp.tq ∧ t.rrp.td = s.rrp.td ∧ t.rrp.delay = s.rrp.delay ∧
    t.rrp.call = s.rrp.call ∧ t.rrp.drops = s.rrp.drops ∧ t.rrp.mask = s.rrp.mask ∧ t.seu.enable = s.seu.enable ∧
    t.seu.block = s.seu.block ∧ t.seu.watermark = s.seu.watermark ∧ t.seu.strokeTimeout = s.seu.strokeTimeout ∧ t.seu.voids = s.seu.voids ∧
    t.seu.press = s.seu.press ∧ t.seu.strokeTimer = s.seu.strokeTimer ∧ t.seu.seenInactive = s.seu.seenInactive ∧
    t.seu.reject = s.seu.reject ∧ t.seu.rejectTimer = s.seu.rejectTimer ∧ t.rst.damaged = s.rst.damaged ∧ t.rst.slots = s.rst.slots ∧
    t.sys = s.sys ∧ t.pins = s.pins ∧ t.freeIndex = s.freeIndex ∧ t.pending = s.pending := by
  simp only [State.takeRunClose]
  repeat' first | (simp; done) | (simp [MeterInput.settings]; done) | (simp [Pfe.settings]; done) | split

/-! ### PeerCommands -/

@[simp] theorem State.hearEnrol_frame (s : State) (x : Nat) : let t := s.hearEnrol x
    t.pfe = s.pfe ∧ t.time = s.time ∧ t.gates = s.gates ∧ t.ecu = s.ecu ∧ t.plt = s.plt ∧ t.rsq.runState = s.rsq.runState ∧
    t.rsq.run = s.rsq.run ∧ t.rsq.seq = s.rsq.seq ∧ t.rsq.desc = s.rsq.desc ∧ t.rsq.enrolWindow = s.rsq.enrolWindow ∧
    t.rsq.allowance = s.rsq.allowance ∧ t.rsq.barrier = s.rsq.barrier ∧ t.rsq.enrolSent = s.rsq.enrolSent ∧ t.rsq.phase = s.rsq.phase ∧
    t.rsq.settle = s.rsq.settle ∧ t.rsq.received = s.rsq.received ∧ t.rsq.window = s.rsq.window ∧ t.rsq.figure = s.rsq.figure ∧
    t.rsq.tally = s.rsq.tally ∧ t.rsq.verdict = s.rsq.verdict ∧ t.bli = s.bli ∧ t.rrp = s.rrp ∧ t.seu = s.seu ∧ t.rst = s.rst ∧
    t.sys = s.sys ∧ t.pins = s.pins ∧ t.freeIndex = s.freeIndex ∧ t.pending = s.pending := by
  simp only [State.hearEnrol]
  repeat' first | (simp; done) | split

@[simp] theorem State.hearDone_frame (s : State) (x n : Nat) (figure : Option Nat) : let t := s.hearDone x n figure
    t.pfe.settings = s.pfe.settings ∧ t.pfe.rf0 = s.pfe.rf0 ∧ t.pfe.rf1 = s.pfe.rf1 ∧ t.pfe.zc = s.pfe.zc ∧ t.time = s.time ∧
    t.ecu.copy = s.ecu.copy ∧ t.ecu.acc = s.ecu.acc ∧ t.ecu.outcomes = s.ecu.outcomes ∧ t.plt.head = s.plt.head ∧ t.plt.tail = s.plt.tail ∧
    t.plt.cyclic = s.plt.cyclic ∧ t.plt.loops = s.plt.loops ∧ t.rsq.run = s.rsq.run ∧ t.rsq.enrolSent = s.rsq.enrolSent ∧
    t.rsq.settle = s.rsq.settle ∧ t.rsq.figure = s.rsq.figure ∧ t.bli.stage = s.bli.stage ∧ t.bli.quiet = s.bli.quiet ∧
    t.bli.stuck = s.bli.stuck ∧ t.bli.dominantSince = s.bli.dominantSince ∧ t.bli.afterStuck = s.bli.afterStuck ∧ t.bli.low = s.bli.low ∧
    t.bli.unseen = s.bli.unseen ∧ t.bli.buffer = s.bli.buffer ∧ t.bli.w = s.bli.w ∧ t.bli.lineErrors = s.bli.lineErrors ∧
    t.bli.overruns = s.bli.overruns ∧ t.bli.lost = s.bli.lost ∧ t.rrp.tq = s.rrp.tq ∧ t.rrp.td = s.rrp.td ∧ t.rrp.mask = s.rrp.mask ∧
    t.rrp.lastRefusal = s.rrp.lastRefusal ∧ t.seu.enable = s.seu.enable ∧ t.seu.block = s.seu.block ∧ t.seu.watermark = s.seu.watermark ∧
    t.seu.strokeTimeout = s.seu.strokeTimeout ∧ t.seu.voids = s.seu.voids ∧ t.seu.press = s.seu.press ∧
    t.seu.strokeTimer = s.seu.strokeTimer ∧ t.seu.seenInactive = s.seu.seenInactive ∧ t.seu.lamps = s.seu.lamps ∧
    t.seu.aborted = s.seu.aborted ∧ t.rst.slots = s.rst.slots ∧ t.rst.damaged = s.rst.damaged ∧ t.sys = s.sys ∧ t.pins = s.pins ∧
    t.freeIndex = s.freeIndex ∧ t.pending = s.pending := by
  simp only [State.hearDone]
  repeat' first | (simp; done) | (simp [MeterInput.settings]; done) | (simp [Pfe.settings]; done) | split

@[simp] theorem State.hearWithdraw_frame (s : State) (x : Nat) : let t := s.hearWithdraw x
    t.pfe.settings = s.pfe.settings ∧ t.pfe.rf0 = s.pfe.rf0 ∧ t.pfe.rf1 = s.pfe.rf1 ∧ t.pfe.zc = s.pfe.zc ∧ t.time = s.time ∧
    t.ecu.copy = s.ecu.copy ∧ t.ecu.acc = s.ecu.acc ∧ t.ecu.outcomes = s.ecu.outcomes ∧ t.plt.head = s.plt.head ∧ t.plt.tail = s.plt.tail ∧
    t.plt.cyclic = s.plt.cyclic ∧ t.plt.loops = s.plt.loops ∧ t.rsq.run = s.rsq.run ∧ t.rsq.enrolSent = s.rsq.enrolSent ∧
    t.rsq.settle = s.rsq.settle ∧ t.rsq.figure = s.rsq.figure ∧ t.bli.stage = s.bli.stage ∧ t.bli.quiet = s.bli.quiet ∧
    t.bli.stuck = s.bli.stuck ∧ t.bli.dominantSince = s.bli.dominantSince ∧ t.bli.afterStuck = s.bli.afterStuck ∧ t.bli.low = s.bli.low ∧
    t.bli.unseen = s.bli.unseen ∧ t.bli.buffer = s.bli.buffer ∧ t.bli.w = s.bli.w ∧ t.bli.lineErrors = s.bli.lineErrors ∧
    t.bli.overruns = s.bli.overruns ∧ t.bli.lost = s.bli.lost ∧ t.bli.strays = s.bli.strays ∧ t.rrp.tq = s.rrp.tq ∧ t.rrp.td = s.rrp.td ∧
    t.rrp.mask = s.rrp.mask ∧ t.rrp.lastRefusal = s.rrp.lastRefusal ∧ t.seu.enable = s.seu.enable ∧ t.seu.block = s.seu.block ∧
    t.seu.watermark = s.seu.watermark ∧ t.seu.strokeTimeout = s.seu.strokeTimeout ∧ t.seu.voids = s.seu.voids ∧ t.seu.press = s.seu.press ∧
    t.seu.strokeTimer = s.seu.strokeTimer ∧ t.seu.seenInactive = s.seu.seenInactive ∧ t.seu.lamps = s.seu.lamps ∧
    t.seu.aborted = s.seu.aborted ∧ t.rst.slots = s.rst.slots ∧ t.rst.damaged = s.rst.damaged ∧ t.sys = s.sys ∧ t.pins = s.pins ∧
    t.freeIndex = s.freeIndex ∧ t.pending = s.pending := by
  simp only [State.hearWithdraw]
  repeat' first | (simp; done) | (simp [MeterInput.settings]; done) | (simp [Pfe.settings]; done) | split

@[simp] theorem State.takeEnrol_frame (s : State) (x : BitVec 6) (run : Half) : let t := s.takeEnrol x run
    t.pfe = s.pfe ∧ t.time = s.time ∧ t.gates = s.gates ∧ t.ecu = s.ecu ∧ t.plt = s.plt ∧ t.rsq.runState = s.rsq.runState ∧
    t.rsq.run = s.rsq.run ∧ t.rsq.seq = s.rsq.seq ∧ t.rsq.desc = s.rsq.desc ∧ t.rsq.enrolWindow = s.rsq.enrolWindow ∧
    t.rsq.allowance = s.rsq.allowance ∧ t.rsq.barrier = s.rsq.barrier ∧ t.rsq.enrolSent = s.rsq.enrolSent ∧ t.rsq.phase = s.rsq.phase ∧
    t.rsq.settle = s.rsq.settle ∧ t.rsq.received = s.rsq.received ∧ t.rsq.window = s.rsq.window ∧ t.rsq.figure = s.rsq.figure ∧
    t.rsq.tally = s.rsq.tally ∧ t.rsq.verdict = s.rsq.verdict ∧ t.bli = s.bli ∧ t.rrp = s.rrp ∧ t.seu = s.seu ∧ t.rst = s.rst ∧
    t.sys = s.sys ∧ t.pins = s.pins ∧ t.freeIndex = s.freeIndex ∧ t.pending = s.pending := by
  simp only [State.takeEnrol]
  repeat' first | (simp; done) | (simp [MeterInput.settings]; done) | (simp [Pfe.settings]; done) | split

@[simp] theorem State.takeDone_frame (s : State) (x : BitVec 6) (run seq : Half) (figure : Option Word) : let t := s.takeDone x run seq figure
    t.pfe.rf0 = s.pfe.rf0 ∧ t.pfe.rf1 = s.pfe.rf1 ∧ t.pfe.zc = s.pfe.zc ∧ t.pfe.settings = s.pfe.settings ∧ t.time = s.time ∧
    t.ecu.copy = s.ecu.copy ∧ t.ecu.acc = s.ecu.acc ∧ t.ecu.outcomes = s.ecu.outcomes ∧ t.plt.head = s.plt.head ∧ t.plt.tail = s.plt.tail ∧
    t.plt.cyclic = s.plt.cyclic ∧ t.plt.loops = s.plt.loops ∧ t.rsq.run = s.rsq.run ∧ t.rsq.enrolSent = s.rsq.enrolSent ∧
    t.rsq.settle = s.rsq.settle ∧ t.rsq.figure = s.rsq.figure ∧ t.bli.stage = s.bli.stage ∧ t.bli.quiet = s.bli.quiet ∧
    t.bli.stuck = s.bli.stuck ∧ t.bli.dominantSince = s.bli.dominantSince ∧ t.bli.afterStuck = s.bli.afterStuck ∧ t.bli.low = s.bli.low ∧
    t.bli.unseen = s.bli.unseen ∧ t.bli.buffer = s.bli.buffer ∧ t.bli.w = s.bli.w ∧ t.bli.lineErrors = s.bli.lineErrors ∧
    t.bli.overruns = s.bli.overruns ∧ t.bli.lost = s.bli.lost ∧ t.rrp.tq = s.rrp.tq ∧ t.rrp.td = s.rrp.td ∧ t.rrp.mask = s.rrp.mask ∧
    t.rrp.lastRefusal = s.rrp.lastRefusal ∧ t.seu.enable = s.seu.enable ∧ t.seu.block = s.seu.block ∧ t.seu.watermark = s.seu.watermark ∧
    t.seu.strokeTimeout = s.seu.strokeTimeout ∧ t.seu.voids = s.seu.voids ∧ t.seu.press = s.seu.press ∧
    t.seu.strokeTimer = s.seu.strokeTimer ∧ t.seu.seenInactive = s.seu.seenInactive ∧ t.seu.aborted = s.seu.aborted ∧
    t.seu.lamps = s.seu.lamps ∧ t.rst.damaged = s.rst.damaged ∧ t.rst.slots = s.rst.slots ∧ t.sys = s.sys ∧ t.pins = s.pins ∧
    t.freeIndex = s.freeIndex ∧ t.pending = s.pending := by
  simp only [State.takeDone]
  repeat' first | (simp; done) | (simp [MeterInput.settings]; done) | (simp [Pfe.settings]; done) | split

@[simp] theorem State.takeLapse_frame (s : State) (run seq : Half) (addrs : BitVec 64) : let t := s.takeLapse run seq addrs
    t.pfe.rf0 = s.pfe.rf0 ∧ t.pfe.rf1 = s.pfe.rf1 ∧ t.pfe.zc = s.pfe.zc ∧ t.pfe.settings = s.pfe.settings ∧ t.time = s.time ∧
    t.ecu.copy = s.ecu.copy ∧ t.ecu.acc = s.ecu.acc ∧ t.ecu.outcomes = s.ecu.outcomes ∧ t.plt.head = s.plt.head ∧ t.plt.tail = s.plt.tail ∧
    t.plt.cyclic = s.plt.cyclic ∧ t.plt.loops = s.plt.loops ∧ t.rsq.run = s.rsq.run ∧ t.rsq.enrolSent = s.rsq.enrolSent ∧
    t.rsq.settle = s.rsq.settle ∧ t.rsq.figure = s.rsq.figure ∧ t.bli.stage = s.bli.stage ∧ t.bli.quiet = s.bli.quiet ∧
    t.bli.stuck = s.bli.stuck ∧ t.bli.dominantSince = s.bli.dominantSince ∧ t.bli.afterStuck = s.bli.afterStuck ∧ t.bli.low = s.bli.low ∧
    t.bli.unseen = s.bli.unseen ∧ t.bli.buffer = s.bli.buffer ∧ t.bli.w = s.bli.w ∧ t.bli.lineErrors = s.bli.lineErrors ∧
    t.bli.overruns = s.bli.overruns ∧ t.bli.lost = s.bli.lost ∧ t.bli.strays = s.bli.strays ∧ t.rrp.tq = s.rrp.tq ∧ t.rrp.td = s.rrp.td ∧
    t.rrp.mask = s.rrp.mask ∧ t.rrp.lastRefusal = s.rrp.lastRefusal ∧ t.seu.enable = s.seu.enable ∧ t.seu.block = s.seu.block ∧
    t.seu.watermark = s.seu.watermark ∧ t.seu.strokeTimeout = s.seu.strokeTimeout ∧ t.seu.voids = s.seu.voids ∧ t.seu.press = s.seu.press ∧
    t.seu.strokeTimer = s.seu.strokeTimer ∧ t.seu.seenInactive = s.seu.seenInactive ∧ t.seu.aborted = s.seu.aborted ∧
    t.seu.lamps = s.seu.lamps ∧ t.rst.damaged = s.rst.damaged ∧ t.rst.slots = s.rst.slots ∧ t.sys = s.sys ∧ t.pins = s.pins ∧
    t.freeIndex = s.freeIndex ∧ t.pending = s.pending := by
  simp only [State.takeLapse]
  repeat' first | (simp; done) | (simp [MeterInput.settings]; done) | (simp [Pfe.settings]; done) | split

@[simp] theorem State.takeWithdraw_frame (s : State) (x : BitVec 6) (run : Half) : let t := s.takeWithdraw x run
    t.pfe.rf0 = s.pfe.rf0 ∧ t.pfe.rf1 = s.pfe.rf1 ∧ t.pfe.zc = s.pfe.zc ∧ t.pfe.settings = s.pfe.settings ∧ t.time = s.time ∧
    t.ecu.copy = s.ecu.copy ∧ t.ecu.acc = s.ecu.acc ∧ t.ecu.outcomes = s.ecu.outcomes ∧ t.plt.head = s.plt.head ∧ t.plt.tail = s.plt.tail ∧
    t.plt.cyclic = s.plt.cyclic ∧ t.plt.loops = s.plt.loops ∧ t.rsq.run = s.rsq.run ∧ t.rsq.enrolSent = s.rsq.enrolSent ∧
    t.rsq.settle = s.rsq.settle ∧ t.rsq.figure = s.rsq.figure ∧ t.bli.stage = s.bli.stage ∧ t.bli.quiet = s.bli.quiet ∧
    t.bli.stuck = s.bli.stuck ∧ t.bli.dominantSince = s.bli.dominantSince ∧ t.bli.afterStuck = s.bli.afterStuck ∧ t.bli.low = s.bli.low ∧
    t.bli.unseen = s.bli.unseen ∧ t.bli.buffer = s.bli.buffer ∧ t.bli.w = s.bli.w ∧ t.bli.lineErrors = s.bli.lineErrors ∧
    t.bli.overruns = s.bli.overruns ∧ t.bli.lost = s.bli.lost ∧ t.bli.strays = s.bli.strays ∧ t.rrp.tq = s.rrp.tq ∧ t.rrp.td = s.rrp.td ∧
    t.rrp.mask = s.rrp.mask ∧ t.rrp.lastRefusal = s.rrp.lastRefusal ∧ t.seu.enable = s.seu.enable ∧ t.seu.block = s.seu.block ∧
    t.seu.watermark = s.seu.watermark ∧ t.seu.strokeTimeout = s.seu.strokeTimeout ∧ t.seu.voids = s.seu.voids ∧ t.seu.press = s.seu.press ∧
    t.seu.strokeTimer = s.seu.strokeTimer ∧ t.seu.seenInactive = s.seu.seenInactive ∧ t.seu.aborted = s.seu.aborted ∧
    t.seu.lamps = s.seu.lamps ∧ t.rst.damaged = s.rst.damaged ∧ t.rst.slots = s.rst.slots ∧ t.sys = s.sys ∧ t.pins = s.pins ∧
    t.freeIndex = s.freeIndex ∧ t.pending = s.pending := by
  simp only [State.takeWithdraw]
  repeat' first | (simp; done) | (simp [MeterInput.settings]; done) | (simp [Pfe.settings]; done) | split

/-! ### SealCommands -/

@[simp] theorem State.answerStale_frame (s : State) (x v : Nat) (run : Half) : let t := s.answerStale x v run
    t.pfe = s.pfe ∧ t.time = s.time ∧ t.gates = s.gates ∧ t.ecu = s.ecu ∧ t.plt = s.plt ∧ t.rsq = s.rsq ∧ t.bli.stage = s.bli.stage ∧
    t.bli.quiet = s.bli.quiet ∧ t.bli.stuck = s.bli.stuck ∧ t.bli.dominantSince = s.bli.dominantSince ∧
    t.bli.afterStuck = s.bli.afterStuck ∧ t.bli.low = s.bli.low ∧ t.bli.unseen = s.bli.unseen ∧ t.bli.buffer = s.bli.buffer ∧
    t.bli.attempt = s.bli.attempt ∧ t.bli.w = s.bli.w ∧ t.bli.lineErrors = s.bli.lineErrors ∧ t.bli.overruns = s.bli.overruns ∧
    t.bli.lost = s.bli.lost ∧ t.bli.strays = s.bli.strays ∧ t.rrp.queue = s.rrp.queue ∧ t.rrp.tq = s.rrp.tq ∧ t.rrp.td = s.rrp.td ∧
    t.rrp.delay = s.rrp.delay ∧ t.rrp.call = s.rrp.call ∧ t.rrp.drops = s.rrp.drops ∧ t.rrp.mask = s.rrp.mask ∧
    t.rrp.lastRefusal = s.rrp.lastRefusal ∧ t.seu.enable = s.seu.enable ∧ t.seu.block = s.seu.block ∧ t.seu.watermark = s.seu.watermark ∧
    t.seu.strokeTimeout = s.seu.strokeTimeout ∧ t.seu.claim = s.seu.claim ∧ t.seu.press = s.seu.press ∧
    t.seu.strokeTimer = s.seu.strokeTimer ∧ t.seu.seenInactive = s.seu.seenInactive ∧ t.seu.outcome = s.seu.outcome ∧
    t.seu.lamps = s.seu.lamps ∧ t.seu.reject = s.seu.reject ∧ t.seu.rejectTimer = s.seu.rejectTimer ∧ t.seu.aborted = s.seu.aborted ∧
    t.rst = s.rst ∧ t.sys = s.sys ∧ t.pins = s.pins ∧ t.freeIndex = s.freeIndex ∧ t.pending = s.pending := by
  simp only [State.answerStale]
  repeat' first | (simp; done) | split

@[simp] theorem State.hearClaim_frame (s : State) (x v : Nat) (run : Half) : let t := s.hearClaim x v run
    t.pfe = s.pfe ∧ t.time = s.time ∧ t.gates = s.gates ∧ t.ecu = s.ecu ∧ t.plt = s.plt ∧ t.rsq = s.rsq ∧ t.bli.stage = s.bli.stage ∧
    t.bli.quiet = s.bli.quiet ∧ t.bli.stuck = s.bli.stuck ∧ t.bli.dominantSince = s.bli.dominantSince ∧
    t.bli.afterStuck = s.bli.afterStuck ∧ t.bli.low = s.bli.low ∧ t.bli.unseen = s.bli.unseen ∧ t.bli.buffer = s.bli.buffer ∧
    t.bli.attempt = s.bli.attempt ∧ t.bli.w = s.bli.w ∧ t.bli.lineErrors = s.bli.lineErrors ∧ t.bli.overruns = s.bli.overruns ∧
    t.bli.lost = s.bli.lost ∧ t.bli.strays = s.bli.strays ∧ t.rrp.queue = s.rrp.queue ∧ t.rrp.tq = s.rrp.tq ∧ t.rrp.td = s.rrp.td ∧
    t.rrp.delay = s.rrp.delay ∧ t.rrp.call = s.rrp.call ∧ t.rrp.drops = s.rrp.drops ∧ t.rrp.mask = s.rrp.mask ∧
    t.rrp.lastRefusal = s.rrp.lastRefusal ∧ t.seu.enable = s.seu.enable ∧ t.seu.block = s.seu.block ∧
    t.seu.strokeTimeout = s.seu.strokeTimeout ∧ t.seu.claim = s.seu.claim ∧ t.seu.press = s.seu.press ∧
    t.seu.strokeTimer = s.seu.strokeTimer ∧ t.seu.seenInactive = s.seu.seenInactive ∧ t.seu.outcome = s.seu.outcome ∧
    t.seu.lamps = s.seu.lamps ∧ t.seu.reject = s.seu.reject ∧ t.seu.rejectTimer = s.seu.rejectTimer ∧ t.seu.aborted = s.seu.aborted ∧
    t.rst = s.rst ∧ t.sys = s.sys ∧ t.pins = s.pins ∧ t.freeIndex = s.freeIndex ∧ t.pending = s.pending := by
  simp only [State.hearClaim]
  repeat' first | (simp; done) | split

@[simp] theorem State.claimVoided_frame (s : State) : let t := s.claimVoided
    t.pfe = s.pfe ∧ t.time = s.time ∧ t.gates = s.gates ∧ t.ecu = s.ecu ∧ t.plt = s.plt ∧ t.rsq.run = s.rsq.run ∧ t.rsq.seq = s.rsq.seq ∧
    t.rsq.desc = s.rsq.desc ∧ t.rsq.roster = s.rsq.roster ∧ t.rsq.enrolWindow = s.rsq.enrolWindow ∧ t.rsq.allowance = s.rsq.allowance ∧
    t.rsq.barrier = s.rsq.barrier ∧ t.rsq.enrolSent = s.rsq.enrolSent ∧ t.rsq.phase = s.rsq.phase ∧ t.rsq.settle = s.rsq.settle ∧
    t.rsq.received = s.rsq.received ∧ t.rsq.window = s.rsq.window ∧ t.rsq.figure = s.rsq.figure ∧ t.rsq.tally = s.rsq.tally ∧
    t.rsq.verdict = s.rsq.verdict ∧ t.bli.stage = s.bli.stage ∧ t.bli.quiet = s.bli.quiet ∧ t.bli.stuck = s.bli.stuck ∧
    t.bli.dominantSince = s.bli.dominantSince ∧ t.bli.afterStuck = s.bli.afterStuck ∧ t.bli.low = s.bli.low ∧ t.bli.unseen = s.bli.unseen ∧
    t.bli.buffer = s.bli.buffer ∧ t.bli.attempt = s.bli.attempt ∧ t.bli.w = s.bli.w ∧ t.bli.lineErrors = s.bli.lineErrors ∧
    t.bli.overruns = s.bli.overruns ∧ t.bli.lost = s.bli.lost ∧ t.bli.strays = s.bli.strays ∧ t.rrp.queue = s.rrp.queue ∧
    t.rrp.tq = s.rrp.tq ∧ t.rrp.td = s.rrp.td ∧ t.rrp.delay = s.rrp.delay ∧ t.rrp.call = s.rrp.call ∧ t.rrp.drops = s.rrp.drops ∧
    t.rrp.mask = s.rrp.mask ∧ t.rrp.lastRefusal = s.rrp.lastRefusal ∧ t.seu.enable = s.seu.enable ∧ t.seu.block = s.seu.block ∧
    t.seu.watermark = s.seu.watermark ∧ t.seu.strokeTimeout = s.seu.strokeTimeout ∧ t.seu.voids = s.seu.voids ∧ t.seu.press = s.seu.press ∧
    t.seu.strokeTimer = s.seu.strokeTimer ∧ t.seu.seenInactive = s.seu.seenInactive ∧ t.seu.lamps = s.seu.lamps ∧
    t.seu.reject = s.seu.reject ∧ t.seu.rejectTimer = s.seu.rejectTimer ∧ t.seu.aborted = s.seu.aborted ∧ t.rst.slots = s.rst.slots ∧
    t.rst.damaged = s.rst.damaged ∧ t.rst.reserveAsked = s.rst.reserveAsked ∧ t.sys = s.sys ∧ t.pins = s.pins ∧ t.freeIndex = s.freeIndex ∧
    t.pending = s.pending := by
  simp only [State.claimVoided]
  repeat' first | (simp; done) | split

@[simp] theorem State.voidOwn_frame (s : State) (v : Nat) : let t := s.voidOwn v
    t.pfe = s.pfe ∧ t.time = s.time ∧ t.gates = s.gates ∧ t.ecu = s.ecu ∧ t.plt = s.plt ∧ t.rsq.run = s.rsq.run ∧ t.rsq.seq = s.rsq.seq ∧
    t.rsq.desc = s.rsq.desc ∧ t.rsq.roster = s.rsq.roster ∧ t.rsq.enrolWindow = s.rsq.enrolWindow ∧ t.rsq.allowance = s.rsq.allowance ∧
    t.rsq.barrier = s.rsq.barrier ∧ t.rsq.enrolSent = s.rsq.enrolSent ∧ t.rsq.phase = s.rsq.phase ∧ t.rsq.settle = s.rsq.settle ∧
    t.rsq.received = s.rsq.received ∧ t.rsq.window = s.rsq.window ∧ t.rsq.figure = s.rsq.figure ∧ t.rsq.tally = s.rsq.tally ∧
    t.rsq.verdict = s.rsq.verdict ∧ t.bli.stage = s.bli.stage ∧ t.bli.quiet = s.bli.quiet ∧ t.bli.stuck = s.bli.stuck ∧
    t.bli.dominantSince = s.bli.dominantSince ∧ t.bli.afterStuck = s.bli.afterStuck ∧ t.bli.low = s.bli.low ∧ t.bli.unseen = s.bli.unseen ∧
    t.bli.buffer = s.bli.buffer ∧ t.bli.attempt = s.bli.attempt ∧ t.bli.w = s.bli.w ∧ t.bli.lineErrors = s.bli.lineErrors ∧
    t.bli.overruns = s.bli.overruns ∧ t.bli.lost = s.bli.lost ∧ t.bli.strays = s.bli.strays ∧ t.rrp.queue = s.rrp.queue ∧
    t.rrp.tq = s.rrp.tq ∧ t.rrp.td = s.rrp.td ∧ t.rrp.delay = s.rrp.delay ∧ t.rrp.call = s.rrp.call ∧ t.rrp.drops = s.rrp.drops ∧
    t.rrp.mask = s.rrp.mask ∧ t.rrp.lastRefusal = s.rrp.lastRefusal ∧ t.seu.enable = s.seu.enable ∧ t.seu.block = s.seu.block ∧
    t.seu.watermark = s.seu.watermark ∧ t.seu.strokeTimeout = s.seu.strokeTimeout ∧ t.seu.voids = s.seu.voids ∧ t.seu.press = s.seu.press ∧
    t.seu.strokeTimer = s.seu.strokeTimer ∧ t.seu.seenInactive = s.seu.seenInactive ∧ t.seu.lamps = s.seu.lamps ∧
    t.seu.reject = s.seu.reject ∧ t.seu.rejectTimer = s.seu.rejectTimer ∧ t.seu.aborted = s.seu.aborted ∧ t.rst.slots = s.rst.slots ∧
    t.rst.damaged = s.rst.damaged ∧ t.rst.reserveAsked = s.rst.reserveAsked ∧ t.sys = s.sys ∧ t.pins = s.pins ∧ t.freeIndex = s.freeIndex ∧
    t.pending = s.pending := by
  simp only [State.voidOwn]
  repeat' first | (simp; done) | split

@[simp] theorem State.confirmClaim_frame (s : State) : let t := s.confirmClaim
    t.pfe = s.pfe ∧ t.time = s.time ∧ t.gates = s.gates ∧ t.ecu = s.ecu ∧ t.plt = s.plt ∧ t.rsq.run = s.rsq.run ∧ t.rsq.seq = s.rsq.seq ∧
    t.rsq.desc = s.rsq.desc ∧ t.rsq.roster = s.rsq.roster ∧ t.rsq.enrolWindow = s.rsq.enrolWindow ∧ t.rsq.allowance = s.rsq.allowance ∧
    t.rsq.barrier = s.rsq.barrier ∧ t.rsq.enrolSent = s.rsq.enrolSent ∧ t.rsq.phase = s.rsq.phase ∧ t.rsq.settle = s.rsq.settle ∧
    t.rsq.received = s.rsq.received ∧ t.rsq.window = s.rsq.window ∧ t.rsq.figure = s.rsq.figure ∧ t.rsq.tally = s.rsq.tally ∧
    t.rsq.verdict = s.rsq.verdict ∧ t.bli.stage = s.bli.stage ∧ t.bli.quiet = s.bli.quiet ∧ t.bli.stuck = s.bli.stuck ∧
    t.bli.dominantSince = s.bli.dominantSince ∧ t.bli.afterStuck = s.bli.afterStuck ∧ t.bli.low = s.bli.low ∧ t.bli.unseen = s.bli.unseen ∧
    t.bli.buffer = s.bli.buffer ∧ t.bli.coord = s.bli.coord ∧ t.bli.waiting = s.bli.waiting ∧ t.bli.attempt = s.bli.attempt ∧
    t.bli.w = s.bli.w ∧ t.bli.lineErrors = s.bli.lineErrors ∧ t.bli.overruns = s.bli.overruns ∧ t.bli.lost = s.bli.lost ∧
    t.bli.strays = s.bli.strays ∧ t.rrp.queue = s.rrp.queue ∧ t.rrp.tq = s.rrp.tq ∧ t.rrp.td = s.rrp.td ∧ t.rrp.delay = s.rrp.delay ∧
    t.rrp.call = s.rrp.call ∧ t.rrp.drops = s.rrp.drops ∧ t.rrp.mask = s.rrp.mask ∧ t.rrp.lastRefusal = s.rrp.lastRefusal ∧
    t.seu.enable = s.seu.enable ∧ t.seu.block = s.seu.block ∧ t.seu.watermark = s.seu.watermark ∧
    t.seu.strokeTimeout = s.seu.strokeTimeout ∧ t.seu.voids = s.seu.voids ∧ t.seu.press = s.seu.press ∧
    t.seu.strokeTimer = s.seu.strokeTimer ∧ t.seu.seenInactive = s.seu.seenInactive ∧ t.seu.lamps = s.seu.lamps ∧
    t.seu.reject = s.seu.reject ∧ t.seu.rejectTimer = s.seu.rejectTimer ∧ t.seu.aborted = s.seu.aborted ∧ t.rst.slots = s.rst.slots ∧
    t.rst.damaged = s.rst.damaged ∧ t.rst.reserveAsked = s.rst.reserveAsked ∧ t.sys = s.sys ∧ t.pins = s.pins ∧ t.freeIndex = s.freeIndex ∧
    t.pending = s.pending := by
  simp only [State.confirmClaim]
  repeat' first | (simp; done) | split

@[simp] theorem State.takeSealClaim_frame (s : State) (x : BitVec 6) (run : Half) (serial : Word) : let t := s.takeSealClaim x run serial
    t.pfe = s.pfe ∧ t.time = s.time ∧ t.gates = s.gates ∧ t.ecu = s.ecu ∧ t.plt = s.plt ∧ t.rsq = s.rsq ∧ t.bli.stage = s.bli.stage ∧
    t.bli.quiet = s.bli.quiet ∧ t.bli.stuck = s.bli.stuck ∧ t.bli.dominantSince = s.bli.dominantSince ∧
    t.bli.afterStuck = s.bli.afterStuck ∧ t.bli.low = s.bli.low ∧ t.bli.unseen = s.bli.unseen ∧ t.bli.buffer = s.bli.buffer ∧
    t.bli.attempt = s.bli.attempt ∧ t.bli.w = s.bli.w ∧ t.bli.lineErrors = s.bli.lineErrors ∧ t.bli.overruns = s.bli.overruns ∧
    t.bli.lost = s.bli.lost ∧ t.bli.strays = s.bli.strays ∧ t.rrp.queue = s.rrp.queue ∧ t.rrp.tq = s.rrp.tq ∧ t.rrp.td = s.rrp.td ∧
    t.rrp.delay = s.rrp.delay ∧ t.rrp.call = s.rrp.call ∧ t.rrp.drops = s.rrp.drops ∧ t.rrp.mask = s.rrp.mask ∧
    t.rrp.lastRefusal = s.rrp.lastRefusal ∧ t.seu.enable = s.seu.enable ∧ t.seu.block = s.seu.block ∧
    t.seu.strokeTimeout = s.seu.strokeTimeout ∧ t.seu.claim = s.seu.claim ∧ t.seu.press = s.seu.press ∧
    t.seu.strokeTimer = s.seu.strokeTimer ∧ t.seu.seenInactive = s.seu.seenInactive ∧ t.seu.outcome = s.seu.outcome ∧
    t.seu.reject = s.seu.reject ∧ t.seu.rejectTimer = s.seu.rejectTimer ∧ t.seu.aborted = s.seu.aborted ∧ t.seu.lamps = s.seu.lamps ∧
    t.rst = s.rst ∧ t.sys = s.sys ∧ t.pins = s.pins ∧ t.freeIndex = s.freeIndex ∧ t.pending = s.pending := by
  simp only [State.takeSealClaim]
  repeat' first | (simp; done) | (simp [MeterInput.settings]; done) | (simp [Pfe.settings]; done) | split

@[simp] theorem State.takeSealVoid_frame (s : State) (run : Half) (claimer : Byte) (serial watermark : Word) : let t := s.takeSealVoid run claimer serial watermark
    t.pfe = s.pfe ∧ t.time = s.time ∧ t.gates = s.gates ∧ t.ecu = s.ecu ∧ t.plt = s.plt ∧ t.rsq.run = s.rsq.run ∧ t.rsq.seq = s.rsq.seq ∧
    t.rsq.desc = s.rsq.desc ∧ t.rsq.enrolWindow = s.rsq.enrolWindow ∧ t.rsq.allowance = s.rsq.allowance ∧ t.rsq.barrier = s.rsq.barrier ∧
    t.rsq.enrolSent = s.rsq.enrolSent ∧ t.rsq.phase = s.rsq.phase ∧ t.rsq.settle = s.rsq.settle ∧ t.rsq.received = s.rsq.received ∧
    t.rsq.window = s.rsq.window ∧ t.rsq.figure = s.rsq.figure ∧ t.rsq.tally = s.rsq.tally ∧ t.rsq.verdict = s.rsq.verdict ∧
    t.rsq.roster = s.rsq.roster ∧ t.bli.stage = s.bli.stage ∧ t.bli.quiet = s.bli.quiet ∧ t.bli.stuck = s.bli.stuck ∧
    t.bli.dominantSince = s.bli.dominantSince ∧ t.bli.afterStuck = s.bli.afterStuck ∧ t.bli.low = s.bli.low ∧ t.bli.unseen = s.bli.unseen ∧
    t.bli.buffer = s.bli.buffer ∧ t.bli.attempt = s.bli.attempt ∧ t.bli.w = s.bli.w ∧ t.bli.lineErrors = s.bli.lineErrors ∧
    t.bli.overruns = s.bli.overruns ∧ t.bli.lost = s.bli.lost ∧ t.bli.strays = s.bli.strays ∧ t.rrp.queue = s.rrp.queue ∧
    t.rrp.tq = s.rrp.tq ∧ t.rrp.td = s.rrp.td ∧ t.rrp.delay = s.rrp.delay ∧ t.rrp.call = s.rrp.call ∧ t.rrp.drops = s.rrp.drops ∧
    t.rrp.mask = s.rrp.mask ∧ t.rrp.lastRefusal = s.rrp.lastRefusal ∧ t.rst.damaged = s.rst.damaged ∧
    t.rst.reserveAsked = s.rst.reserveAsked ∧ t.rst.slots = s.rst.slots ∧ t.sys = s.sys ∧ t.pins = s.pins ∧ t.freeIndex = s.freeIndex ∧
    t.pending = s.pending := by
  simp only [State.takeSealVoid]
  repeat' first | (simp; done) | (simp [MeterInput.settings]; done) | (simp [Pfe.settings]; done) | split

/-! ### StoreCommands -/

@[simp] theorem State.reserveNow_frame (s : State) : let t := s.reserveNow
    t.pfe = s.pfe ∧ t.time = s.time ∧ t.gates = s.gates ∧ t.ecu = s.ecu ∧ t.plt = s.plt ∧ t.rsq.run = s.rsq.run ∧ t.rsq.seq = s.rsq.seq ∧
    t.rsq.desc = s.rsq.desc ∧ t.rsq.roster = s.rsq.roster ∧ t.rsq.enrolWindow = s.rsq.enrolWindow ∧ t.rsq.allowance = s.rsq.allowance ∧
    t.rsq.barrier = s.rsq.barrier ∧ t.rsq.enrolSent = s.rsq.enrolSent ∧ t.rsq.phase = s.rsq.phase ∧ t.rsq.settle = s.rsq.settle ∧
    t.rsq.received = s.rsq.received ∧ t.rsq.window = s.rsq.window ∧ t.rsq.figure = s.rsq.figure ∧ t.rsq.tally = s.rsq.tally ∧
    t.rsq.verdict = s.rsq.verdict ∧ t.bli.stage = s.bli.stage ∧ t.bli.quiet = s.bli.quiet ∧ t.bli.stuck = s.bli.stuck ∧
    t.bli.dominantSince = s.bli.dominantSince ∧ t.bli.afterStuck = s.bli.afterStuck ∧ t.bli.low = s.bli.low ∧ t.bli.unseen = s.bli.unseen ∧
    t.bli.buffer = s.bli.buffer ∧ t.bli.attempt = s.bli.attempt ∧ t.bli.w = s.bli.w ∧ t.bli.lineErrors = s.bli.lineErrors ∧
    t.bli.overruns = s.bli.overruns ∧ t.bli.lost = s.bli.lost ∧ t.bli.strays = s.bli.strays ∧ t.rrp.queue = s.rrp.queue ∧
    t.rrp.tq = s.rrp.tq ∧ t.rrp.td = s.rrp.td ∧ t.rrp.delay = s.rrp.delay ∧ t.rrp.call = s.rrp.call ∧ t.rrp.drops = s.rrp.drops ∧
    t.rrp.mask = s.rrp.mask ∧ t.rrp.lastRefusal = s.rrp.lastRefusal ∧ t.seu.enable = s.seu.enable ∧ t.seu.block = s.seu.block ∧
    t.seu.watermark = s.seu.watermark ∧ t.seu.strokeTimeout = s.seu.strokeTimeout ∧ t.seu.voids = s.seu.voids ∧ t.seu.press = s.seu.press ∧
    t.seu.strokeTimer = s.seu.strokeTimer ∧ t.seu.seenInactive = s.seu.seenInactive ∧ t.seu.lamps = s.seu.lamps ∧
    t.seu.reject = s.seu.reject ∧ t.seu.rejectTimer = s.seu.rejectTimer ∧ t.seu.aborted = s.seu.aborted ∧ t.rst.slots = s.rst.slots ∧
    t.rst.damaged = s.rst.damaged ∧ t.sys = s.sys ∧ t.pins = s.pins ∧ t.freeIndex = s.freeIndex ∧ t.pending = s.pending := by
  simp only [State.reserveNow]
  repeat' first | (simp; done) | split

@[simp] theorem State.levelDone_frame (s : State) (n : Nat) (job : WriteJob) : let t := s.levelDone n job
    t.pfe = s.pfe ∧ t.time = s.time ∧ t.gates = s.gates ∧ t.ecu = s.ecu ∧ t.plt = s.plt ∧ t.rsq.run = s.rsq.run ∧ t.rsq.seq = s.rsq.seq ∧
    t.rsq.desc = s.rsq.desc ∧ t.rsq.roster = s.rsq.roster ∧ t.rsq.enrolWindow = s.rsq.enrolWindow ∧ t.rsq.allowance = s.rsq.allowance ∧
    t.rsq.barrier = s.rsq.barrier ∧ t.rsq.enrolSent = s.rsq.enrolSent ∧ t.rsq.phase = s.rsq.phase ∧ t.rsq.settle = s.rsq.settle ∧
    t.rsq.received = s.rsq.received ∧ t.rsq.window = s.rsq.window ∧ t.rsq.figure = s.rsq.figure ∧ t.rsq.tally = s.rsq.tally ∧
    t.rsq.verdict = s.rsq.verdict ∧ t.bli.stage = s.bli.stage ∧ t.bli.quiet = s.bli.quiet ∧ t.bli.stuck = s.bli.stuck ∧
    t.bli.dominantSince = s.bli.dominantSince ∧ t.bli.afterStuck = s.bli.afterStuck ∧ t.bli.low = s.bli.low ∧ t.bli.unseen = s.bli.unseen ∧
    t.bli.buffer = s.bli.buffer ∧ t.bli.attempt = s.bli.attempt ∧ t.bli.w = s.bli.w ∧ t.bli.lineErrors = s.bli.lineErrors ∧
    t.bli.overruns = s.bli.overruns ∧ t.bli.lost = s.bli.lost ∧ t.bli.strays = s.bli.strays ∧ t.rrp.queue = s.rrp.queue ∧
    t.rrp.tq = s.rrp.tq ∧ t.rrp.td = s.rrp.td ∧ t.rrp.delay = s.rrp.delay ∧ t.rrp.call = s.rrp.call ∧ t.rrp.drops = s.rrp.drops ∧
    t.rrp.mask = s.rrp.mask ∧ t.rrp.lastRefusal = s.rrp.lastRefusal ∧ t.seu.enable = s.seu.enable ∧ t.seu.block = s.seu.block ∧
    t.seu.watermark = s.seu.watermark ∧ t.seu.strokeTimeout = s.seu.strokeTimeout ∧ t.seu.voids = s.seu.voids ∧ t.seu.lamps = s.seu.lamps ∧
    t.seu.reject = s.seu.reject ∧ t.seu.rejectTimer = s.seu.rejectTimer ∧ t.seu.aborted = s.seu.aborted ∧ t.rst.damaged = s.rst.damaged ∧
    t.sys = s.sys ∧ t.pins = s.pins ∧ t.freeIndex = s.freeIndex ∧ t.pending = s.pending := by
  simp only [State.levelDone]
  repeat' first | (simp; done) | split

/-! ### ReportCommands -/

@[simp] theorem State.holdPress_frame (s : State) : let t := s.holdPress
    t.pfe = s.pfe ∧ t.time = s.time ∧ t.gates = s.gates ∧ t.ecu = s.ecu ∧ t.plt = s.plt ∧ t.rsq.run = s.rsq.run ∧ t.rsq.seq = s.rsq.seq ∧
    t.rsq.desc = s.rsq.desc ∧ t.rsq.roster = s.rsq.roster ∧ t.rsq.enrolWindow = s.rsq.enrolWindow ∧ t.rsq.allowance = s.rsq.allowance ∧
    t.rsq.barrier = s.rsq.barrier ∧ t.rsq.enrolSent = s.rsq.enrolSent ∧ t.rsq.phase = s.rsq.phase ∧ t.rsq.settle = s.rsq.settle ∧
    t.rsq.received = s.rsq.received ∧ t.rsq.window = s.rsq.window ∧ t.rsq.figure = s.rsq.figure ∧ t.rsq.tally = s.rsq.tally ∧
    t.rsq.verdict = s.rsq.verdict ∧ t.bli.stage = s.bli.stage ∧ t.bli.quiet = s.bli.quiet ∧ t.bli.stuck = s.bli.stuck ∧
    t.bli.dominantSince = s.bli.dominantSince ∧ t.bli.afterStuck = s.bli.afterStuck ∧ t.bli.low = s.bli.low ∧ t.bli.unseen = s.bli.unseen ∧
    t.bli.buffer = s.bli.buffer ∧ t.bli.coord = s.bli.coord ∧ t.bli.waiting = s.bli.waiting ∧ t.bli.attempt = s.bli.attempt ∧
    t.bli.w = s.bli.w ∧ t.bli.lineErrors = s.bli.lineErrors ∧ t.bli.overruns = s.bli.overruns ∧ t.bli.lost = s.bli.lost ∧
    t.bli.strays = s.bli.strays ∧ t.rrp.queue = s.rrp.queue ∧ t.rrp.tq = s.rrp.tq ∧ t.rrp.td = s.rrp.td ∧ t.rrp.delay = s.rrp.delay ∧
    t.rrp.call = s.rrp.call ∧ t.rrp.drops = s.rrp.drops ∧ t.rrp.mask = s.rrp.mask ∧ t.rrp.lastRefusal = s.rrp.lastRefusal ∧
    t.seu.enable = s.seu.enable ∧ t.seu.block = s.seu.block ∧ t.seu.watermark = s.seu.watermark ∧
    t.seu.strokeTimeout = s.seu.strokeTimeout ∧ t.seu.voids = s.seu.voids ∧ t.seu.seenInactive = s.seu.seenInactive ∧
    t.seu.lamps = s.seu.lamps ∧ t.seu.reject = s.seu.reject ∧ t.seu.rejectTimer = s.seu.rejectTimer ∧ t.seu.aborted = s.seu.aborted ∧
    t.rst.slots = s.rst.slots ∧ t.rst.damaged = s.rst.damaged ∧ t.rst.reserveAsked = s.rst.reserveAsked ∧ t.sys = s.sys ∧ t.pins = s.pins ∧
    t.freeIndex = s.freeIndex ∧ t.pending = s.pending := by
  simp only [State.holdPress]
  repeat' first | (simp; done) | split

@[simp] theorem State.holdReporting_frame (s : State) (old new : Bool) : let t := s.holdReporting old new
    t.pfe = s.pfe ∧ t.time = s.time ∧ t.gates = s.gates ∧ t.ecu = s.ecu ∧ t.plt = s.plt ∧ t.rsq = s.rsq ∧ t.bli.stage = s.bli.stage ∧
    t.bli.quiet = s.bli.quiet ∧ t.bli.stuck = s.bli.stuck ∧ t.bli.dominantSince = s.bli.dominantSince ∧
    t.bli.afterStuck = s.bli.afterStuck ∧ t.bli.low = s.bli.low ∧ t.bli.unseen = s.bli.unseen ∧ t.bli.buffer = s.bli.buffer ∧
    t.bli.coord = s.bli.coord ∧ t.bli.waiting = s.bli.waiting ∧ t.bli.attempt = s.bli.attempt ∧ t.bli.w = s.bli.w ∧
    t.bli.lineErrors = s.bli.lineErrors ∧ t.bli.overruns = s.bli.overruns ∧ t.bli.lost = s.bli.lost ∧ t.bli.strays = s.bli.strays ∧
    t.rrp.tq = s.rrp.tq ∧ t.rrp.td = s.rrp.td ∧ t.rrp.flags = s.rrp.flags ∧ t.rrp.mask = s.rrp.mask ∧ t.rrp.statusDue = s.rrp.statusDue ∧
    t.rrp.lastRefusal = s.rrp.lastRefusal ∧ t.seu = s.seu ∧ t.rst = s.rst ∧ t.sys = s.sys ∧ t.pins = s.pins ∧ t.freeIndex = s.freeIndex ∧
    t.pending = s.pending := by
  simp only [State.holdReporting]
  repeat' first | (simp; done) | split

@[simp] theorem State.setHolds_frame (s : State) (new : Holds) : let t := s.setHolds new
    t.pfe.settings = s.pfe.settings ∧ t.pfe.rf0 = s.pfe.rf0 ∧ t.pfe.rf1 = s.pfe.rf1 ∧ t.pfe.zc = s.pfe.zc ∧ t.time = s.time ∧
    t.ecu.copy = s.ecu.copy ∧ t.ecu.acc = s.ecu.acc ∧ t.plt = s.plt ∧ t.rsq.run = s.rsq.run ∧ t.rsq.seq = s.rsq.seq ∧
    t.rsq.desc = s.rsq.desc ∧ t.rsq.roster = s.rsq.roster ∧ t.rsq.enrolWindow = s.rsq.enrolWindow ∧ t.rsq.allowance = s.rsq.allowance ∧
    t.rsq.barrier = s.rsq.barrier ∧ t.rsq.enrolSent = s.rsq.enrolSent ∧ t.rsq.settle = s.rsq.settle ∧ t.rsq.window = s.rsq.window ∧
    t.rsq.figure = s.rsq.figure ∧ t.rsq.tally = s.rsq.tally ∧ t.rsq.verdict = s.rsq.verdict ∧ t.bli.stage = s.bli.stage ∧
    t.bli.quiet = s.bli.quiet ∧ t.bli.stuck = s.bli.stuck ∧ t.bli.dominantSince = s.bli.dominantSince ∧
    t.bli.afterStuck = s.bli.afterStuck ∧ t.bli.low = s.bli.low ∧ t.bli.unseen = s.bli.unseen ∧ t.bli.buffer = s.bli.buffer ∧
    t.bli.attempt = s.bli.attempt ∧ t.bli.w = s.bli.w ∧ t.bli.lineErrors = s.bli.lineErrors ∧ t.bli.overruns = s.bli.overruns ∧
    t.bli.lost = s.bli.lost ∧ t.bli.strays = s.bli.strays ∧ t.rrp.tq = s.rrp.tq ∧ t.rrp.td = s.rrp.td ∧ t.rrp.mask = s.rrp.mask ∧
    t.rrp.lastRefusal = s.rrp.lastRefusal ∧ t.seu.enable = s.seu.enable ∧ t.seu.block = s.seu.block ∧ t.seu.watermark = s.seu.watermark ∧
    t.seu.strokeTimeout = s.seu.strokeTimeout ∧ t.seu.voids = s.seu.voids ∧ t.seu.seenInactive = s.seu.seenInactive ∧
    t.seu.lamps = s.seu.lamps ∧ t.seu.reject = s.seu.reject ∧ t.seu.rejectTimer = s.seu.rejectTimer ∧ t.seu.aborted = s.seu.aborted ∧
    t.rst.slots = s.rst.slots ∧ t.rst.damaged = s.rst.damaged ∧ t.rst.reserveAsked = s.rst.reserveAsked ∧ t.sys.inReset = s.sys.inReset ∧
    t.sys.cause = s.sys.cause ∧ t.sys.address = s.sys.address ∧ t.sys.rate = s.sys.rate ∧ t.pins = s.pins ∧ t.freeIndex = s.freeIndex ∧
    t.pending = s.pending := by
  simp only [State.setHolds]
  repeat' first | (simp; done) | (simp [MeterInput.settings]; done) | (simp [Pfe.settings]; done) | split

@[simp] theorem State.takeEventClear_frame (s : State) (clear mask : Half) : let t := s.takeEventClear clear mask
    t.pfe = s.pfe ∧ t.time = s.time ∧ t.gates = s.gates ∧ t.ecu = s.ecu ∧ t.plt = s.plt ∧ t.rsq = s.rsq ∧ t.bli = s.bli ∧
    t.rrp.queue = s.rrp.queue ∧ t.rrp.tq = s.rrp.tq ∧ t.rrp.td = s.rrp.td ∧ t.rrp.delay = s.rrp.delay ∧ t.rrp.call = s.rrp.call ∧
    t.rrp.drops = s.rrp.drops ∧ t.rrp.lastRefusal = s.rrp.lastRefusal ∧ t.rrp.statusDue = s.rrp.statusDue ∧ t.seu = s.seu ∧ t.rst = s.rst ∧
    t.sys = s.sys ∧ t.pins = s.pins ∧ t.freeIndex = s.freeIndex ∧ t.pending = s.pending := by
  simp only [State.takeEventClear]
  repeat' first | (simp; done) | (simp [MeterInput.settings]; done) | (simp [Pfe.settings]; done) | split

/-! ### ReceiveCommands -/

/- The owner's act for each frame, to rewrite with in place of unfolding its one match over every command. -/
@[simp] theorem State.owner_planPut (s : State) (payload : List Byte) : s.owner (.planPut payload) = s.takePlanPut payload := rfl
@[simp] theorem State.owner_planTail (s : State) (run : Half) (tail : Byte) : s.owner (.planTail run tail) = s.takePlanTail run tail := rfl
@[simp] theorem State.owner_planClear (s : State) : s.owner .planClear = s.takePlanClear := rfl
@[simp] theorem State.owner_runOpen (s : State) (f : RunOpenFields) (present : Bool) :
    s.owner (.runOpen f present) = s.takeRunOpen f present := rfl
@[simp] theorem State.owner_loadReady (s : State) (run seq : Half) (desc : Byte) :
    s.owner (.loadReady run seq desc) = s.takeLoadReady run seq desc := rfl
@[simp] theorem State.owner_runAbort (s : State) (run : Half) : s.owner (.runAbort run) = s.takeRunAbort run := rfl
@[simp] theorem State.owner_runClose (s : State) (run : Half) : s.owner (.runClose run) = s.takeRunClose run := rfl
@[simp] theorem State.owner_holdSet (s : State) (holds : Byte) : s.owner (.holdSet holds) = s.setHolds (Holds.ofByte holds) := rfl
@[simp] theorem State.owner_eventClear (s : State) (clear mask : Half) :
    s.owner (.eventClear clear mask) = s.takeEventClear clear mask := rfl
@[simp] theorem State.owner_recordMark (s : State) (slot : Byte) (number : Half) :
    s.owner (.recordMark slot number) = s.markRecord slot.toNat number.toNat := rfl
@[simp] theorem State.owner_storeWipe (s : State) : s.owner .storeWipe = s.wipeStore := rfl
@[simp] theorem State.owner_enrol (s : State) (x : BitVec 6) (run : Half) : s.owner (.enrol x run) = s.takeEnrol x run := rfl
@[simp] theorem State.owner_done (s : State) (x : BitVec 6) (run seq : Half) (mask : Byte) (figure : Option Word) :
    s.owner (.done x run seq mask figure) = s.takeDone x run seq figure := rfl
@[simp] theorem State.owner_lapse (s : State) (x : BitVec 6) (run seq : Half) (addrs : BitVec 64) :
    s.owner (.lapse x run seq addrs) = s.takeLapse run seq addrs := rfl
@[simp] theorem State.owner_withdraw (s : State) (x : BitVec 6) (run seq : Half) (reason : Byte) :
    s.owner (.withdraw x run seq reason) = s.takeWithdraw x run := rfl
@[simp] theorem State.owner_sealClaim (s : State) (x : BitVec 6) (run : Half) (serial : Word) :
    s.owner (.sealClaim x run serial) = s.takeSealClaim x run serial := rfl
@[simp] theorem State.owner_sealVoid (s : State) (x : BitVec 6) (run : Half) (claimer : Byte) (serial watermark : Word) :
    s.owner (.sealVoid x run claimer serial watermark) = s.takeSealVoid run claimer serial watermark := rfl

@[simp] theorem State.owner_frame (s : State) (c : Instr) : let t := s.owner c
    t.time = s.time ∧ t.bli.stage = s.bli.stage ∧ t.bli.quiet = s.bli.quiet ∧ t.bli.stuck = s.bli.stuck ∧
    t.bli.dominantSince = s.bli.dominantSince ∧ t.bli.afterStuck = s.bli.afterStuck ∧ t.bli.low = s.bli.low ∧ t.bli.unseen = s.bli.unseen ∧
    t.bli.w = s.bli.w ∧ t.bli.lineErrors = s.bli.lineErrors ∧ t.bli.overruns = s.bli.overruns ∧ t.bli.lost = s.bli.lost ∧
    t.rst.damaged = s.rst.damaged ∧ t.sys.inReset = s.sys.inReset ∧ t.sys.cause = s.sys.cause ∧ t.sys.address = s.sys.address ∧
    t.sys.rate = s.sys.rate ∧ t.freeIndex = s.freeIndex ∧ t.pending = s.pending := by
  cases c <;> first | (simp; done) | repeat' constructor

@[simp] theorem State.enterBuffer_pending (s : State) (f : RxFrame) (present : Bool) : (s.enterBuffer f present).pending = s.pending := by
  simp only [State.enterBuffer]
  repeat' first | (simp; done) | split

@[simp] theorem State.acceptFrame_pending (s : State) (f : RxFrame) (present : Bool) : (s.acceptFrame f present).pending = s.pending := by
  simp only [State.acceptFrame]
  repeat' first | (simp; done) | split

/-! ### Clock -/

@[simp] theorem State.tenMs_frame (s : State) : let t := s.tenMs
    t.pfe = s.pfe ∧ t.time = s.time ∧ t.gates = s.gates ∧ t.ecu = s.ecu ∧ t.plt = s.plt ∧ t.rsq.runState = s.rsq.runState ∧
    t.rsq.run = s.rsq.run ∧ t.rsq.seq = s.rsq.seq ∧ t.rsq.desc = s.rsq.desc ∧ t.rsq.roster = s.rsq.roster ∧
    t.rsq.allowance = s.rsq.allowance ∧ t.rsq.enrolSent = s.rsq.enrolSent ∧ t.rsq.phase = s.rsq.phase ∧ t.rsq.settle = s.rsq.settle ∧
    t.rsq.received = s.rsq.received ∧ t.rsq.window = s.rsq.window ∧ t.rsq.figure = s.rsq.figure ∧ t.rsq.tally = s.rsq.tally ∧
    t.rsq.verdict = s.rsq.verdict ∧ t.bli = s.bli ∧ t.rrp.queue = s.rrp.queue ∧ t.rrp.tq = s.rrp.tq ∧ t.rrp.td = s.rrp.td ∧
    t.rrp.call = s.rrp.call ∧ t.rrp.drops = s.rrp.drops ∧ t.rrp.flags = s.rrp.flags ∧ t.rrp.mask = s.rrp.mask ∧
    t.rrp.statusDue = s.rrp.statusDue ∧ t.rrp.lastRefusal = s.rrp.lastRefusal ∧ t.seu.enable = s.seu.enable ∧ t.seu.block = s.seu.block ∧
    t.seu.watermark = s.seu.watermark ∧ t.seu.strokeTimeout = s.seu.strokeTimeout ∧ t.seu.voids = s.seu.voids ∧ t.seu.claim = s.seu.claim ∧
    t.seu.press = s.seu.press ∧ t.seu.seenInactive = s.seu.seenInactive ∧ t.seu.outcome = s.seu.outcome ∧ t.seu.lamps = s.seu.lamps ∧
    t.seu.reject = s.seu.reject ∧ t.seu.rejectTimer = s.seu.rejectTimer ∧ t.seu.aborted = s.seu.aborted ∧ t.rst = s.rst ∧ t.sys = s.sys ∧
    t.pins = s.pins ∧ t.freeIndex = s.freeIndex ∧ t.pending = s.pending := by
  simp only [State.tenMs]
  repeat' first | (simp; done) | split

@[simp] theorem State.microTimers_frame (s : State) : let t := s.microTimers
    t.pfe.settings = s.pfe.settings ∧ t.pfe.meters = s.pfe.meters ∧ t.pfe.rf0 = s.pfe.rf0 ∧ t.pfe.rf1 = s.pfe.rf1 ∧ t.time = s.time ∧
    t.gates = s.gates ∧ t.ecu = s.ecu ∧ t.plt = s.plt ∧ t.rsq.runState = s.rsq.runState ∧ t.rsq.run = s.rsq.run ∧ t.rsq.seq = s.rsq.seq ∧
    t.rsq.desc = s.rsq.desc ∧ t.rsq.roster = s.rsq.roster ∧ t.rsq.enrolWindow = s.rsq.enrolWindow ∧ t.rsq.barrier = s.rsq.barrier ∧
    t.rsq.enrolSent = s.rsq.enrolSent ∧ t.rsq.phase = s.rsq.phase ∧ t.rsq.settle = s.rsq.settle ∧ t.rsq.received = s.rsq.received ∧
    t.rsq.window = s.rsq.window ∧ t.rsq.figure = s.rsq.figure ∧ t.rsq.tally = s.rsq.tally ∧ t.rsq.verdict = s.rsq.verdict ∧
    t.bli.stage = s.bli.stage ∧ t.bli.stuck = s.bli.stuck ∧ t.bli.dominantSince = s.bli.dominantSince ∧
    t.bli.afterStuck = s.bli.afterStuck ∧ t.bli.low = s.bli.low ∧ t.bli.buffer = s.bli.buffer ∧ t.bli.coord = s.bli.coord ∧
    t.bli.report = s.bli.report ∧ t.bli.waiting = s.bli.waiting ∧ t.bli.attempt = s.bli.attempt ∧ t.bli.w = s.bli.w ∧
    t.bli.lineErrors = s.bli.lineErrors ∧ t.bli.overruns = s.bli.overruns ∧ t.bli.lost = s.bli.lost ∧ t.bli.strays = s.bli.strays ∧
    t.rrp = s.rrp ∧ t.seu.enable = s.seu.enable ∧ t.seu.block = s.seu.block ∧ t.seu.watermark = s.seu.watermark ∧
    t.seu.strokeTimeout = s.seu.strokeTimeout ∧ t.seu.voids = s.seu.voids ∧ t.seu.press = s.seu.press ∧
    t.seu.strokeTimer = s.seu.strokeTimer ∧ t.seu.seenInactive = s.seu.seenInactive ∧ t.seu.outcome = s.seu.outcome ∧
    t.seu.reject = s.seu.reject ∧ t.seu.aborted = s.seu.aborted ∧ t.rst.slots = s.rst.slots ∧ t.rst.damaged = s.rst.damaged ∧
    t.rst.lastRecord = s.rst.lastRecord ∧ t.rst.op = s.rst.op ∧ t.rst.waiting = s.rst.waiting ∧ t.rst.reservation = s.rst.reservation ∧
    t.rst.reserveAsked = s.rst.reserveAsked ∧ t.sys = s.sys ∧ t.pins = s.pins ∧ t.freeIndex = s.freeIndex ∧ t.pending = s.pending := by
  simp only [State.microTimers]
  repeat' first | (simp; done) | (simp [MeterInput.settings]; done) | (simp [Pfe.settings, Bli.tick]; done) | split

@[simp] theorem State.micro_frame (s : State) : let t := s.micro
    t.pfe.settings = s.pfe.settings ∧ t.pfe.meters = s.pfe.meters ∧ t.pfe.rf0 = s.pfe.rf0 ∧ t.pfe.rf1 = s.pfe.rf1 ∧ t.gates = s.gates ∧
    t.ecu = s.ecu ∧ t.plt = s.plt ∧ t.rsq.runState = s.rsq.runState ∧ t.rsq.run = s.rsq.run ∧ t.rsq.seq = s.rsq.seq ∧
    t.rsq.desc = s.rsq.desc ∧ t.rsq.roster = s.rsq.roster ∧ t.rsq.enrolSent = s.rsq.enrolSent ∧ t.rsq.phase = s.rsq.phase ∧
    t.rsq.settle = s.rsq.settle ∧ t.rsq.received = s.rsq.received ∧ t.rsq.window = s.rsq.window ∧ t.rsq.figure = s.rsq.figure ∧
    t.rsq.tally = s.rsq.tally ∧ t.rsq.verdict = s.rsq.verdict ∧ t.bli.stage = s.bli.stage ∧ t.bli.stuck = s.bli.stuck ∧
    t.bli.dominantSince = s.bli.dominantSince ∧ t.bli.afterStuck = s.bli.afterStuck ∧ t.bli.low = s.bli.low ∧ t.bli.buffer = s.bli.buffer ∧
    t.bli.coord = s.bli.coord ∧ t.bli.report = s.bli.report ∧ t.bli.waiting = s.bli.waiting ∧ t.bli.attempt = s.bli.attempt ∧
    t.bli.w = s.bli.w ∧ t.bli.lineErrors = s.bli.lineErrors ∧ t.bli.overruns = s.bli.overruns ∧ t.bli.lost = s.bli.lost ∧
    t.bli.strays = s.bli.strays ∧ t.rrp.queue = s.rrp.queue ∧ t.rrp.tq = s.rrp.tq ∧ t.rrp.td = s.rrp.td ∧ t.rrp.call = s.rrp.call ∧
    t.rrp.drops = s.rrp.drops ∧ t.rrp.flags = s.rrp.flags ∧ t.rrp.mask = s.rrp.mask ∧ t.rrp.statusDue = s.rrp.statusDue ∧
    t.rrp.lastRefusal = s.rrp.lastRefusal ∧ t.seu.enable = s.seu.enable ∧ t.seu.block = s.seu.block ∧ t.seu.watermark = s.seu.watermark ∧
    t.seu.strokeTimeout = s.seu.strokeTimeout ∧ t.seu.voids = s.seu.voids ∧ t.seu.press = s.seu.press ∧
    t.seu.seenInactive = s.seu.seenInactive ∧ t.seu.outcome = s.seu.outcome ∧ t.seu.reject = s.seu.reject ∧ t.seu.aborted = s.seu.aborted ∧
    t.rst.slots = s.rst.slots ∧ t.rst.damaged = s.rst.damaged ∧ t.rst.lastRecord = s.rst.lastRecord ∧ t.rst.op = s.rst.op ∧
    t.rst.waiting = s.rst.waiting ∧ t.rst.reservation = s.rst.reservation ∧ t.rst.reserveAsked = s.rst.reserveAsked ∧ t.sys = s.sys ∧
    t.pins = s.pins ∧ t.freeIndex = s.freeIndex ∧ t.pending = s.pending := by
  simp only [State.micro]
  repeat' first | (simp; done) | (simp [MeterInput.settings]; done) | (simp [Pfe.settings]; done) | split

@[simp] theorem State.tick_frame (s : State) : let t := s.tick
    t.pfe.settings = s.pfe.settings ∧ t.pfe.meters = s.pfe.meters ∧ t.gates = s.gates ∧ t.ecu = s.ecu ∧ t.plt = s.plt ∧
    t.rsq.runState = s.rsq.runState ∧ t.rsq.run = s.rsq.run ∧ t.rsq.seq = s.rsq.seq ∧ t.rsq.desc = s.rsq.desc ∧
    t.rsq.roster = s.rsq.roster ∧ t.rsq.enrolSent = s.rsq.enrolSent ∧ t.rsq.phase = s.rsq.phase ∧ t.rsq.settle = s.rsq.settle ∧
    t.rsq.received = s.rsq.received ∧ t.rsq.window = s.rsq.window ∧ t.rsq.figure = s.rsq.figure ∧ t.rsq.tally = s.rsq.tally ∧
    t.rsq.verdict = s.rsq.verdict ∧ t.bli.stage = s.bli.stage ∧ t.bli.stuck = s.bli.stuck ∧ t.bli.dominantSince = s.bli.dominantSince ∧
    t.bli.afterStuck = s.bli.afterStuck ∧ t.bli.low = s.bli.low ∧ t.bli.buffer = s.bli.buffer ∧ t.bli.coord = s.bli.coord ∧
    t.bli.report = s.bli.report ∧ t.bli.waiting = s.bli.waiting ∧ t.bli.attempt = s.bli.attempt ∧ t.bli.w = s.bli.w ∧
    t.bli.lineErrors = s.bli.lineErrors ∧ t.bli.overruns = s.bli.overruns ∧ t.bli.lost = s.bli.lost ∧ t.bli.strays = s.bli.strays ∧
    t.rrp.queue = s.rrp.queue ∧ t.rrp.tq = s.rrp.tq ∧ t.rrp.td = s.rrp.td ∧ t.rrp.call = s.rrp.call ∧ t.rrp.drops = s.rrp.drops ∧
    t.rrp.flags = s.rrp.flags ∧ t.rrp.mask = s.rrp.mask ∧ t.rrp.statusDue = s.rrp.statusDue ∧ t.rrp.lastRefusal = s.rrp.lastRefusal ∧
    t.seu.enable = s.seu.enable ∧ t.seu.block = s.seu.block ∧ t.seu.watermark = s.seu.watermark ∧
    t.seu.strokeTimeout = s.seu.strokeTimeout ∧ t.seu.voids = s.seu.voids ∧ t.seu.press = s.seu.press ∧
    t.seu.seenInactive = s.seu.seenInactive ∧ t.seu.outcome = s.seu.outcome ∧ t.seu.reject = s.seu.reject ∧ t.seu.aborted = s.seu.aborted ∧
    t.rst.slots = s.rst.slots ∧ t.rst.damaged = s.rst.damaged ∧ t.rst.lastRecord = s.rst.lastRecord ∧ t.rst.op = s.rst.op ∧
    t.rst.waiting = s.rst.waiting ∧ t.rst.reservation = s.rst.reservation ∧ t.rst.reserveAsked = s.rst.reserveAsked ∧ t.sys = s.sys ∧
    t.pins = s.pins ∧ t.freeIndex = s.freeIndex ∧ t.pending = s.pending := by
  simp only [State.tick]
  repeat' first | (simp; done) | (simp [MeterInput.settings]; done) | (simp [Pfe.settings]; done) | split

@[simp] theorem State.idle_frame (s : State) : let t := s.idle
    t.pfe.settings = s.pfe.settings ∧ t.pfe.meters = s.pfe.meters ∧ t.gates = s.gates ∧ t.ecu = s.ecu ∧ t.plt = s.plt ∧
    t.rsq.runState = s.rsq.runState ∧ t.rsq.run = s.rsq.run ∧ t.rsq.seq = s.rsq.seq ∧ t.rsq.desc = s.rsq.desc ∧
    t.rsq.roster = s.rsq.roster ∧ t.rsq.enrolSent = s.rsq.enrolSent ∧ t.rsq.phase = s.rsq.phase ∧ t.rsq.settle = s.rsq.settle ∧
    t.rsq.received = s.rsq.received ∧ t.rsq.window = s.rsq.window ∧ t.rsq.figure = s.rsq.figure ∧ t.rsq.tally = s.rsq.tally ∧
    t.rsq.verdict = s.rsq.verdict ∧ t.bli.stage = s.bli.stage ∧ t.bli.stuck = s.bli.stuck ∧ t.bli.dominantSince = s.bli.dominantSince ∧
    t.bli.afterStuck = s.bli.afterStuck ∧ t.bli.low = s.bli.low ∧ t.bli.buffer = s.bli.buffer ∧ t.bli.coord = s.bli.coord ∧
    t.bli.report = s.bli.report ∧ t.bli.waiting = s.bli.waiting ∧ t.bli.attempt = s.bli.attempt ∧ t.bli.w = s.bli.w ∧
    t.bli.lineErrors = s.bli.lineErrors ∧ t.bli.overruns = s.bli.overruns ∧ t.bli.lost = s.bli.lost ∧ t.bli.strays = s.bli.strays ∧
    t.rrp.queue = s.rrp.queue ∧ t.rrp.tq = s.rrp.tq ∧ t.rrp.td = s.rrp.td ∧ t.rrp.call = s.rrp.call ∧ t.rrp.drops = s.rrp.drops ∧
    t.rrp.flags = s.rrp.flags ∧ t.rrp.mask = s.rrp.mask ∧ t.rrp.statusDue = s.rrp.statusDue ∧ t.rrp.lastRefusal = s.rrp.lastRefusal ∧
    t.seu.enable = s.seu.enable ∧ t.seu.block = s.seu.block ∧ t.seu.watermark = s.seu.watermark ∧
    t.seu.strokeTimeout = s.seu.strokeTimeout ∧ t.seu.voids = s.seu.voids ∧ t.seu.press = s.seu.press ∧
    t.seu.seenInactive = s.seu.seenInactive ∧ t.seu.outcome = s.seu.outcome ∧ t.seu.reject = s.seu.reject ∧ t.seu.aborted = s.seu.aborted ∧
    t.rst.slots = s.rst.slots ∧ t.rst.damaged = s.rst.damaged ∧ t.rst.lastRecord = s.rst.lastRecord ∧ t.rst.op = s.rst.op ∧
    t.rst.waiting = s.rst.waiting ∧ t.rst.reservation = s.rst.reservation ∧ t.rst.reserveAsked = s.rst.reserveAsked ∧ t.sys = s.sys ∧
    t.pins = s.pins := by
  simp only [State.idle]
  repeat' first | (simp; done) | (simp [MeterInput.settings]; done) | (simp [Pfe.settings]; done) | split

end Sys2Proof.Machine
end

