-- ==== Sys2Proof/Laws/Effects.lean ====
section
/-! SUPPORT. What each shared operation does, said once: the lamps, the taking of frames, the roster, the transmit queue, the event
flags and the store's list. -/

namespace Sys2Proof.Machine

/-! ### Lamps (R65) -/

/-- The lamps depend on the run state, the verdict, the roster and the own address alone. -/
theorem State.lampDrives_congr (s t : State) (h1 : t.rsq.runState = s.rsq.runState) (h2 : t.rsq.verdict = s.rsq.verdict)
    (h3 : t.rsq.roster = s.rsq.roster) (h4 : t.sys.address = s.sys.address) : t.lampDrives = s.lampDrives := by
  simp only [State.lampDrives, State.ownEntry, h1, h2, h3, h4]; rfl

/-- A command that changed nothing the lamps depend on leaves them as they follow. -/
theorem State.relamp_of_follows (s : State) (h : s.LampsFollow) : s.relamp = s := by
  simp only [State.relamp]; exact if_pos h

@[simp] theorem State.relamp_lampDrives (s : State) : s.relamp.lampDrives = s.lampDrives := by
  apply State.lampDrives_congr <;> simp

/-- After a command the lamps follow. -/
theorem State.relamp_follows (s : State) : s.relamp.LampsFollow := by
  simp only [State.LampsFollow, State.relamp_lampDrives]
  simp only [State.relamp]
  split
  · assumption
  · simp

/-- Relighting touches the lamps alone. -/
theorem State.relamp_seu (s : State) : s.relamp.seu = { s.seu with lamps := s.relamp.seu.lamps } := by
  simp only [State.relamp]; split <;> simp

/-- A command's outcome from a state that follows its lamps already. -/
theorem State.finish_of_follows (s : State) (h : s.LampsFollow) : s.finish = .next s := by
  simp [State.finish, State.relamp_of_follows s h]

theorem State.finish_eq_next (s t : State) : s.finish = .next t ↔ s.relamp = t := by
  simp [State.finish]

/-! ### Frames taken (R96) -/

/-- An owner takes a controller's frame of the right form. -/
theorem State.taken_act (s : State) (act : State → State) (ht : s.takesFrames = true) : s.taken true act = act s := by
  simp [State.taken, ht]

/-- A controller's frame of the wrong form is stray (R95). -/
theorem State.taken_stray (s : State) (act : State → State) (ht : s.takesFrames = true) : s.taken false act = s.stray := by
  simp [State.taken, ht]

/-- An owner takes a peer's frame of the right form. -/
theorem State.fromPeer_act (s : State) (x : BitVec 6) (act : State → State) (ht : s.takesFrames = true)
    (h1 : 1 ≤ x.toNat) (h2 : x.toNat ≤ 60) (h3 : x.toNat ≠ s.sys.address) : s.fromPeer x true act = act s := by
  simp [State.fromPeer, ht, h3, isPosition, h1, h2]

/-- A frame under the own address goes to the clash check (R95, R167). -/
theorem State.fromPeer_clash (s : State) (x : BitVec 6) (form : Bool) (act : State → State) (ht : s.takesFrames = true)
    (h : x.toNat = s.sys.address) : s.fromPeer x form act = s.clash := by
  simp [State.fromPeer, ht, h]

/-- A request that finds room in the reporting part is answered, and any other waits or is lost (R96). -/
theorem State.takeRequest_room (s : State) (f : RxFrame) (h : s.reportRoom = true) : s.takeRequest f = s.answer f := by
  simp [State.takeRequest, h]

theorem State.takeRequest_full (s : State) (f : RxFrame) (h : s.reportRoom = false) : s.takeRequest f = s.bufferFrame f := by
  simp [State.takeRequest, h]

theorem State.takesFrames_alive (s : State) (h : s.takesFrames = true) : s.alive = true := by
  simp only [State.takesFrames, Bool.and_eq_true] at h; exact h.1

/-! ### The roster (R109) -/

theorem rosterAt_set (r : List RosterEntry) (x y : Nat) (e : RosterEntry) (hx : 1 ≤ x) (hl : x ≤ r.length) :
    rosterAt (rosterSet r x e) y = if y = x then e else rosterAt r y := by
  obtain ⟨n, rfl⟩ : ∃ n, x = n + 1 := ⟨x - 1, by omega⟩
  cases y with
  | zero => simp [rosterAt]
  | succ m =>
    simp only [rosterAt, rosterSet, List.getD_eq_getElem?_getD, List.getElem?_set]
    by_cases h : n = m
    · subst h; simp [show n < r.length by omega]
    · have h' : ¬ m = n := fun e => h e.symm
      simp [h, h']

theorem rosterSet_length (r : List RosterEntry) (x : Nat) (e : RosterEntry) : (rosterSet r x e).length = r.length := by
  cases x <;> simp [rosterSet]

theorem State.mapEntry_roster (s : State) (x : Nat) (f : RosterEntry → RosterEntry) :
    (s.mapEntry x f).rsq.roster = rosterSet s.rsq.roster x (f (rosterAt s.rsq.roster x)) := rfl

/-! ### The transmit queue (R98) -/

/-- Refilling keeps the frames and their order. -/
theorem Bli.refill_frames (b : Bli) : b.refill.coord ++ b.refill.waiting = b.coord ++ b.waiting := by
  simp [Bli.refill, List.append_assoc]

theorem Bli.refill_bound (b : Bli) (h : b.coord.length ≤ 6) : b.refill.coord.length ≤ 6 := by
  simp [Bli.refill]; omega

/-- Nothing waits: refilling changes nothing. -/
theorem Bli.refill_of_none (b : Bli) (h : b.waiting = []) : b.refill = b := by
  cases b; simp_all [Bli.refill]

/-- An offered frame joins the tail of the frames queued and waiting. -/
theorem State.offerCoord_frames (s : State) (f : CoordFrame) (h : s.rsq.runState ≠ .clashed) :
    (s.offerCoord f).bli.coord ++ (s.offerCoord f).bli.waiting = s.bli.coord ++ s.bli.waiting ++ [f] := by
  simp only [State.offerCoord, if_neg h, State.mapBli]
  split
  · rename_i hc; simp [hc.2]
  · simp

/-- A frame offered to a part with room, with none waiting, is queued. -/
theorem State.offerCoord_room (s : State) (f : CoordFrame) (h : s.rsq.runState ≠ .clashed) (hl : s.bli.coord.length < 6)
    (hw : s.bli.waiting = []) : s.offerCoord f = s.mapBli fun b => { b with coord := b.coord ++ [f] } := by
  simp [State.offerCoord, h, State.mapBli, hl, hw]

/-- What a withdrawal leaves was there before. -/
theorem State.withdrawFrames_sub (s : State) (p : CoordFrame → Bool) (f : CoordFrame)
    (h : f ∈ (s.withdrawFrames p).bli.coord ++ (s.withdrawFrames p).bli.waiting) : f ∈ s.bli.coord ++ s.bli.waiting := by
  simp only [State.withdrawFrames, State.mapBli, Bli.withdraw, Bli.refill_frames] at h
  split at h
  · rcases List.mem_append.1 h with h | h
    · rcases List.mem_append.1 h with h | h
      · exact List.mem_append_left _ (List.mem_of_mem_take h)
      · exact List.mem_append_left _ (List.mem_of_mem_drop (List.mem_of_mem_filter h))
    · exact List.mem_append_right _ (List.mem_of_mem_filter h)
  · rcases List.mem_append.1 h with h | h
    · exact List.mem_append_left _ (List.mem_of_mem_filter h)
    · exact List.mem_append_right _ (List.mem_of_mem_filter h)

/-- A withdrawal leaves every frame it does not name. -/
theorem State.withdrawFrames_keeps (s : State) (p : CoordFrame → Bool) (f : CoordFrame) (hp : p f = false)
    (h : f ∈ s.bli.coord ++ s.bli.waiting) : f ∈ (s.withdrawFrames p).bli.coord ++ (s.withdrawFrames p).bli.waiting := by
  simp only [State.withdrawFrames, State.mapBli, Bli.withdraw, Bli.refill_frames]
  rcases List.mem_append.1 h with h | h
  · apply List.mem_append_left
    split
    · cases hc : s.bli.coord with
      | nil => simp [hc] at h
      | cons g rest => rw [hc] at h; simp only [List.mem_cons] at h; rcases h with rfl | h <;> simp [*]
    · simp [h, hp]
  · exact List.mem_append_right _ (List.mem_filter.2 ⟨h, by simp [hp]⟩)

/-- With no frame on the line a withdrawal leaves none it names. -/
theorem State.withdrawFrames_gone (s : State) (p : CoordFrame → Bool) (f : CoordFrame) (ha : s.bli.attempt = none)
    (h : f ∈ (s.withdrawFrames p).bli.coord ++ (s.withdrawFrames p).bli.waiting) : p f = false := by
  simp only [State.withdrawFrames, State.mapBli, Bli.withdraw, Bli.refill_frames, Bli.coordOnLine, ha] at h
  rcases List.mem_append.1 h with h | h <;> simpa using (List.mem_filter.1 h).2

/-! ### The line (R91, R97) -/

/-- After a frame has ended the stage hunts, the line is recessive, and the count stands at the time since the frame's last dominant bit;
a 1 ms after a stuck stretch goes on only if it was not over when the line went dominant. -/
theorem State.frameEnded_bli (s : State) (length tail ago : Nat) : (s.frameEnded length tail ago).bli = { s.bli with
    stage := RxStage.reset, low := false, quiet := ago + tail * s.sys.rate.bitTime
    afterStuck := s.bli.afterStuck &&
      (s.bli.low || decide (s.bli.quiet < guardTime + (ago + length * s.sys.rate.bitTime))) } := by
  by_cases h : s.bli.low = true <;> simp [State.frameEnded, State.mapBli, Bli.goesDominant, Bli.goesRecessive, h]

/-- No change of the line shows: a recessive line stays so, and one that is dominant has no quiet. -/
theorem Bli.see_nil (b : Bli) : b.see [] = if b.low then { b with quiet := 0, unseen := 0 } else b := rfl

/-- The line, recessive, went dominant before: no quiet is left, and a 1 ms after a stuck stretch goes on if it was not over then. -/
theorem Bli.see_dominant (b : Bli) (ago : Nat) (h : b.low = false) : b.see [⟨true, ago⟩] =
    { b with low := true, unseen := 0, quiet := 0, afterStuck := b.afterStuck && decide (b.quiet < guardTime + ago) } := by
  simp [Bli.see, Bli.edge, Bli.goesDominant, h]

/-- A quiet count that runs advances on a recessive line alone. -/
theorem Bli.tick_quiet (b : Bli) : b.tick.quiet = if b.quietRuns = true ∧ b.low = false then b.quiet + 1 else b.quiet := by
  simp [Bli.tick]

/-- A line that does not follow the first bit of the lead-in has been recessive since before the attempt. -/
theorem Attempt.recessiveFor_first (a : Attempt) (bit : Nat) (now : Word) (h : elapsed a.begun now < bit) :
    a.recessiveFor bit now = a.quietBefore + elapsed a.begun now := by
  simp [Attempt.recessiveFor, Nat.div_eq_of_lt h]

/-- The line, dominant, went recessive before: the count runs from there. -/
theorem Bli.see_recessive (b : Bli) (ago : Nat) (h : b.low = true) : b.see [⟨false, ago⟩] = { b with low := false, quiet := ago } := by
  simp [Bli.see, Bli.edge, Bli.goesRecessive, h]

/-! ### Gates at a mains loss (R28) -/

/-- The dropped working state is at its reset values; state, ending and parameters stand. -/
theorem GateEngine.dropWork_eq (g : GateEngine) : g.dropWork =
    { GateEngine.reset with state := g.state, ending := g.ending, params := g.params } := rfl

/-! ### RESULT formation (R132, R133) -/

/-- A test that calls for no frame changes nothing. -/
theorem State.testResult_idle (s : State) (h : s.resultCalled = false) : s.testResult = s := by simp [State.testResult, h]

/-- A test that calls for one moves the head of the queue to the reporting part. -/
theorem State.testResult_forms (s : State) (h : s.resultCalled = true) (hc : s.rsq.runState ≠ .clashed) : s.testResult =
    (s.mapBli fun b => { b with report := b.report ++ [.result s.rrp.drops (s.rrp.queue.take (entriesTaken s.rrp.queue))] }).mapRrp
      Rrp.afterFormation := by
  have hr : s.bli.report.length < 4 := by simp [State.resultCalled, State.reportRoom] at h; omega
  simp [State.testResult, h, State.offerReport, hc, State.mapBli, hr]

/-! ### Event flags (R135) -/

@[simp] theorem State.raise_flags (s : State) (e : Event) : (s.raise e).rrp.flags = s.rrp.flags ||| e.flag := by
  simp only [State.raise]
  split
  · simp
  · rfl

theorem Event.isIn_flag (e e' : Event) : e'.isIn e.flag = decide (e' = e) := by
  cases e <;> cases e' <;> decide

/-- A raised event is in the flags; every other stands as before. -/
theorem State.isIn_raise (s : State) (e e' : Event) :
    e'.isIn (s.raise e).rrp.flags = (e'.isIn s.rrp.flags || decide (e' = e)) := by
  rw [State.raise_flags, ← Event.isIn_flag]; simp [Event.isIn]

/-! ### The store's waiting list (R156) -/

/-- With nothing waiting, nothing begins. -/
theorem State.startNext_of_none (s : State) (h : s.rst.waiting = []) : s.startNext = s := by
  simp only [State.startNext]
  split
  · rfl
  · rw [h]; simp only [State.startList, State.mapRst]
    rcases s with ⟨_, _, _, _, _, _, _, _, _, rst, _, _, _, _⟩
    cases rst; simp_all

/-- While an operation is in flight, a request that finds room waits at the tail. -/
theorem State.askStore_waits (s : State) (q : StoreRequest) (hl : s.rst.waiting.length < 8) (ho : s.rst.op ≠ none) :
    s.askStore q = s.mapRst fun r => { r with waiting := r.waiting ++ [q] } := by
  have h8 : ¬ 8 ≤ s.rst.waiting.length := by omega
  have : s.rst.op.isSome = true := Option.isSome_iff_ne_none.2 ho
  simp [State.askStore, h8, State.startNext, this]

/-- An idle store begins a request in the moment it is asked for, and goes on to nothing else (R156). -/
theorem State.askStore_idle (s : State) (q : StoreRequest) (ho : s.rst.op = none) (hw : s.rst.waiting = []) :
    s.askStore q = if (s.beginRequest q).2 then (s.beginRequest q).1 else (s.beginRequest q).1.startList [] := by
  have hs : ((s.mapRst fun r => { r with waiting := r.waiting ++ [q] }).mapRst fun r => { r with waiting := [] }) = s := by
    rcases s with ⟨_, _, _, _, _, _, _, _, _, ⟨_, _, _, _, _, _, _, _⟩, _, _, _, _⟩; cases hw; rfl
  have hl : ((s.mapRst fun r => { r with waiting := r.waiting ++ [q] }).rst.waiting) = [q] := by simp [State.mapRst, hw]
  have ha : s.askStore q = (s.mapRst fun r => { r with waiting := r.waiting ++ [q] }).startNext := by simp [State.askStore, hw]
  rw [ha, State.startNext, if_neg (by simp [ho]), hl]
  simp only [State.startList, hs]

/-- A mark asked for of an idle store begins when its cell is not programmed yet (R158). -/
theorem State.askStore_begins (s : State) (n : Nat) (m : Mark) (seu : Bool) (ho : s.rst.op = none) (hw : s.rst.waiting = [])
    (hm : (s.slot n).hasMark m = false) : s.askStore (.mark n m seu) = s.beginOp (.mark n m seu) markTime := by
  simp [s.askStore_idle _ ho hw, State.beginRequest, hm]

/-- A mark that the seal unit asks for of an idle store, and that is programmed already, is complete at once (R158). -/
theorem State.askStore_completes (s : State) (n : Nat) (m : Mark) (ho : s.rst.op = none) (hw : s.rst.waiting = [])
    (hm : (s.slot n).hasMark m = true) : s.askStore (.mark n m true) = s.markReported m := by
  have e : ∀ t : State, t.rst.waiting = [] → t.startList [] = t := by
    rintro ⟨_, _, _, _, _, _, _, _, _, ⟨_, _, _, _, _, _, _, _⟩, _, _, _, _⟩ h; cases h; rfl
  simpa [s.askStore_idle _ ho hw, State.beginRequest, hm] using e _ (by simpa using hw)

/-- A mark that the seal unit asks for and that finds 8 requests waiting is lost, and counts as complete (R156). -/
theorem State.askStore_loses (s : State) (n : Nat) (m : Mark) (hl : 8 ≤ s.rst.waiting.length) :
    s.askStore (.mark n m true) = s.markReported m := by simp [State.askStore, hl]

/-- An operation that ends with nothing asked for and nothing waiting leaves the store idle. -/
theorem State.endOp_idle (s : State) (ha : s.rst.reserveAsked = false) (hw : s.rst.waiting = []) :
    s.endOp = s.mapRst fun r => { r with op := none, opTimer := none, reserveAsked := false } := by
  simp only [State.endOp, ha]
  rw [if_neg (by simp), State.startNext_of_none _ (by simpa using hw)]

end Sys2Proof.Machine
end

