-- ==== Sys2Proof/Laws/Exec.lean ====
section
/-! SUPPORT. One lemma per constructor: exec of the command is its meaning. A proof rewrites with these in place of unfolding exec, whose
one match over every command is slow to take apart. -/

namespace Sys2Proof.Machine

@[simp] theorem exec_meterActiveEdge (ch : Channel) (s : State) :
    exec (.meterActiveEdge ch) s = execMeterActiveEdge ch s := rfl
@[simp] theorem exec_glitch (ch : Channel) (s : State) :
    exec (.glitch ch) s = execGlitch ch s := rfl
@[simp] theorem exec_pulseAccepted (ch : Channel) (s : State) :
    exec (.pulseAccepted ch) s = execPulseAccepted ch s := rfl
@[simp] theorem exec_referenceEdge (input : RefName) (s : State) :
    exec (.referenceEdge input) s = execReferenceEdge input s := rfl
@[simp] theorem exec_zcEdge (s : State) :
    exec .zcEdge s = execZcEdge s := rfl
@[simp] theorem exec_silenceTimerExpiry (s : State) :
    exec .silenceTimerExpiry s = execSilenceTimerExpiry s := rfl
@[simp] theorem exec_mpresFall (s : State) :
    exec .mpresFall s = execMpresFall s := rfl
@[simp] theorem exec_strokeInactive (s : State) :
    exec .strokeInactive s = execStrokeInactive s := rfl
@[simp] theorem exec_strokeEnd (s : State) :
    exec .strokeEnd s = execStrokeEnd s := rfl
@[simp] theorem exec_powerOnReset (s : State) :
    exec .powerOnReset s = execPowerOnReset s := rfl
@[simp] theorem exec_supplyDipReset (s : State) :
    exec .supplyDipReset s = execSupplyDipReset s := rfl
@[simp] theorem exec_resetPin (s : State) :
    exec .resetPin s = execResetPin s := rfl
@[simp] theorem exec_resetEnd (addr : BitVec 6) (rate : BitVec 2) (heard : List Heard) (s : State) :
    exec (.resetEnd addr rate heard) s = execResetEnd addr rate heard s := rfl
@[simp] theorem exec_enrolWindowExpiry (s : State) :
    exec .enrolWindowExpiry s = execEnrolWindowExpiry s := rfl
@[simp] theorem exec_lateEnrolAllowanceEnd (s : State) :
    exec .lateEnrolAllowanceEnd s = execLateEnrolAllowanceEnd s := rfl
@[simp] theorem exec_barrierTimerExpiry (s : State) :
    exec .barrierTimerExpiry s = execBarrierTimerExpiry s := rfl
@[simp] theorem exec_delayTimerExpiry (s : State) :
    exec .delayTimerExpiry s = execDelayTimerExpiry s := rfl
@[simp] theorem exec_confirmTimerExpiry (s : State) :
    exec .confirmTimerExpiry s = execConfirmTimerExpiry s := rfl
@[simp] theorem exec_strokeTimerExpiry (s : State) :
    exec .strokeTimerExpiry s = execStrokeTimerExpiry s := rfl
@[simp] theorem exec_rejectPulseEnd (s : State) :
    exec .rejectPulseEnd s = execRejectPulseEnd s := rfl
@[simp] theorem exec_lampFlashToggle (s : State) :
    exec .lampFlashToggle s = execLampFlashToggle s := rfl
@[simp] theorem exec_lineStuck (since : Word) (s : State) :
    exec (.lineStuck since) s = execLineStuck since s := rfl
@[simp] theorem exec_stuckLineReleased (s : State) :
    exec .stuckLineReleased s = execStuckLineReleased s := rfl
@[simp] theorem exec_sendAttemptStart (line : List LineEdge) (s : State) :
    exec (.sendAttemptStart line) s = execSendAttemptStart line s := rfl
@[simp] theorem exec_frameSent (s : State) :
    exec .frameSent s = execFrameSent s := rfl
@[simp] theorem exec_lineLost (s : State) :
    exec .lineLost s = execLineLost s := rfl
@[simp] theorem exec_lineNotFollowing (s : State) :
    exec .lineNotFollowing s = execLineNotFollowing s := rfl
@[simp] theorem exec_frameReceiveError (bad : BadFrame) (s : State) :
    exec (.frameReceiveError bad) s = execFrameReceiveError bad s := rfl
@[simp] theorem exec_frameReceived (reception : Reception) (s : State) :
    exec (.frameReceived reception) s = execFrameReceived reception s := rfl
@[simp] theorem exec_planPut (payload : List Byte) (s : State) :
    exec (.planPut payload) s = execPlanPut payload s := rfl
@[simp] theorem exec_planTail (run : Half) (tail : Byte) (s : State) :
    exec (.planTail run tail) s = execPlanTail run tail s := rfl
@[simp] theorem exec_planClear (s : State) :
    exec .planClear s = execPlanClear s := rfl
@[simp] theorem exec_runOpen (fields : RunOpenFields) (meterPresent : Bool) (s : State) :
    exec (.runOpen fields meterPresent) s = execRunOpen fields meterPresent s := rfl
@[simp] theorem exec_loadReady (run seq : Half) (desc : Byte) (s : State) :
    exec (.loadReady run seq desc) s = execLoadReady run seq desc s := rfl
@[simp] theorem exec_runAbort (run : Half) (s : State) :
    exec (.runAbort run) s = execRunAbort run s := rfl
@[simp] theorem exec_runClose (run : Half) (s : State) :
    exec (.runClose run) s = execRunClose run s := rfl
@[simp] theorem exec_holdSet (holds : Byte) (s : State) :
    exec (.holdSet holds) s = execHoldSet holds s := rfl
@[simp] theorem exec_eventClear (clear mask : Half) (s : State) :
    exec (.eventClear clear mask) s = execEventClear clear mask s := rfl
@[simp] theorem exec_statusAsk (s : State) :
    exec .statusAsk s = execStatusAsk s := rfl
@[simp] theorem exec_recordAsk (selector : Byte) (s : State) :
    exec (.recordAsk selector) s = execRecordAsk selector s := rfl
@[simp] theorem exec_recordMark (slot : Byte) (number : Half) (s : State) :
    exec (.recordMark slot number) s = execRecordMark slot number s := rfl
@[simp] theorem exec_storeWipe (s : State) :
    exec .storeWipe s = execStoreWipe s := rfl
@[simp] theorem exec_storeSumAsk (count : Byte) (s : State) :
    exec (.storeSumAsk count) s = execStoreSumAsk count s := rfl
@[simp] theorem exec_restart (s : State) :
    exec .restart s = execRestart s := rfl
@[simp] theorem exec_enrol (sender : BitVec 6) (run : Half) (s : State) :
    exec (.enrol sender run) s = execEnrol sender run s := rfl
@[simp] theorem exec_done (sender : BitVec 6) (run seq : Half) (mask : Byte) (figure : Option Word) (s : State) :
    exec (.done sender run seq mask figure) s = execDone sender run seq mask figure s := rfl
@[simp] theorem exec_lapse (sender : BitVec 6) (run seq : Half) (addrs : BitVec 64) (s : State) :
    exec (.lapse sender run seq addrs) s = execLapse sender run seq addrs s := rfl
@[simp] theorem exec_withdraw (sender : BitVec 6) (run seq : Half) (reason : Byte) (s : State) :
    exec (.withdraw sender run seq reason) s = execWithdraw sender run seq reason s := rfl
@[simp] theorem exec_sealClaim (sender : BitVec 6) (run : Half) (serial : Word) (s : State) :
    exec (.sealClaim sender run serial) s = execSealClaim sender run serial s := rfl
@[simp] theorem exec_sealVoid (sender : BitVec 6) (run : Half) (claimer : Byte) (serial : Word) (watermark : Word) (s : State) :
    exec (.sealVoid sender run claimer serial watermark) s = execSealVoid sender run claimer serial watermark s := rfl
@[simp] theorem exec_eraseEnd (s : State) :
    exec .eraseEnd s = execEraseEnd s := rfl
@[simp] theorem exec_contentStepEnd (s : State) :
    exec .contentStepEnd s = execContentStepEnd s := rfl
@[simp] theorem exec_levelStepEnd (s : State) :
    exec .levelStepEnd s = execLevelStepEnd s := rfl
@[simp] theorem exec_markEnd (s : State) :
    exec .markEnd s = execMarkEnd s := rfl
@[simp] theorem exec_wipeSlotErased (s : State) :
    exec .wipeSlotErased s = execWipeSlotErased s := rfl
@[simp] theorem exec_wipeEnd (s : State) :
    exec .wipeEnd s = execWipeEnd s := rfl
@[simp] theorem exec_meterInputReturn (ch : Channel) (s : State) :
    exec (.meterInputReturn ch) s = execMeterInputReturn ch s := rfl

end Sys2Proof.Machine
end

