-- ==== Sys2Proof/Tests/Slice0.lean ====
section
/-! SUPPORT. Tests: the checks of WellFormed, the manual's worked values, one small step for the commands, and for every statement
with premises a state and operands that meet them, at the edges of their ranges. -/

namespace Sys2Proof.Tests

open Machine

/- Each theorem waits for the one before: side by side, all of them at once ask for more threads than check.sh allows. -/
set_option Elab.async false

/-! ### Well-formedness: each check refuses a term -/

theorem test_wf_plan_put_too_long : (Instr.planPut (List.replicate 49 0)).wf = false := by decide
theorem test_wf_plan_tail_index : (Instr.planTail 7 48).wf = false ∧ (Instr.planTail 7 47).wf = true := by decide
theorem test_wf_record_selector : (Instr.recordAsk 32).wf = false ∧ (Instr.recordAsk 254).wf = false ∧
    (Instr.recordAsk 31).wf = true ∧ (Instr.recordAsk 255).wf = true := by decide
theorem test_wf_record_mark_slot : (Instr.recordMark 32 1).wf = false ∧ (Instr.recordMark 31 1).wf = true := by decide
theorem test_wf_store_sum_count : (Instr.storeSumAsk 33).wf = false ∧ (Instr.storeSumAsk 32).wf = true := by decide
theorem test_wf_enrol_sender : (Instr.enrol 0 7).wf = false ∧ (Instr.enrol 61 7).wf = false ∧ (Instr.enrol 60 7).wf = true := by
  decide
theorem test_wf_withdraw_sender : (Instr.withdraw 63 7 1 1).wf = false := by decide
theorem test_wf_claim_sender : (Instr.sealClaim 0 7 1).wf = false ∧ (Instr.sealVoid 61 7 1 1 1).wf = false := by decide
theorem test_wf_done_sender : (Instr.done 0 7 1 1 none).wf = false ∧ (Instr.done 1 7 1 3 none).wf = true := by decide
theorem test_wf_done_mask : (Instr.done 1 7 1 0 none).wf = false ∧ (Instr.done 1 7 1 4 none).wf = false := by decide
theorem test_wf_lapse_set : (Instr.lapse 1 7 1 0).wf = false ∧ (Instr.lapse 1 7 1 1).wf = false ∧
    (Instr.lapse 1 7 1 (1#64 <<< 61)).wf = false ∧ (Instr.lapse 1 7 1 (1#64 <<< 60)).wf = true := by decide
theorem test_wf_lapse_sender : (Instr.lapse 62 7 1 2).wf = false := by decide

/-! ### States -/

/-- An accuracy point on channel A: settle 2, window 3, tolerance 500, barrier timeout 100; Tg 50, 2 kept and 1 discarded gates, limits
±1000, spread 500, Nm 5, K 65,536. -/
def accuracyPoint : Descriptor where
  kind := .accuracy
  next := 1
  last := false
  completed := false
  completion := none
  point := some ⟨⟨true, false⟩, 2, 3, 500, 100, ⟨some ⟨0, 1⟩, none⟩⟩
  accuracy := some ⟨50, 2, 1, -1000, 1000, 500, ⟨some ⟨5, 65536⟩, none⟩⟩
  dwell := none

/-- A creep point on channel A, the last of its plan. -/
def creepPoint : Descriptor where
  kind := .creep
  next := 0
  last := true
  completed := false
  completion := none
  point := some ⟨⟨true, false⟩, 2, 0, 500, 100, ⟨some ⟨0, 1⟩, none⟩⟩
  accuracy := none
  dwell := some ⟨100, 2⟩

/-- A station at address 12 in run 7, at sequence number 1 on descriptor 0, with itself and addresses 1 and 60 enrolled, a block of
serials from 100 to 199, a meter present and mains present. -/
def station (r : RunState) : State :=
  ({ State.reset with
    sys := ⟨false, .powerOn, 12, .r125, ⟨false, false, false, false⟩⟩
    pins := ⟨true, false⟩
    pfe := { Pfe.reset with zc := ⟨some 0, 0, true, 0, some 100000⟩ }
    plt := { Plt.reset with plan := accuracyPoint :: creepPoint :: Plt.reset.plan.drop 2, tail := 1 }
    rsq := { Rsq.reset with
      runState := r, run := some 7, seq := 1
      roster := ((Rsq.reset.roster.set 11 ⟨.enrolled, none, none, 0⟩).set 0 ⟨.enrolled, none, none, 0⟩).set 59
        ⟨.enrolled, none, none, 0⟩ }
    seu := { Seu.reset with enable := true, block := some (100, 199), watermark := 99 } }).relamp

/-- The same with channel A under test in a gate engine. -/
def gating (g : GateEngine) (m : MeterInput) : State :=
  (((station .measuring).mapRsq fun q => { q with phase := .measuring }).mapEngine .a fun _ => g).mapMeter .a fun _ => m

/-- An engine in a state, with Nm 5, two kept gates and one discarded. -/
def engine (st : GateState) (gate edges : Nat) : GateEngine :=
  { GateEngine.reset with state := st, gate := gate, edges := edges, params := ⟨5, 2, 1, 50, .rf0⟩ }

/-- The same with channel A under test in a dwell count. -/
def dwelling (k : Kind) (edges number : Nat) (m : MeterInput) : State :=
  (((station .measuring).mapRsq fun q => { q with phase := .measuring, desc := 1 }).mapDwell .a fun _ =>
    ⟨.counting, edges, 0, none, k, 100, number⟩).mapMeter .a fun _ => m

/-- A meter input with a pending pulse whose stamp is 10,000 and whose snapshot is 7, and the last accepted edge given. -/
def pulsed (last : Option Word) : MeterInput := { MeterInput.reset with pulse := some ⟨10000, ⟨7, 1⟩⟩, lastEdge := last }

/-- The next state of an outcome, or the state given. -/
def nextOf (o : Host.Outcome State Fault Refusal) (s : State) : State :=
  match o with
  | .next t => t
  | _ => s

/-- A test of the next state. -/
def thenIs (o : Host.Outcome State Fault Refusal) (p : State → Bool) : Bool :=
  match o with
  | .next t => p t
  | _ => false

/-- The sizes, the requests that wait and the lamps, as one test. -/
def fits (s : State) : Bool :=
  ([(s.plt.plan.length, 48), (s.rsq.roster.length, 60), (s.rst.slots.length, 32), (s.rst.damaged.length, 32)].all fun p => p.1 == p.2)
    && ([(s.bli.coord.length, 6), (s.bli.report.length, 4), (s.bli.buffer.length, 4), (s.rrp.queue.length, 16),
      (s.rst.waiting.length, 8), (s.seu.voids.length, 8)].all fun p => decide (p.1 ≤ p.2))
    && (s.bli.buffer.all fun f => f.isRequest && s.bli.report.length == 4)
    && (s.seu.lamps.green, s.seu.lamps.red, s.seu.lamps.amber) == s.lampDrives

/-- States with tables of the right sizes, whose lamps follow. -/
def Fit (l : List State) : Prop := ∀ s ∈ l, s.Sized ∧ s.LampsFollow

theorem fit {l : List State} (h : l.all fits = true) : Fit l := by
  intro s m
  have f := List.all_eq_true.1 h s m
  simp only [fits, List.all_cons, List.all_nil, List.all_eq_true, Bool.and_eq_true, beq_iff_eq, decide_eq_true_eq] at f
  exact ⟨by constructor <;> first | exact f.1.2 | omega, f.2⟩

/-- What holds of A and of B holds of every channel. -/
theorem both {p : Channel → Prop} (a : p .a) (b : p .b) : ∀ ch, p ch
  | .a => a
  | .b => b

/-- Any position, from a test of all 64 numbers. -/
theorem everywhere {p : Nat → Prop} [DecidablePred p] (h : ∀ x, x < 64 → p x) : ∀ x, 1 ≤ x → x ≤ 60 → p x := fun x _ h2 => h x (by omega)

/-! ### Worked values of the manual -/

/-- R89: the check over 31 to 39 hex is 6F91. -/
theorem test_frame_check : frameCheck [0x31, 0x32, 0x33, 0x34, 0x35, 0x36, 0x37, 0x38, 0x39] = 0x6F91 := by decide +kernel

/-- Section 3.2, cases 1 to 4. -/
theorem test_gate_errors : rawGateError 10 131072000 19987 = 650 ∧ rawGateError 32 20480000 10004 = -400 ∧
    rawGateError 50 13107200 (2501 * 4) = -400 ∧ rawGateError 1 8454144 128 = 7813 ∧ rawGateError 1 8323072 128 = -7813 := by
  decide +kernel

/-- Section 3.2, case 5: both saturations. -/
theorem test_gate_saturates : rawGateError 10 1310720000 10 = 19999000000 ∧ rawGateError 1 65536 (250000000 * 8) = -1000000 := by
  decide +kernel

/-- Section 3.6, five figures and one far out, and the even set. -/
theorem test_deviation : deviationRecord (some 50020) [50012, 50008, 49990, 51200] 2000 = .agree 50012 159 ∧
    deviationRecord (some 51200) [50012, 50008, 50020, 49990] 2000 = .disagree 50012 23754 ∧
    deviationRecord (some 49990) [50012, 50008, 50020] 300 = .disagree 50008 359 ∧
    deviationRecord (some 50020) [50012, 50008, 49990] 300 = .agree 50008 239 ∧
    deviationRecord (some 50012) [50008] 300 = .unchecked := by decide +kernel

/-- Section 6.8: ranks behind station 7 and behind station 12. -/
theorem test_ranks : [12, 0, 3].map (fun a => rank a 7) = [4, 56, 59] ∧ [0, 3].map (fun a => rank a 12) = [51, 54] ∧
    rank 12 0 = 11 := by decide

/-- R101: station 9's address bits go out in reverse order. -/
theorem test_sender_byte : senderByte 9 = 0b100100 ∧ senderByte 14 = 0b011100 := by decide

/-- Section 5.7: the cause of each row. -/
theorem test_take_up_faults :
    let a := accuracyPoint
    let withAccuracy (f : AccuracyFields → AccuracyFields) : Descriptor := { a with accuracy := a.accuracy.map f }
    Descriptor.reset.judge false = some .empty ∧ ({ a with completed := true } : Descriptor).judge false = some .stale ∧
    ({ a with completed := true } : Descriptor).judge true = none ∧
    (withAccuracy fun f => { f with chans := ⟨some ⟨10, 1⟩, some ⟨0, 1⟩⟩ }).judge false = some .zeroGate ∧
    (withAccuracy fun f => { f with repeats := 2, discard := 2 }).judge false = some .discard ∧
    (withAccuracy fun f => { f with repeats := 20, discard := 0 }).judge false = some .range ∧
    (withAccuracy fun f => { f with lower := 500, upper := -500, spread := 2000000 }).judge false = some .limits ∧
    (withAccuracy fun f => { f with lower := -1200000, upper := -1000000 }).judge false = some .range ∧
    ({ a with next := 52 } : Descriptor).judge false = some .range ∧
    ({ creepPoint with dwell := some ⟨0, 2⟩ } : Descriptor).judge false = some .range ∧
    ({ creepPoint with kind := .start, dwell := some ⟨9, 0⟩ } : Descriptor).judge false = some .range := by decide +kernel

/-- Section 5.8: a last descriptor at the loop count ends a cyclic run, and before it goes back to the head. -/
theorem test_next_step : (⟨[], 5, 7, true, 2, 0, none⟩ : Plt).nextStep 2 7 { accuracyPoint with last := true } = .takeUp 5 ∧
    (⟨[], 5, 7, true, 2, 1, none⟩ : Plt).nextStep 5 7 { accuracyPoint with last := true } = .runEnd ∧
    (⟨[], 0, 1, false, 1, 0, none⟩ : Plt).nextStep 1 1 accuracyPoint = .paused := by decide

/-- Section 10.5: the reservation takes the damaged exported slot 14 before 9 and 5, and record 188 goes before 201. -/
theorem test_choice_of_slot :
    let held (n : Nat) (sealed exported : Bool) : Slot := ⟨leBytes 1 0 ++ leBytes 2 n ++ List.replicate 27 1, true, sealed, false, false, exported⟩
    let slots := (((List.replicate 32 (held 210 false false)).set 5 (held 201 true true)).set 9 (held 188 false true)).set 14 (held 3 false true)
    let s := (station .idle).mapRst fun r => { r with slots := slots, lastRecord := 212, damaged := r.damaged.set 14 true }
    s.chooseSlot = some 14 ∧ s.freeCount = 3 ∧
      (s.mapRst fun r => { r with reservation := some 14 }).chooseSlot = some 9 ∧
      (s.mapRst fun r => { r with reservation := some 14 }).freeCount = 2 := by decide +kernel

/-! ### One step of a command -/

/-- Section 1.6: a glitch at an armed input, then the edge that opens gate 1. -/
theorem test_glitch : thenIs (exec (.glitch .a) (gating (engine .armed 0 0) (pulsed none))) (fun t =>
    (t.meter .a).pulse = none && (t.meter .a).glitches = 1 && (t.engine .a).state = .armed) = true := by decide +kernel
theorem test_pulse_opens : thenIs (exec (.pulseAccepted .a) (gating (engine .armed 0 0) (pulsed none))) (fun t =>
    (t.engine .a).state = .open && (t.engine .a).gate = 1 && (t.engine .a).latch = ⟨7, 1⟩ &&
      (t.meter .a).lastEdge = some 10000) = true := by decide +kernel
/-- Section 1.6: 1,200 µs after the last edge is a double, 2,100 is not. -/
theorem test_pulse_double : thenIs (exec (.pulseAccepted .a) (gating (engine .open 1 0) (pulsed (some 8800)))) (fun t =>
    (t.engine .a).double && (t.engine .a).edges = 0) = true ∧
    thenIs (exec (.pulseAccepted .a) (gating (engine .open 1 0) (pulsed (some 7900)))) (fun t =>
      !(t.engine .a).double && (t.engine .a).edges = 1) = true := by decide +kernel
/-- Section 1.7: the late edge loses mains. -/
theorem test_zc_late : thenIs (exec .zcEdge ((station .idle).mapTime fun t => { t with counter := 40000 })) (fun t =>
    !t.pfe.zc.present && t.pfe.zc.goodRun = 1 && Event.mainsLost.isIn t.rrp.flags && t.bli.report = [.status]) = true := by
  decide +kernel
theorem test_reference_edge : thenIs (exec (.referenceEdge .rf1) (station .idle)) (fun t =>
    t.pfe.rf1.counter = 1 && t.pfe.rf0.counter = 0) = true := by decide +kernel
/-- Section 11.4: HELLO with 32 free slots, and w from what was heard. -/
theorem test_reset_end : thenIs (exec (.resetEnd 7 1 [.frame (frameBytes 3 33 63 [7, 0]) [] 300]) State.reset) (fun t =>
    t.rsq.runState = .idle && t.sys.address = 7 && t.sys.rate = .r250 && t.bli.w = 3 && t.bli.quiet = 300 + recessiveTail (frameBytes 3 33 63 [7, 0]) * 4 &&
      t.bli.report = [.hello 1 32 0 0]) = true := by decide +kernel
theorem test_strap_error : thenIs (exec (.resetEnd 61 1 []) State.reset) (fun t =>
    t.rsq.runState = .strapError && t.bli.report = []) = true := by decide +kernel
/-- R96, R136: a frame that its owner takes acts at its entry. -/
theorem test_frame_received : thenIs (exec (.frameReceived ⟨frameBytes 0 9 12 [1, 0, 0xFF, 0xFF], [], true⟩) ((station .idle).mapRrp fun r =>
    { r with flags := 3 })) (fun t => t.bli.buffer = [] && t.rrp.flags = 2 && t.rrp.mask = 0xFFFF && t.bli.w = 0) = true := by
  decide +kernel
/-- R96: a request waits while the reporting part is full. -/
theorem test_request_received : thenIs (exec (.frameReceived ⟨frameBytes 0 10 12 [], [], true⟩) ((station .idle).mapBli fun b =>
    { b with report := List.replicate 4 (.record [255, 0]) })) (fun t => t.bli.buffer = [⟨0, 10, 12, []⟩]) = true := by decide +kernel
theorem test_frame_received_bad_check : thenIs (exec (.frameReceived ⟨[0, 9, 12, 0, 1, 2], [], true⟩) (station .idle)) (fun t =>
    t.bli.buffer = [] && t.bli.lineErrors = 1) = true := by decide +kernel
theorem test_own_address_clashes : thenIs (exec (.frameReceived ⟨frameBytes 12 33 63 [7, 0], [], true⟩) (station .measuring)) (fun t =>
    t.rsq.runState = .clashed && t.rsq.verdict = some .incomplete && t.bli.report = []) = true := by decide +kernel
/-- Section 7.10: a DONE for the awaited point withdraws the station. -/
theorem test_done_out_of_step : thenIs (exec (.done 1 7 1 1 none) (station .waitLoad)) (fun t =>
    t.rsq.runState = .withdrawn && t.bli.coord = [.withdraw 7 1 .outOfStep] && (rosterAt t.rsq.roster 1).lastDone = some 1) = true := by
  decide +kernel
theorem test_load_ready : thenIs (exec (.loadReady 7 1 0) (station .waitLoad)) (fun t =>
    t.rsq.runState = .settling && t.rsq.phase = .settling) = true := by decide +kernel
/-- R120: address 60 is lapsed, address 1 taken as done. -/
theorem test_lapse : thenIs (exec (.lapse 1 7 1 (1#64 <<< 60)) (station .measuring)) (fun t =>
    (rosterAt t.rsq.roster 60).status = .lapsed && (rosterAt t.rsq.roster 1).lastDone = some 1) = true := by decide +kernel
/-- Section 9.7: a claim not above H is voided with the present H. -/
theorem test_claim_stale : thenIs (exec (.sealClaim 1 7 99) (station .idle)) (fun t =>
    t.bli.coord = [.void 7 1 99 99] && t.seu.voids = [(1, 99)] && t.seu.watermark = 99) = true := by decide +kernel
theorem test_claim_new : thenIs (exec (.sealClaim 1 7 100) (station .idle)) (fun t =>
    t.bli.coord = [] && t.seu.watermark = 100) = true := by decide +kernel
/-- R91, R93, R144: behind station 0 the claim waits 128 bit times of 8 µs, and goes out with serial H + 1 and its bytes. -/
theorem test_claim_attempt :
    let s (quiet : Nat) : State := ((station .sealing).mapBli fun b => { b with coord := [.claim 7], quiet := quiet }).mapSeu fun u =>
      { u with claim := ⟨.claimWait, none, false, 1, none, some 0⟩ }
    thenIs (exec (.sendAttemptStart []) (s 1024)) (fun t =>
      t.bli.attempt.any fun a => a.serial = 100 && a.bytes = frameBytes 12 37 63 [7, 0, 100, 0, 0, 0]) = true ∧
    thenIs (exec (.sendAttemptStart []) (s 1023)) (fun t => t.bli.attempt = none) = true := by decide +kernel
/-- R91: to a dominant bit that is taken first the station defers. A frame or noise that was on the line since starts the wait again: 128 bit
times of 8 µs from its end. -/
theorem test_attempt_deferred :
    let s := (station .idle).mapBli fun b => { b with report := [.record [255, 0]], quiet := 5000 }
    let t (line : List LineEdge) : State := nextOf (exec (.sendAttemptStart line) s) State.reset
    ((t [⟨true, 0⟩]).bli.attempt = none ∧ (t [⟨true, 0⟩]).bli.low = true ∧ (t [⟨true, 0⟩]).bli.quiet = 0) ∧
    ((t [⟨true, 1031⟩, ⟨false, 1023⟩]).bli.attempt = none ∧ (t [⟨true, 1031⟩, ⟨false, 1023⟩]).bli.quiet = 1023) ∧
    (t [⟨true, 1032⟩, ⟨false, 1024⟩]).bli.attempt ≠ none := by decide +kernel
/-- R28: a mains loss drops the held cycle and the rest of the engine's working state. -/
theorem test_loss_drops_gate : thenIs (exec .silenceTimerExpiry ((gating (engine .open 2 3) (pulsed none)).mapEngine .a fun g =>
    { g with held := some 9000, start := 5, latch := ⟨3, 1⟩, double := true, timeout := 4 })) (fun t =>
      t.engine .a = { GateEngine.reset with state := .doneCh, ending := .mains, params := ⟨5, 2, 1, 50, .rf0⟩ }) = true := by
  decide +kernel
/-- R97: after a stuck line 999 µs of recessive line are too few and 1,000 are enough; a frame that began too early leaves the wait. -/
theorem test_stuck_wait :
    let s (n : Nat) : State := ((station .idle).mapSys fun y => { y with rate := .r500 }).mapBli fun b =>
      { b with afterStuck := true, quiet := n, report := [.record [255, 0]] }
    let left (n : Nat) : Bool := thenIs (exec (.frameReceived ⟨frameBytes 0 13 11 [], [], true⟩) (s n)) fun t => t.bli.afterStuck
    (s 999).mayStart = false ∧ (s 1000).mayStart = true ∧ left (999 + 73 * 2) = true ∧ left (1000 + 73 * 2) = false := by
  decide +kernel
/-- R97: so does a break that is no frame, whatever the quiet count then reaches of the wait of 256 µs. -/
theorem test_stuck_wait_broken :
    let starts (quiet : Nat) : Bool := thenIs (exec (.sendAttemptStart [⟨true, 400⟩, ⟨false, 390⟩])
      (((station .idle).mapSys fun y => { y with rate := .r500 }).mapBli fun b =>
        { b with afterStuck := true, quiet := quiet, report := [.record [255, 0]] })) fun t => t.bli.attempt.isSome
    starts 1399 = false ∧ starts 1400 = true := by decide +kernel
/-- R91, R94: after a frame in error the quiet count is the line's; a frame still on it leaves none. -/
theorem test_quiet_after_error :
    let after (c : Instr) : Bool × Nat := let b := (nextOf (exec c (station .idle)) State.reset).bli; (b.low, b.quiet)
    after (.frameReceived ⟨[0, 9], [⟨true, 432⟩, ⟨false, 336⟩, ⟨true, 240⟩, ⟨false, 168⟩], true⟩) = (false, 168) ∧
      after (.frameReceiveError ⟨.framing, [⟨true, 200⟩]⟩) = (true, 0) := by decide +kernel
/-- R91, R92: at 4 µs a bit, a line that does not follow the first bit of the lead-in has been quiet since before the attempt; one that does
not follow the fourth, since the third; one that does not follow the start bit of the second character, since the last dominant bit of FE. -/
theorem test_line_not_following :
    let quiet (time : Word) : Nat := Attempt.recessiveFor ⟨.coordination, [0xFE, 0x80], [], 0, false, 100, 500⟩ 4 (100 + time)
    quiet 2 = 502 ∧ quiet 14 = 2 ∧ quiet (23 * 4 + 2) = 8 * 4 + 2 := by decide +kernel
/-- R91: a dominant line has no quiet count, and the idle step looks at it again when a wait of 1,024 µs has gone by. -/
theorem test_low_line :
    let s (unseen : Nat) : State := ((station .idle).mapBli fun b =>
      { b with low := true, unseen := unseen, report := [.record [255, 0]] }).mapTime fun _ => ⟨7, 0, 0⟩
    (nextOf (step (s 1023)) State.reset).bli.quiet = 0 ∧ (nextOf (step (s 1023)) State.reset).bli.unseen = 1024 ∧
      (nextOf (step (s 1023)) State.reset).pending = [] ∧ (nextOf (step (s 1024)) State.reset).pending.length = 1 := by
  decide +kernel
/-- R46: the figures of the peers whose last DONE is the point. -/
theorem test_figure_set :
    let s (last : Nat) : State := ((station .barrier).mapRsq fun q => { q with
      figure := some 50020
      roster := (q.roster.set 0 ⟨.enrolled, some 1, some 50012, 0⟩).set 59 ⟨.enrolled, some last, some 50012, 0⟩ }).mapEcu fun e =>
        { e with copy := { e.copy with tolerance := 300 } }
    (s 1).deviation = .agree 50012 159 ∧ (s 0).deviation = .unchecked := by decide +kernel
/-- R17, R97: a line low for 20 ms is not stuck, and 1 µs more it is. -/
theorem test_line_stuck : thenIs (exec (.lineStuck 0) ((station .idle).mapTime fun t => { t with counter := 20000 })) (fun t =>
      !t.bli.stuck) = true ∧
    thenIs (exec (.lineStuck 0) ((station .idle).mapTime fun t => { t with counter := 20001 })) (fun t =>
      t.bli.stuck && Event.lineStuck.isIn t.rrp.flags) = true := by decide +kernel
/-- R162: a wipe of a store with an unexported SEALED record is refused. -/
theorem test_wipe_refused : thenIs (exec .storeWipe ((station .idle).mapRst fun r =>
    { r with slots := r.slots.set 3 ⟨List.replicate 30 1, true, true, true, false, false⟩ })) (fun t =>
      t.rrp.lastRefusal = some ⟨13, .notExported⟩ && t.rst.op = none) = true := by decide +kernel
theorem test_wipe_taken : thenIs (exec .storeWipe (station .idle)) (fun t =>
    t.rst.op = some (.wipe 0) && t.rst.opTimer = some 20000) = true := by decide +kernel
theorem test_record_ask_none : thenIs (exec (.recordAsk 255) (station .idle)) (fun t =>
    t.bli.report = [.record [255, 0]]) = true := by decide +kernel
theorem test_hold_ends_gate : thenIs (exec (.holdSet 1) (gating (engine .open 1 2) (pulsed none))) (fun t =>
    (t.ecu.outcomes.a.map OutcomeRecord.outcome) = some .invalidHeld && (t.meter .a).pulse = none) = true := by decide +kernel
/-- R168: a hold puts a dwell count in its reset state, one that has ended but for that. -/
theorem test_hold_resets_dwell :
    let s (st : DwellState) : State := (dwelling .creep 3 4 (pulsed none)).mapDwell .a fun d => { d with state := st, held := some 9 }
    let t (st : DwellState) : State := nextOf (exec (.holdSet 1) ((s st).mapRsq fun q => { q with
      window := { q.window with state := .running } })) State.reset
    (t .counting).dwell .a = { Dwell.reset with state := .ended } ∧ (t .ended).dwell .a = { Dwell.reset with state := .ended } := by
  decide +kernel
/-- R151: a claim in an attempt at a RUN OPEN that acts as RUN ABORT sets H when it is sent, and opens nothing. -/
theorem test_aborted_claim_sent : thenIs (exec .frameSent ((station .enrolling).mapBli fun b => { b with
    attempt := some ⟨.coordination, [0xFF], [], 150, false, 0, 0⟩, coord := [.claim 6] })) (fun t =>
      t.seu.watermark = 150 && t.seu.claim.state = .none && t.seu.claim.confirm = none && t.bli.coord = []) = true := by decide +kernel
theorem test_run_abort : thenIs (exec (.runAbort 7) (station .paused)) (fun t =>
    t.rsq.runState = .finished && t.rsq.verdict = some .incomplete && t.seu.lamps.amber = .lit) = true := by decide +kernel
theorem test_plan_put_empty : thenIs (exec (.planPut [5, 0, 3, 1]) (station .idle)) (fun t =>
    t.descriptor 5 = ⟨.none, 3, true, false, none, none, none, none⟩) = true := by decide +kernel
/-- R70, R101: the kind codes end at 3. -/
theorem test_plan_put_kind_code : readPlanPut [5, 4, 3, 1] = none ∧
    readPlanPut [5, 3, 0, 1, 1, 2, 0, 244, 1, 100, 0, 0, 1, 100, 0, 2] ≠ none := by decide +kernel
theorem test_plan_put_bad_form : thenIs (exec (.planPut [48, 0, 3, 1]) (station .idle)) (fun t => t.bli.strays = 1) = true := by
  decide +kernel

/-! ### Every statement's premises are met

One theorem for each statement that has premises, at the edges of their ranges. -/

/-- An idle station, with nothing to do. -/
def ready : State := station .idle

theorem witness_StepRunsTheFrontCommand : ({ ready with pending := [.zcEdge, .statusAsk] }).pending = .zcEdge :: [.statusAsk] := rfl

/-- One period short of a µs, at a µs one short of a 10 ms phase, and at a 10 ms tick. -/
theorem witness_IdleStepIsOneClockPeriod :
    let timed (t : Timebase) : State := ready.mapTime fun _ => t
    let free (s : State) : Prop := s.pending = [] ∧ s.sys.inReset = false ∧ s.dueCommand = none
    free (timed ⟨6, 0, 0⟩) ∧ (timed ⟨6, 0, 0⟩).time.clk + 1 < 8 ∧
    free (timed ⟨7, 0, 9998⟩) ∧ 8 ≤ (timed ⟨7, 0, 9998⟩).time.clk + 1 ∧ (timed ⟨7, 0, 9998⟩).time.phase + 1 < 10000 ∧
    free (timed ⟨7, 0xFFFFFFFF, 9999⟩) ∧ 10000 ≤ (timed ⟨7, 0xFFFFFFFF, 9999⟩).time.phase + 1 := by decide +kernel

theorem witness_ResetsLeaveTheStatedValues : ready.takesFrames = true ∧ ready.rst.op = none ∧
    ResetCause.restart = (if ready.rsq.runState = .clashed then .restartClashed else .restart) ∧
    (station .clashed).takesFrames = true ∧
    ResetCause.restartClashed = (if (station .clashed).rsq.runState = .clashed then .restartClashed else .restart) := by
  decide +kernel

/-- Addresses 1 and 60 and rates 0 to 2 are valid; 0, 61 and rate 3 are strap errors. -/
theorem witness_ResetEndReadsTheStraps : State.reset.sys.inReset = true ∧ State.reset.rsq.runState = .starting ∧
    State.reset.bli.report = [] ∧ 1 ≤ (1 : BitVec 6).toNat ∧ (60 : BitVec 6).toNat ≤ 60 ∧ (2 : BitVec 2).toNat < 3 ∧
    (0 : BitVec 6).toNat = 0 ∧ 60 < (61 : BitVec 6).toNat ∧ (3 : BitVec 2).toNat = 3 ∧
    (State.inReset .restartClashed (List.replicate 32 ⟨List.replicate 30 1, true, false, false, false, false⟩) 5 ⟨false, false⟩ 0
      []).sys.cause = .restartClashed ∧ State.reset.bli.strays ≤ 65535 ∧ State.reset.bli.lineErrors ≤ 65535 := by decide +kernel

/-- Section 11.4 and R99: of a DONE from 3, a stray one from 61, a frame under the own address and a short one, w keeps the last good sender,
and one stray and one error are counted. -/
theorem test_reset_end_hears : thenIs (exec (.resetEnd 12 0 [.frame (frameBytes 3 34 63 (List.replicate 20 1)) [] 900,
    .frame (frameBytes 61 33 63 [7, 0]) [] 600, .frame [1, 2] [] 500, .frame (frameBytes 12 33 63 [7, 0]) [] 300]) State.reset) (fun t =>
    t.rsq.runState = .idle && t.bli.w = 12 && t.bli.strays = 1 && t.bli.lineErrors = 1 && t.bli.buffer = [] &&
      t.bli.report.length = 1) = true := by decide +kernel

/-- Each line of R159: no cell, the second alone, both with a check that does not agree, and the first with one that does. -/
theorem witness_ScannedAs :
    let c (one two : Bool) (last : Byte) : Slot := ⟨List.replicate 28 0 ++ leBytes 2 ((frameCheck (List.replicate 28 0)).toNat) ++ [last],
      one, two, false, false, false⟩
    let x := c true false 0
    let y : Slot := { x with cells := List.replicate 30 0, level2 := true }
    (c false false 0).level2 = false ∧ (c false true 0).level1 = false ∧
      (frameCheck (x.cells.take 28)).toNat = (x.cells.getD 28 0).toNat + 256 * (x.cells.getD 29 0).toNat ∧ x.level1 = true ∧
      (frameCheck (y.cells.take 28)).toNat ≠ (y.cells.getD 28 0).toNat + 256 * (y.cells.getD 29 0).toNat := by decide +kernel

/-- A channel in a gate engine or a dwell count, with a mains cycle held behind its pulse since the stamp given. -/
def heldBehind (s : State) (stamp : Word) : State :=
  if (s.engine .a).runs then s.mapEngine .a fun g => { g with held := some stamp }
  else s.mapDwell .a fun d => { d with held := some stamp }

/-- The same with the counts of cycles given. -/
def cycled (s : State) (n : Nat) : State :=
  (s.mapEngine .a fun g => { g with timeout := n }).mapDwell .a fun d => { d with cycles := n }

/-- An input free, back at its level or not, and with a pulse; cycles held one short of the length and two. -/
theorem witness_MeterPulseBeginsAndIsDropped :
    let free := gating (engine .armed 0 0) MeterInput.reset
    let after := gating (engine .armed 0 0) { MeterInput.reset with active := true, glitches := 255 }
    let pulse := gating (engine .armed 0 0) (pulsed none)
    let gate (n : Nat) : State := cycled (heldBehind (gating (engine .open 1 0) (pulsed none)) 9000) n
    let dwell (n : Nat) : State := cycled (heldBehind (dwelling .creep 0 0 (pulsed none)) 9000) n
    let judged (s : State) : Prop := s.alive = true ∧ s.live .a = true ∧ (s.meter .a).pulse ≠ none
    Fit [free, after, pulse, gate 48, gate 49, dwell 98, dwell 99] ∧
    (free.alive = true ∧ free.live .a = true ∧ (free.meter .a).pulse = none ∧ (free.meter .a).active = false) ∧
    (free.live .b = false ∧ (pulse.meter .a).pulse ≠ none ∧ (after.meter .a).active = true ∧ (after.meter .a).pulse = none) ∧
    (judged pulse ∧ pulse.heldStamp .a = none) ∧
    (judged (gate 48) ∧ judged (gate 49) ∧ ((gate 48).engine .a).held = some 9000 ∧ ((gate 48).engine .a).runs = true ∧
      ((gate 48).engine .a).timeout + 1 ≠ ((gate 48).engine .a).params.tg ∧
      ((gate 49).engine .a).timeout + 1 = ((gate 49).engine .a).params.tg) ∧
    judged (dwell 98) ∧ judged (dwell 99) ∧ ((dwell 98).engine .a).held = none ∧ ((dwell 98).dwell .a).held = some 9000 ∧
      ((dwell 98).dwell .a).state = .counting ∧ ((dwell 98).dwell .a).cycles + 1 ≠ ((dwell 98).dwell .a).length ∧
      ((dwell 99).dwell .a).cycles + 1 = ((dwell 99).dwell .a).length := ⟨fit (by decide +kernel), by decide +kernel⟩

/-- The last accepted edge 1,999 and 2,000 µs before, at Wd 20. -/
theorem witness_AcceptedEdgesOpenAndCount :
    let p : Pulse := ⟨10000, ⟨7, 1⟩⟩
    let armed := gating (engine .armed 0 0) (pulsed none)
    let near := gating (engine .open 1 3) (pulsed (some 8001))
    let far := gating (engine .open 1 3) (pulsed (some 8000))
    let held := cycled (heldBehind far 9999) 48
    let base (s : State) : Prop := s.alive = true ∧ (s.meter .a).pulse = some p
    (base armed ∧ armed.heldStamp .a = none ∧ (armed.engine .a).state = .armed) ∧
    (base near ∧ near.heldStamp .a = none ∧ (near.engine .a).state = .open ∧ (near.meter .a).lastEdge = some 8001 ∧
      (p.stamp - 8001).toNat < (near.meter .a).wd * 100) ∧
    (base far ∧ far.heldStamp .a = none ∧ (far.engine .a).state = .open ∧ (far.meter .a).lastEdge = some 8000 ∧
      (far.meter .a).wd * 100 ≤ (p.stamp - 8000).toNat ∧ (far.engine .a).edges + 1 < (far.engine .a).params.nm) ∧
    base held ∧ (held.engine .a).held = some 9999 ∧ (held.engine .a).timeout + 1 ≠ (held.engine .a).params.tg := by
  decide +kernel

/-- A cycle held since 1 µs before the pulse, with it and 1 µs after it, beside the opening edge, a double one and a counted one, one short
of Tg and at it. -/
theorem witness_AcceptedEdges_held :
    let p : Pulse := ⟨10000, ⟨7, 1⟩⟩
    let held (st : GateState) (last : Option Word) (c : Word) (n tg : Nat) : State :=
      (cycled (heldBehind (gating (engine st 1 3) (pulsed last)) c) n).mapEngine .a fun g => { g with params := { g.params with tg := tg } }
    let base (s : State) (c : Word) : Prop := s.alive = true ∧ (s.meter .a).pulse = some p ∧ (s.engine .a).held = some c ∧
      (s.dwell .a).state ≠ .counting
    (∀ last c n tg, base (held .armed last c n tg) c ∧ base (held .open last c n tg) c) ∧
    ((9999 : Word) ≠ p.stamp ∧ (p.stamp - 9999).toNat < 2 ^ 31 ∧ 10000 = p.stamp ∧ 2 ^ 31 ≤ (p.stamp - 10001).toNat) ∧
    (p.stamp - 8001).toNat < ((held .open (some 8001) 9999 48 50).meter .a).wd * 100 ∧
    ((held .open (some 8000) 9999 48 50).engine .a).edges + 1 < ((held .open (some 8000) 9999 48 50).engine .a).params.nm :=
  ⟨fun _ _ _ _ => ⟨⟨rfl, rfl, rfl, nofun⟩, rfl, rfl, rfl, nofun⟩, by decide +kernel, by decide +kernel, by decide +kernel⟩

/-- The edge exactly Wd × 100 µs after the one before, in gate 2 and in the last one, with and without a reference count between; a held
cycle that reaches the timeout, 1 µs before the edge, with it and 1 µs after it. -/
theorem witness_ClosingEdgeSharesItsSnapshot :
    let p : Pulse := ⟨10000, ⟨7, 1⟩⟩
    let s (gate : Nat) : State := gating (engine .open gate 4) (pulsed (some 8000))
    let still := (s 2).mapEngine .a fun g => { g with latch := ⟨7, 1⟩ }
    let held (c : Word) : State := cycled (heldBehind (s 3) c) 49
    let base (s : State) : Prop := s.alive = true ∧ (s.meter .a).pulse = some p ∧ (s.engine .a).state = .open ∧
      (s.meter .a).lastEdge = some 8000 ∧ (s.meter .a).wd * 100 ≤ (p.stamp - 8000).toNat ∧
      (s.engine .a).edges + 1 = (s.engine .a).params.nm ∧ (s.dwell .a).state ≠ .counting
    let gates (s : State) : Nat := (s.engine .a).params.repeats + (s.engine .a).params.discard
    (base (s 2) ∧ (s 2).heldStamp .a = none ∧ p.snap.count ≠ ((s 2).engine .a).latch.count ∧ ((s 2).engine .a).gate < gates (s 2)) ∧
    (base (s 3) ∧ gates (s 3) ≤ ((s 3).engine .a).gate) ∧ (base still ∧ p.snap.count = (still.engine .a).latch.count) ∧
    (base (held 9999) ∧ ((held 9999).engine .a).held = some 9999 ∧
      ((held 9999).engine .a).timeout + 1 = ((held 9999).engine .a).params.tg ∧ (9999 : Word) ≠ p.stamp ∧
      (p.stamp - 9999).toNat < 2 ^ 31) ∧
    base (held 10000) ∧ 10000 = p.stamp ∧ base (held 10001) ∧ 2 ^ 31 ≤ (p.stamp - 10001).toNat ∧
      p.snap.count ≠ ((held 10001).engine .a).latch.count ∧ gates (held 10001) ≤ ((held 10001).engine .a).gate :=
  ⟨by decide +kernel, by decide +kernel, by decide +kernel, by decide +kernel⟩

/-- R41, sections 3.2 and 3.3: the last gate's entry, with case 1's 650 ppm and the 1 glitch; a timeout at a held cycle before the edge
hands on none. -/
theorem test_gate_entry_handed :
    let g : GateEngine := { engine .open 3 9 with params := ⟨10, 2, 1, 50, .rf0⟩ }
    let m : MeterInput := { pulsed (some 8000) with pulse := some ⟨10000, ⟨19987, 1⟩⟩, glitches := 1 }
    let s := (gating g m).mapEcu fun e => { e with copy := { e.copy with seq := 1, discard := 1, k := ⟨131072000, 0⟩ } }
    let after (s : State) : List Entry := (nextOf (exec (.pulseAccepted .a) s) State.reset).rrp.queue
    after s = [.gate ⟨.a, 1, 3, some 650, false, false, false, 1, 10⟩] ∧ after (cycled (heldBehind s 9999) 49) = [] := by
  decide +kernel

/-- The same with a cycle held since each of the three stamps, short of Tg and at it, and at a Tg of 1. -/
theorem witness_ClosingEdge_held :
    let p : Pulse := ⟨10000, ⟨7, 1⟩⟩
    let s (gate n tg : Nat) (from_ c : Word) : State := (cycled (heldBehind (gating (engine .open gate 4) (pulsed (some 8000))) c) n).mapEngine
      .a fun g => { g with latch := ⟨from_, 1⟩, params := { g.params with tg := tg } }
    let base (s : State) (c : Word) : Prop := s.alive = true ∧ (s.meter .a).pulse = some p ∧ (s.engine .a).state = .open ∧
      (s.engine .a).held = some c ∧ (s.engine .a).edges + 1 = (s.engine .a).params.nm ∧ (s.dwell .a).state ≠ .counting
    (∀ gate n tg l c, base (s gate n tg l c) c) ∧
    ((9999 : Word) ≠ p.stamp ∧ (p.stamp - 9999).toNat < 2 ^ 31 ∧ 10000 = p.stamp ∧ 2 ^ 31 ≤ (p.stamp - 10001).toNat) ∧
    ((s 2 48 50 6 9999).engine .a).gate < 3 ∧ ((s 2 48 50 6 9999).engine .a).params.repeats = 2 :=
  ⟨fun _ _ _ _ _ => ⟨rfl, rfl, rfl, rfl, rfl, nofun⟩, by decide +kernel, by decide +kernel, by decide +kernel⟩

/-- A creep point with 0 and 1 allowed, a start point with 1 and 2 required; the first edge of the dwell, one exactly Wd × 100 µs after the
one before, and one 1 µs nearer. -/
theorem witness_DwellEdgeEndsTheChannel :
    let p : Pulse := ⟨10000, ⟨7, 1⟩⟩
    let base (s : State) : Prop := s.alive = true ∧ (s.meter .a).pulse = some p ∧ (s.engine .a).state = .off ∧
      (s.dwell .a).state = .counting ∧ s.heldStamp .a = none
    let far (s : State) : Prop := ((s.meter .a).lastEdge.all fun last => decide ((s.meter .a).wd * 100 ≤ (p.stamp - last).toNat)) = true
    let c (n : Nat) : State := dwelling .creep 0 n (pulsed none)
    let g (n : Nat) : State := dwelling .start 1 n (pulsed (some 8000))
    let near := dwelling .creep 1 5 (pulsed (some 8001))
    (base (c 0) ∧ far (c 0) ∧ ((c 0).dwell .a).kind = .creep ∧ ((c 0).dwell .a).number < ((c 0).dwell .a).edges + 1) ∧
    (base (c 1) ∧ far (c 1) ∧ ((c 1).dwell .a).edges + 1 ≤ ((c 1).dwell .a).number) ∧
    (base (g 2) ∧ far (g 2) ∧ ((g 2).dwell .a).kind = .start ∧ ((g 2).dwell .a).edges + 1 = ((g 2).dwell .a).number) ∧
    (base (g 3) ∧ far (g 3) ∧ ((g 3).dwell .a).edges + 1 < ((g 3).dwell .a).number) ∧ base near ∧ ¬ far near := by
  decide +kernel

theorem witness_ReferenceEdgeAdvancesTheCounter : Fit [ready] ∧ ready.alive = true := ⟨fit (by decide +kernel), by decide +kernel⟩

/-- Edges 7,999, 8,000, 25,000 and 25,001 µs after the last, with mains present and without. -/
theorem witness_ZcEdgeIsJudgedByItsSpacing :
    let z (zc : Zc) : State := (ready.mapPfe fun p => { p with zc := zc }).mapTime fun t => { t with counter := 30000 }
    let e (last : Word) : Nat := ((30000 : Word) - last).toNat
    (∀ zc : Zc, (z zc).LampsFollow ∧ (z zc).alive = true ∧ (z zc).rsq.phase = .none ∧ (z zc).live .a = false ∧
      (z zc).live .b = false) ∧
    (z ⟨none, 0, false, 0, none⟩).pfe.zc.lastEdge = none ∧
    e 22001 < 8000 ∧ 8000 ≤ e 22000 ∧ e 5000 ≤ 25000 ∧ 25000 < e 4999 ∧
    (z ⟨some 5000, 3, true, 0, none⟩).pfe.zc.present = true ∧
    (z ⟨some 5000, 2, false, 0, none⟩).pfe.zc.goodRun ≠ 3 ∧ (z ⟨some 5000, 3, false, 0, none⟩).pfe.zc.goodRun = 3 ∧
    (z ⟨some 4999, 0, true, 0, none⟩).pfe.zc.present = true ∧ (station .barrier).LampsFollow ∧
    ((station .barrier).mapRsq fun q => { q with phase := .ended }).rsq.phase = .ended :=
  ⟨fun _ => ⟨rfl, rfl, rfl, rfl, rfl⟩, by decide +kernel, by decide +kernel, by decide +kernel, by decide +kernel, by decide +kernel,
    by decide +kernel, by decide +kernel, by decide +kernel, by decide +kernel, rfl, by decide +kernel⟩

/-- A station that settles, with a descriptor, settling cycles counted, holds, and the last mains edge 25,000 µs ago. -/
def settles (d : Descriptor) (counted : Nat) (held present : Bool) : State :=
  let s := (station .settling).mapRsq fun q => { q with phase := .settling, settle := counted }
  let s := (s.mapPlt fun p => { p with plan := p.plan.set 0 d }).mapSys fun y => { y with holds := ⟨held, held, false, false⟩ }
  (s.mapPfe fun p => { p with zc := ⟨some 975000, 0, present, 0, some 0⟩ }).mapTime fun t => { t with counter := 1000000 }

/-- The same in WAIT_LOAD. -/
def loading (d : Descriptor) (present : Bool) : State :=
  (settles d 0 false present).mapRsq fun q => { q with runState := .waitLoad, phase := .none }

/-- A settling cycle before the last, and the last one for a gate engine, a dwell count and a held channel with no window; a LOAD READY with
settle 0 and one with mains absent; and a silence. -/
theorem witness_EntryToMeasuringArmsTheChannels :
    let atOnce : Descriptor := { accuracyPoint with point := accuracyPoint.point.map fun f => { f with settle := 0 } }
    let early := settles accuracyPoint 0 false true
    let gate := settles accuracyPoint 1 false true
    let dwell := settles creepPoint 1 false true
    let held := settles creepPoint 1 true true
    let settle (s : State) : Nat := (s.current.point.map PointFields.settle).getD 0
    let base (s : State) : Prop := s.alive = true ∧ s.rsq.runState ≠ .clashed ∧ s.current.point.isSome = true ∧ s.current.kind ≠ .none
    let cycle (s : State) : Prop := base s ∧ s.pfe.zc.present = true ∧ s.rsq.phase = .settling ∧ s.live .a = false ∧
      s.live .b = false ∧ s.pfe.zc.lastEdge = some 975000 ∧ 8000 ≤ (s.time.counter - 975000).toNat ∧
      (s.time.counter - 975000).toNat ≤ 25000 ∧ s.rsq.received = ⟨none, none⟩
    let loaded (s : State) : Prop := base s ∧ s.takesFrames = true ∧ s.rsq.run = some 7 ∧ s.rsq.runState = .waitLoad ∧
      (1 : Half).toNat = s.rsq.seq ∧ (0 : Byte).toNat = s.rsq.desc
    let arms (s : State) : Bool := s.mask.a && !s.sys.holds.chan .a && s.pfe.zc.present
    Fit [early] ∧ (cycle early ∧ early.rsq.settle + 1 ≠ settle early) ∧
    (cycle gate ∧ gate.rsq.settle + 1 = settle gate ∧ arms gate = true ∧ gate.current.kind = .accuracy) ∧
    (cycle dwell ∧ dwell.rsq.settle + 1 = settle dwell ∧ arms dwell = true ∧ dwell.current.kind = .creep) ∧
    (cycle held ∧ held.sys.holds.chan .a = true ∧ arms held = false ∧ held.current.point.map PointFields.window = some 0) ∧
    (loaded (loading atOnce true) ∧ settle (loading atOnce true) = 0) ∧
    (loaded (loading accuracyPoint false) ∧ (loading accuracyPoint false).pfe.zc.present = false) ∧
    gate.pfe.zc.silence ≠ none :=
  ⟨fit (by decide +kernel), by decide +kernel, by decide +kernel, by decide +kernel, by decide +kernel, by decide +kernel⟩

/-- A measuring station whose last mains edge lies 8,000 µs back, with a window and a record of channel A or none. -/
def counting (s : State) (w : WindowState) (cycles : Nat) (record : Option OutcomeRecord) : State :=
  ((s.mapRsq fun q => { q with window := ⟨w, ⟨3, 1⟩, cycles, .rf0⟩, received := ⟨record, none⟩ }).mapPfe fun p =>
    { p with zc := ⟨some 2000, 0, true, 0, some 0⟩ }).mapTime fun t => { t with counter := 10000 }

/-- Channel A in a gate engine and in a dwell count, one cycle short of the length and two, with and without a pulse; the window waiting, one
cycle short of its length and two; and the cycle that completes the point. -/
theorem witness_CountedCycleInMeasuring :
    let base (s : State) : Prop := s.alive = true ∧ s.pfe.zc.present = true ∧ s.pfe.zc.lastEdge = some 2000 ∧
      8000 ≤ (s.time.counter - 2000).toNat ∧ (s.time.counter - 2000).toNat ≤ 25000 ∧ s.rsq.phase = .measuring ∧
      s.rsq.runState = .measuring ∧ s.current.point.isSome = true ∧ s.pointOver = false ∧ s.live .b = false
    let ends (s : State) : Prop := s.mask.a = true ∧ s.rsq.received.a = none
    let gate (n : Nat) (w : WindowState) (c : Nat) : State := counting (cycled (gating (engine .open 1 0) MeterInput.reset) n) w c none
    let dwell (n : Nat) : State := counting (cycled (dwelling .creep 0 0 MeterInput.reset) n) .absent 0 none
    let pulse := counting (gating (engine .armed 0 0) (pulsed none)) .waiting 0 none
    let closes := counting (gating GateEngine.reset MeterInput.reset) .running 2 (some ⟨.pass, none, none, 0, 0⟩)
    (base (gate 48 .waiting 0) ∧ ends (gate 48 .waiting 0) ∧ ((gate 48 .waiting 0).engine .a).runs = true ∧
      ((gate 48 .waiting 0).meter .a).pulse = none ∧
      ((gate 48 .waiting 0).engine .a).timeout + 1 ≠ ((gate 48 .waiting 0).engine .a).params.tg ∧
      (gate 48 .waiting 0).rsq.window.state = .waiting) ∧
    (base (gate 49 .running 1) ∧ ends (gate 49 .running 1) ∧
      ((gate 49 .running 1).engine .a).timeout + 1 = ((gate 49 .running 1).engine .a).params.tg ∧
      (gate 49 .running 1).rsq.window.cycles + 1 ≠ 3) ∧
    (base pulse ∧ ends pulse ∧ (pulse.meter .a).pulse ≠ none) ∧
    (base (dwell 98) ∧ ends (dwell 98) ∧ ((dwell 98).dwell .a).state = .counting ∧ ((dwell 98).engine .a).runs = false ∧
      ((dwell 98).dwell .a).cycles + 1 ≠ ((dwell 98).dwell .a).length) ∧
    (base (dwell 99) ∧ ((dwell 99).dwell .a).cycles + 1 = ((dwell 99).dwell .a).length) ∧
    (base closes ∧ closes.live .a = false ∧ closes.rsq.window.state = .running ∧ closes.rsq.window.cycles + 1 = 3) ∧
    closes.current.point.map PointFields.window = some 3 :=
  ⟨by decide +kernel, by decide +kernel, by decide +kernel, by decide +kernel⟩

/-- A channel running: with no window, with one that runs and with one that is over; a late edge and a silence; mains absent. -/
theorem witness_MainsLossEndsRunningChannels :
    let s (w : WindowState) : State := ((gating (engine .open 1 0) MeterInput.reset).mapTime fun t => { t with counter := 25001 }).mapRsq
      fun q => { q with window := ⟨w, ⟨3, 1⟩, 1, .rf0⟩ }
    let lost := ready.mapPfe fun p => { p with zc := ⟨some 0, 0, false, 0, some 0⟩ }
    let base (s : State) : Prop := s.pfe.zc.present = true ∧ s.rsq.phase = .measuring ∧ s.live .a = true ∧ s.live .b = false ∧
      s.mask = ⟨true, false⟩ ∧ s.rsq.received.a = none ∧ s.pfe.zc.silence ≠ none ∧ s.alive = true ∧ s.pfe.zc.lastEdge = some 0 ∧
      25000 < (s.time.counter - (0 : Word)).toNat ∧ s.rsq.runState = .measuring ∧ s.pointOver = false ∧ (s.engine .a).runs = true
    Fit [lost, ready] ∧ (ready.pfe.zc.present = true ∧ ready.pfe.zc.silence ≠ none ∧ ready.rsq.phase = .none ∧ ready.live .a = false ∧
      ready.live .b = false) ∧ lost.pfe.zc.present = false ∧ (∀ w ∈ [WindowState.none, .waiting, .running, .complete], base (s w)) ∧
    (s .none).rsq.window.state = .none ∧ (s .waiting).rsq.window.state = .waiting ∧ (s .running).rsq.window.state = .running ∧
    (s .complete).rsq.window.state ≠ .none := ⟨fit (by decide +kernel), by decide +kernel⟩

/-- The largest counts of the clauses, and a gate saturated from below, discarded and kept. -/
theorem witness_GateErrorIsRoundedAndClamped :
    let x (gate : Nat) : GateSample := ⟨.a, gate, 1, 250000000, 8, 900, 2, false⟩
    (0 < (2 ^ 32 - 1) * 8 ∧ 0 < 65535 ∧ 0 < 2 ^ 32 - 1 ∧ 65535 ≤ 65535 ∧ 2 ^ 32 - 1 < 2 ^ 32 ∧
      (2 ^ 32 - 1) * 8 ≤ (2 ^ 32 - 1) * 8) ∧
    (x 1).mp * (x 1).prescaler ≠ 0 ∧ 0 < (x 1).nm ∧ rawGateError 1 65536 ((x 1).mp * (x 1).prescaler) < -999999 ∧
      (x 1).gate ≤ 1 ∧ 1 < (x 2).gate := by decide +kernel

/-- A point copy with the limits and the spread limit given. -/
def judgedBy (lower upper : Int) (spread : Nat) : PointCopy := { Ecu.reset.copy with lower := lower, upper := upper, spreadLimit := spread }

/-- Section 3.5, the order of the outcome tests: the seven rows. -/
theorem test_outcome_order :
    let row (sum lo hi : Int) (saturated double : Bool) : ChanOutcome × Option Int × Option Nat :=
      let r := accuracyRecord (judgedBy (-500) 500 40) ⟨4, sum, some lo, some hi, saturated, double, 0⟩ .none
      (r.outcome, r.mean, r.spread)
    row 493 110 135 false false = (.pass, some 123, some 25) ∧ row 493 110 135 false true = (.invalidDouble, some 123, some 25) ∧
    row (-2004) (-520) (-480) false false = (.failLow, some (-501), some 40) ∧
    row 475 100 160 false false = (.failSpread, some 119, some 60) ∧ row 1035 140 600 false false = (.failSpread, some 259, some 460) ∧
    row 0 (-999999) 999999 true false = (.failHigh, some 0, some 1999998) ∧
    row 2000 490 510 false false = (.pass, some 500, some 20) := by decide +kernel

/-- Section 3.5, the point with one channel timing out: halves go away from zero, and the ending decides before the rest. -/
theorem test_outcome_records :
    accuracyRecord (judgedBy (-1000) 1000 30) ⟨3, 1957, some 642, some 660, false, false, 1⟩ .none = ⟨.pass, some 652, some 18, 3, 1⟩ ∧
    accuracyRecord (judgedBy (-1000) 1000 30) ⟨2, -815, some (-420), some (-395), false, false, 2⟩ .timeout =
      ⟨.invalidTimeout, some (-408), some 25, 2, 2⟩ := by decide +kernel

/-- Each line of R43's table at its edges: a mean at each limit and 1 past it, a saturated mean of 0 and of −1, a spread at its limit and 1
past it, and unchecked with a limit of 0; each ending; a mean of ±1/2, and no kept gate. -/
theorem witness_JudgedBy :
    let r (sum : Int) (spread : Int) (saturated double : Bool) (limit : Nat) (e : Ending) : OutcomeRecord :=
      accuracyRecord (judgedBy (-1000) 1000 limit) ⟨2, sum, some 0, some spread, saturated, double, 0⟩ e
    let outcome (sum spread : Int) (limit : Nat) : ChanOutcome := (r sum spread false false limit .none).outcome
    ([Ending.timeout, .noref, .mains, .held].map fun e => (r 5000 501 true true 500 e).outcome) =
      [.invalidTimeout, .invalidNoref, .invalidMains, .invalidHeld] ∧
    (r 5000 501 true true 500 .none).outcome = .invalidDouble ∧
    ((r (-2) 0 true false 500 .none).mean = some (-1) ∧ (r (-2) 0 true false 500 .none).outcome = .failLow) ∧
    ((r 0 0 true false 500 .none).mean = some 0 ∧ (r 0 0 true false 500 .none).outcome = .failHigh) ∧
    (outcome (-2001) 0 500 = .failLow ∧ outcome (-2000) 500 500 = .pass ∧ outcome 2000 500 500 = .pass ∧ outcome 2001 0 500 = .failHigh) ∧
    (outcome 2000 501 500 = .failSpread ∧ outcome 2000 501 0 = .pass) ∧
    ((r 1 0 false false 0 .none).mean = some 1 ∧ (r (-1) 0 false false 0 .none).mean = some (-1)) ∧
    (accuracyRecord (judgedBy 0 0 0) ⟨0, 0, none, none, false, false, 3⟩ .mains) = ⟨.invalidMains, none, none, 0, 3⟩ := by
  decide +kernel

/-- Two figures, three with a lower median of 0, and a deviation at the tolerance and past it. -/
theorem witness_DeviationComparesWithTheLowerMedian : [50008].length + 1 < 3 ∧ 3 ≤ [0, 0].length + 1 ∧
    deviationRecord (some 50008) [0, 0] 1 = .unchecked ∧
    deviationRecord (some 1000300) [1000000, 1000000] 300 = .agree 1000000 300 ∧
    deviationRecord (some 1000301) [1000000, 1000000] 300 = .disagree 1000000 301 := by decide +kernel

theorem witness_PointVerdictTakesTheWorstClass :
    (∃ m d, Deviation.disagree 5 6 = .disagree m d) ∧ (∀ m d, Deviation.agree 5 6 ≠ .disagree m d) ∧
    ∃ ch r, (⟨some ⟨.pass, none, none, 0, 0⟩, none⟩ : PerChan (Option OutcomeRecord)).get ch = some r :=
  ⟨⟨5, 6, rfl⟩, nofun, .a, _, rfl⟩

/-- The store with an operation in flight. -/
def storing (s : State) (op : StoreOp) : State := s.mapRst fun r => { r with op := some op, opTimer := some 0 }

/-- A job of the seal unit for slot 0, or of the run sequencer. -/
def job (sealed : Bool) : WriteJob where
  record := ⟨7, 12, .pass, if sealed then some .sealed else none, if sealed then some 100 else none, Tally.reset⟩
  sealed := sealed
  slot := if sealed then some 0 else none

/-- A mark in flight, and so many requests waiting. -/
def crowded (s : State) (n : Nat) : State :=
  (storing s (.mark 3 .exported false)).mapRst fun r => { r with waiting := List.replicate n (.mark 4 .exported false) }

/-- A store whose 32 slots hold unexported records, so that none is free. -/
def fullStore (s : State) : State :=
  s.mapRst fun r => { r with slots := List.replicate 32 ⟨List.replicate 30 1, true, true, true, false, false⟩ }

/-- A store as a record finds it: idle with a blank slot, with a slot to erase and with none; at work with seven requests waiting; with
requests to begin; and with eight waiting. -/
theorem witness_HandsOver :
    let used (s : State) : State := (fullStore s).mapSlot 31 fun c => { c with exported := true }
    let blank (s : State) (n : Nat) : Prop := (s.slot n).isEmpty = true ∧ ∀ x ∈ (s.slot n).cells, x = 0
    let begins := ready.mapRst fun r => { r with waiting := [.mark 4 .exported false] }
    (ready.rst.op = none ∧ ready.rst.waiting = []) ∧
    (ready.WritesTo (job false) 0 ∧ blank ready 0) ∧ ((used ready).WritesTo (job false) 31 ∧ ¬ blank (used ready) 31) ∧
    (ready.WritesTo (job true) 0) ∧ ((job false).slot = none ∧ (fullStore ready).chooseSlot = none) ∧
    ((crowded ready 7).rst.op ≠ none ∧ (crowded ready 7).rst.waiting.length < 8) ∧
    (begins.rst.op = none ∧ begins.rst.waiting ≠ [] ∧ begins.rst.waiting.length < 8) ∧ 8 ≤ (crowded ready 8).rst.waiting.length := by
  simp only [State.WritesTo]; decide +kernel

/-- A station in SEALING that waits for the end of the store's operation to reserve a slot, its verdict PASS, H at the value given. -/
def reserving (h : Nat) : State :=
  ((storing (station .sealing) (.mark 3 .exported false)).mapRst fun r => { r with reserveAsked := true }).mapRsq (fun q =>
    { q with verdict := some .pass }) |>.mapSeu fun u => { u with watermark := h }

/-- R143, R147, R155: the operation ends, and the reservation that waits is made: a slot and a claim; STORE_FULL without a free slot; the
record with EXHAUSTED to the reserved slot without a serial. -/
theorem test_reservation_at_operation_end :
    let after (s : State) : State := nextOf (exec .markEnd s) State.reset
    let t := after (reserving 198)
    let f := after (storing (fullStore (reserving 198)) (.mark 3 .pressed false))
    let e := after (reserving 199)
    (t.rst.reservation = some 0 ∧ t.seu.claim.state = .claimWait ∧ t.bli.coord = [.claim 7] ∧ t.rsq.runState = .sealing) ∧
    (f.rst.reservation = none ∧ f.seu.outcome = some .storeFull ∧ f.rsq.runState = .finished ∧
      Event.storeFull.isIn f.rrp.flags = true) ∧
    (e.rst.write.map Prod.fst = some 0 ∧ e.seu.outcome = some .exhausted ∧ e.rsq.runState = .finished ∧ e.bli.coord = []) := by
  decide +kernel

/-- R155, R157: a write that waits chooses its slot when it begins. The mark EXPORTED that ends has freed slot 3 for it; but a reservation
that waits takes slot 3 first, and the write finds none. -/
theorem test_waiting_write_chooses_at_its_begin :
    let waits (s : State) : State := (fullStore s).mapRst fun r => { r with waiting := [.write (job false)] }
    let t := nextOf (exec .markEnd (waits (storing ready (.mark 3 .exported false)))) State.reset
    let u := nextOf (exec .markEnd (waits (reserving 198))) State.reset
    (t.rst.op = some (.erase 3 (job false)) ∧ t.rst.waiting = [] ∧ Event.storeFull.isIn t.rrp.flags = false) ∧
    (u.rst.op = none ∧ u.rst.waiting = [] ∧ u.rst.reservation = some 3 ∧ Event.storeFull.isIn u.rrp.flags = true) := by
  decide +kernel

/-- A failed, an invalid and a passed run; without sealing, with no free slot, with the last serial left and with none; and while the store
works, with seven requests waiting. A reservation that waits, with a serial left, with none and with no free slot; what becomes of a record
handed over is met by witness_HandsOver. -/
theorem witness_RunEndGivesTheVerdict :
    let base (s : State) : Prop := s.rsq.run = some 7 ∧ s.rsq.runState = .barrier
    let idle (s : State) : Prop := s.rst.op = none ∧ s.rst.waiting = []
    let seals (s : State) : Prop := s.rsq.tally.failed = 0 ∧ s.rsq.tally.invalid = 0 ∧ s.seu.enable = true
    let s := station .barrier
    let plain := s.mapSeu fun u => { u with enable := false }
    let used (h : Nat) : State := s.mapSeu fun u => { u with watermark := h }
    let asked (s : State) : Prop := s.rst.reserveAsked = true ∧ s.rsq.run = some 7 ∧ s.rsq.runState = .sealing ∧
      s.rsq.verdict = some .pass ∧ s.seu.block = some (100, 199)
    let tallied (f i : Nat) : State := s.mapRsq fun q => { q with tally := { q.tally with failed := f, invalid := i } }
    (base (tallied 1 1) ∧ 0 < (tallied 1 1).rsq.tally.failed ∧ base (tallied 0 1) ∧ 0 < (tallied 0 1).rsq.tally.invalid) ∧
    (base plain ∧ idle plain ∧ ¬ seals plain ∧ plain.chooseSlot = some 0 ∧ (fullStore plain).chooseSlot = none) ∧
    (base (fullStore s) ∧ idle (fullStore s) ∧ seals (fullStore s) ∧ (fullStore s).chooseSlot = none) ∧
    (base (used 198) ∧ idle (used 198) ∧ seals (used 198) ∧ (used 198).chooseSlot = some 0 ∧ (used 198).seu.block = some (100, 199) ∧
      (used 198).seu.watermark + 1 ≤ 199 ∧ seals (used 199) ∧ 199 < (used 199).seu.watermark + 1) ∧
    (base (crowded s 7) ∧ (crowded s 7).rst.op ≠ none ∧ seals (crowded s 7) ∧ ¬ seals (crowded plain 7) ∧
      (crowded plain 7).rst.waiting.length < 8) ∧
    (asked (reserving 198) ∧ (reserving 198).chooseSlot = some 0 ∧ (reserving 198).seu.watermark + 1 ≤ 199) ∧
    (asked (reserving 199) ∧ (reserving 199).chooseSlot = some 0 ∧ 199 < (reserving 199).seu.watermark + 1) ∧
    asked (fullStore (reserving 198)) ∧ (fullStore (reserving 198)).chooseSlot = none :=
  ⟨by decide +kernel, by decide +kernel, by decide +kernel, by decide +kernel, by decide +kernel, by decide +kernel, by decide +kernel,
    by decide +kernel⟩

/-- With no write about, a slot may be taken if it is EMPTY or exported, and not reserved. -/
theorem mayTake_idle {s : State} (h : s.rst.op = none) (w : s.rst.waiting = []) (n : Nat) :
    s.MayTake n ↔ n < 32 ∧ ((s.slot n).isEmpty = true ∨ (s.slot n).exported = true) ∧ s.rst.reservation ≠ some n := by
  simp [State.MayTake, Rst.write, h, w]

/-- Each class of R155 in turn the first that holds a free slot: an EMPTY slot 31 behind a reserved one; a DAMAGED one; the older of two
records, behind a wrap of the numbers; and none. -/
theorem witness_ChosenSlot :
    let held (n : Nat) (exported : Bool) : Slot := ⟨leBytes 1 0 ++ leBytes 2 n ++ List.replicate 27 1, true, true, true, false, exported⟩
    let s (l : List (Nat × Slot)) (d : List Bool) : State := ready.mapRst fun r => { r with
      slots := l.foldl (fun slots x => slots.set x.1 x.2) (List.replicate 32 (held 5 false)), damaged := d, reservation := some 0, lastRecord := 3 }
    let none_ := List.replicate 32 false
    let e := s [(0, Slot.erased), (31, Slot.erased), (2, held 7 true)] none_
    let d := s [(4, held 7 true), (31, held 8 true)] (none_.set 31 true)
    let o := s [(4, held 2 true), (31, held 65535 true)] none_
    (e.MayTake 31 ∧ (e.slot 31).isEmpty = true ∧ ∀ m, m < 31 → e.MayTake m → (e.slot m).isEmpty = false) ∧
    ((∀ m, d.MayTake m → (d.slot m).isEmpty = false) ∧ d.MayTake 31 ∧ d.isDamaged 31 = true ∧
      ∀ m, m < 31 → d.MayTake m → d.isDamaged m = false) ∧
    ((∀ m, o.MayTake m → (o.slot m).isEmpty = false ∧ o.isDamaged m = false) ∧ o.OldestAmong o.MayTake 31) ∧
    ∀ m, ¬ (s [] none_).MayTake m := by
  intro held s none_ e d o
  have idle (l : List (Nat × Slot)) (d : List Bool) (n : Nat) := mayTake_idle (s := s l d) rfl rfl n
  refine ⟨⟨(idle _ _ _).2 (by decide +kernel), by decide +kernel, fun m h => ?_⟩, ⟨fun m h => ?_, (idle _ _ _).2 (by decide +kernel),
    by decide +kernel, fun m h => ?_⟩, ⟨fun m h => ?_, by decide, (idle _ _ _).2 (by decide +kernel), fun m l h => ?_⟩, fun m h => ?_⟩
  · rw [idle]; revert h; revert m; decide +kernel
  · replace h := (idle _ _ _).1 h; obtain ⟨l, h⟩ := h; revert h; revert l; revert m; decide +kernel
  · rw [idle]; revert h; revert m; decide +kernel
  · replace h := (idle _ _ _).1 h; obtain ⟨l, h⟩ := h; revert h; revert l; revert m; decide +kernel
  · replace h := ((idle _ _ _).1 h).2; revert h; revert l; revert m; decide +kernel
  · replace h := (idle _ _ _).1 h; obtain ⟨l, h⟩ := h; revert h; revert l; revert m; decide +kernel

theorem witness_ReceiverReadsTheFrameSent : 63 < 64 ∧ 255 < 256 ∧ (List.replicate 48 (255 : Byte)).length ≤ 48 := by decide

theorem witness_PeersReadTheCoordinationFrames :
    (∀ c, ((⟨none, some ⟨.pass, none, none, 0, 0⟩⟩ : PerChan (Option OutcomeRecord)).get c).isSome = (⟨false, true⟩ : Mask).has c) ∧
    (∀ v, some (2 ^ 32 - 1) = some v → v < 2 ^ 32) ∧ 65535 < 65536 ∧ (⟨false, true⟩ : Mask).code ≠ 0 ∧ [1, 60] ≠ [] ∧
    (∀ k ∈ [1, 60], 1 ≤ k ∧ k ≤ 60) ∧ 2 ^ 32 - 1 < 2 ^ 32 ∧ 255 < 256 :=
  ⟨both rfl rfl, by simp, by decide⟩

/-- A line in each of the ways that LineShown tells apart: still, gone dominant, back recessive, released, with a 1 ms just over when it
went dominant and one not over by 1 µs. -/
def shownLine (s : State) : Bool :=
  let quiet (n : Nat) : State := s.mapBli fun b => { b with quiet := n, afterStuck := true }
  !s.bli.low && (s.mapBli fun b => { b with low := true }).bli.low && decide (guardTime + 400 ≤ (quiet 1400).bli.quiet) &&
    decide ((quiet 1399).bli.quiet < guardTime + 400)

/-- Address 12 behind station 0 waits 40 + 8 × 11 bit times of 8 µs: one µs short of that, and just that, on a still line and after another
frame; at 500 kbit/s the 1 ms after a stuck line; and each frame at the head of its part. -/
theorem witness_AttemptWaitsItsTurnAndTakesCoordinationFirst :
    let q (n : Nat) : State := ready.mapBli fun b => { b with quiet := n }
    let coord (f : CoordFrame) : State := ((q 1024).mapBli fun b => { b with coord := [f] }).mapRsq fun r => { r with
      roster := r.roster.set 0 ⟨.enrolled, some 1, none, 0⟩ }
    let gone := ((coord (.lapse 7 1)).mapRsq fun r => { r with roster := List.replicate 60 RosterEntry.reset }).relamp
    let report (f : ReportFrame) : State := (q 1024).mapBli fun b => { b with report := [f] }
    let went (n : Nat) : State := ready.see [⟨true, 3000⟩, ⟨false, n⟩]
    let fast (n : Nat) : State := ((q n).mapSys fun y => { y with rate := .r500 }).mapBli fun b => { b with afterStuck := true }
    let frames : List CoordFrame := [.enrol 7, .done 7 1 ⟨true, false⟩ (some 5) ⟨some ⟨.pass, none, none, 0, 0⟩, none⟩, .lapse 7 1,
      .withdraw 7 1 .outOfStep, .void 7 60 99 99]
    let reports : List ReportFrame := [.hello 1 32 0 5, .result 0 [], .status, .record [255, 0], .storeSum 7 1]
    let clear (s : State) : Prop := s.alive = true ∧ s.sys.address ≤ 60 ∧ s.bli.attempt = none ∧ s.bli.stage.inFrame = false ∧
      s.bli.stuck = false
    let turn (s : State) : Nat := (40 + 8 * ((s.sys.address + 64 - s.bli.w.toNat + 63) % 64)) *
      (if s.sys.rate = .r125 then 8 else if s.sys.rate = .r250 then 4 else 2)
    let waited (s : State) : Prop := s.bli.low = false ∧ turn s ≤ s.bli.quiet ∧ (s.bli.afterStuck = true → 1000 ≤ s.bli.quiet)
    let behind (s : State) (x : Nat) : Prop := (rosterAt s.rsq.roster x).status = .enrolled ∧
      (rosterAt s.rsq.roster x).reached 1 = false
    Fit ([q 1023, fast 999, fast 1000, gone] ++ frames.map coord ++ reports.map report) ∧
    (shownLine ready = true ∧ clear (q 1023) ∧ ¬ waited (q 1023) ∧ ¬ clear { ready with bli := { ready.bli with stuck := true } } ∧
      clear (fast 1000) ∧ ¬ waited (fast 999) ∧ waited (fast 1000) ∧ clear ready ∧ ¬ waited (went 1023) ∧ waited (went 1024) ∧
      ready.bli.coord = [] ∧ ready.bli.report = []) ∧
    (∀ f ∈ frames, clear (coord f) ∧ waited ((coord f).see []) ∧ (coord f).bli.coord = [f]) ∧
    (behind (coord (.lapse 7 1)) 60 ∧ ¬ behind (coord (.lapse 7 1)) 1 ∧ ((List.range 64).all fun x => !decide (behind gone x)) = true ∧
      clear gone ∧ waited gone ∧ gone.bli.waiting = []) ∧
    ∀ f ∈ reports, clear (report f) ∧ waited (report f) ∧ (report f).bli.coord = [] ∧ (report f).bli.report = [f] :=
  ⟨fit (by decide +kernel), by decide +kernel, by decide +kernel, by decide +kernel, by decide +kernel⟩

/-- A station in SEALING with a claim in a state, an attempt number and a serial. -/
def sealing (st : ClaimState) (serial : Option Nat) (attempts : Nat) : State :=
  (station .sealing).mapSeu fun u => { u with claim := ⟨st, serial, false, attempts, none, some 0⟩ }

/-- The same at the first attempt, with the run's verdict PASS. -/
def claiming (st : ClaimState) : State :=
  ((sealing st none 1).mapRsq fun q => { q with verdict := some .pass }).relamp

/-- The last serial of the block, and none left; a confirmation while a mark is in flight and seven requests wait, and with the store idle,
the reserved slot erased or not. -/
theorem witness_OwnClaimIsFormedAndConfirmed :
    let c (h : Nat) : State := (((sealing .claimWait none 1).mapSeu fun u => { u with watermark := h }).mapBli fun b =>
      { b with coord := [.claim 7], quiet := 1024 }).mapRsq fun q => { q with verdict := some .pass }
    let base (s : State) : Prop := (s.see []).mayStart = true ∧ s.bli.coord = .claim 7 :: [] ∧ s.rsq.run = some 7 ∧
      s.seu.claim.state = .claimWait ∧ s.seu.block = some (100, 199)
    let i := sealing .claimOpen (some 100) 1
    let used := i.mapRst fun r => { r with slots := r.slots.set 0 ⟨List.replicate 30 1, true, false, false, false, true⟩ }
    let o := (storing i (.mark 3 .exported false)).mapRst fun r => { r with waiting := List.replicate 7 (.mark 4 .exported false) }
    let opened (s : State) : Prop := s.seu.claim.state = .claimOpen ∧ s.seu.claim.slot = some 0 ∧ s.seu.claim.serial = some 100 ∧
      s.rst.waiting.length < 8
    let blank (s : State) : Prop := (s.slot 0).isEmpty = true ∧ ∀ x ∈ (s.slot 0).cells, x = 0
    base (c 198) ∧ (c 198).seu.watermark + 1 ≤ 199 ∧ base (c 199) ∧ 199 < (c 199).seu.watermark + 1 ∧
    (c 199).rsq.runState = .sealing ∧
    ((c 199).seu.claim.slot = some 0 ∧ (c 199).rsq.verdict = some .pass) ∧ opened o ∧ o.rst.op ≠ none ∧
    (opened i ∧ i.rst.op = none ∧ i.rst.waiting = [] ∧ blank i) ∧ opened used ∧ used.rst.op = none ∧ used.rst.waiting = [] ∧
      ¬ blank used := by decide +kernel

/-- A gate entry of no error. -/
def gateEntry : GateEntry := ⟨.a, 1, 1, none, false, false, false, 0, 0⟩

/-- A point entry on both channels. -/
def pointEntry : PointEntry :=
  let r : Option OutcomeRecord := some ⟨.pass, none, none, 0, 0⟩
  ⟨1, 0, .pass, ⟨true, true⟩, none, .unchecked, ⟨r, r⟩⟩

/-- The own frame on the line, with its list and serial. -/
def onLine (part : TxPart) (list : List Nat) (serial : Nat) : Attempt := ⟨part, [0xFF, 0x80], list, serial, false, 0, 500⟩

/-- A station whose own send is in progress, and the frames it holds. -/
def sending (s : State) (a : Attempt) (coord : List CoordFrame) : State :=
  s.mapBli fun b => { b with attempt := some a, coord := coord }

/-- A WITHDRAW and a SEAL VOID, alone and before a full part with frames kept for it; a claim that waits, and one whose run a RUN OPEN has
ended; an ENROL sent in the window and after it; a LAPSE whose list names the last peer. -/
theorem witness_SentFrameLeavesItsPart :
    let own := onLine .coordination [1, 60]
    let w := sending ready (own 0) [.withdraw 7 1 .outOfStep]
    let v := (sending ready (own 0) (.void 7 1 99 99 :: List.replicate 5 (.claim 6))).mapBli fun b => { b with
      waiting := [.lapse 7 1, .claim 7] }
    let c := sending (sealing .claimWait none 1) (own 100) [.claim 7]
    let past := sending (station .enrolling) (own 150) [.claim 6]
    let e := sending ((station .enrolling).mapRsq fun q => { q with enrolWindow := some 1 }) (own 0) [.enrol 7]
    let late := e.mapRsq fun q => { q with enrolWindow := none }
    let l := sending ((station .barrier).mapRsq fun q => { q with roster := q.roster.set 11 ⟨.enrolled, some 1, none, 0⟩ }) (own 0)
      [.lapse 7 1]
    let r := (sending ready (onLine .reporting [] 0) []).mapBli fun b => { b with report := [.record [255, 0]] }
    let base (s : State) : Prop := s.bli.afterStuck = false ∧ s.bli.waiting = []
    Fit [w, v, c, past, e, late, l, r] ∧ (w.bli.attempt = some (own 0) ∧ base w ∧ w.bli.coord = .withdraw 7 1 .outOfStep :: []) ∧
    (v.bli.attempt = some (own 0) ∧ v.bli.afterStuck = false ∧ v.bli.coord = .void 7 1 99 99 :: List.replicate 5 (.claim 6) ∧
      v.bli.waiting.length = 2) ∧
    (base c ∧ c.bli.coord = .claim 7 :: [] ∧ c.rsq.run = some 7 ∧ c.seu.claim.state = .claimWait ∧
      (own 100).serial = c.seu.watermark + 1) ∧
    (base past ∧ past.bli.coord = .claim 6 :: [] ∧ past.rsq.run ≠ some 6) ∧
    (base e ∧ e.bli.coord = .enrol 7 :: [] ∧ e.rsq.run = some 7 ∧ e.rsq.runState = .enrolling ∧ e.rsq.enrolWindow ≠ none) ∧
    (late.rsq.enrolWindow = none ∧ (late.descriptor late.plt.head).judge late.plt.cyclic = none) ∧
    (base l ∧ l.bli.coord = .lapse 7 l.rsq.seq :: [] ∧ l.rsq.run = some 7 ∧ l.rsq.runState = .barrier ∧
      l.sys.address ∉ (own 0).list ∧ l.ownEntry.reached l.rsq.seq = true ∧ 60 ∈ (own 0).list) ∧
    r.bli.attempt = some (onLine .reporting [] 0) ∧ base r ∧ r.bli.report = .record [255, 0] :: [] ∧ r.rrp.statusDue = false ∧
      r.rrp.queue = [] ∧ r.bli.buffer = [] := ⟨fit (by decide +kernel), by decide +kernel⟩

/-- The own frame of the reporting part on the line, with those behind it, the entries in the queue, and a STATUS due or not. -/
def reporting (rest : List ReportFrame) (queue : List Entry) (due : Bool) : State :=
  ((sending ready (onLine .reporting [] 0) []).mapBli fun b => { b with report := .record [255, 0] :: rest }).mapRrp fun r =>
    { r with queue := queue, statusDue := due, drops := 3 }

/-- Behind a frame of the reporting part: nothing that calls for a RESULT, with a STATUS due and without; a point entry, and as many gate
entries as Tq, which call for one, but not while a RESULT waits, the part is full or the block is held; a part that was full with requests
waiting, a STATUS due and not, where the first request fills the part again, is refused, or finds its STATUS waiting. -/
theorem witness_SentFrameLeavesItsPart_reporting :
    let gates (n : Nat) : List Entry := List.replicate n (.gate gateEntry)
    let called (s : State) (rest : List ReportFrame) : Bool :=
      !s.rrp.queue.isEmpty && (decide (s.rrp.tq ≤ s.rrp.queue.length) || s.rrp.queue.any Entry.isPoint || s.rrp.call) &&
        !rest.any isResult && decide (rest.length < 4) && !s.sys.holds.reporting
    let base (s : State) (rest : List ReportFrame) : Prop := s.bli.attempt = some (onLine .reporting [] 0) ∧ s.bli.afterStuck = false ∧
      s.bli.report = .record [255, 0] :: rest ∧ s.rsq.runState ≠ .clashed ∧ s.takesFrames = true
    let full : List ReportFrame := List.replicate 3 .status
    let q (k n : Byte) : RxFrame := ⟨0, BitVec.ofNat 8 k.toNat, 12, if k = 10 then [] else [n]⟩
    let requests (due : Bool) (l : List RxFrame) : State := (reporting full [] due).mapBli fun b => { b with buffer := l }
    let answer (c : Instr) (s : State) : Nat := (nextOf (exec c (s.mapBli fun b => { b with
      report := full, buffer := [], attempt := none })) s).bli.report.length
    Fit ([reporting [] (gates 3) true, reporting [] (gates 4) false, reporting [] [.point pointEntry] true, reporting full [] true] ++
      [false, true].map fun due => requests due [q 10 0, q 11 255, q 14 32]) ∧
    (base (reporting [] (gates 3) true) [] ∧ called (reporting [] (gates 3) true) [.status] = false) ∧
    (called (reporting [] (gates 4) false) [] = true ∧ called (reporting [] [.point pointEntry] true) [.status] = true) ∧
    (called (reporting [] (gates 4) false) [.result 0 []] = false ∧ called (reporting full (gates 4) true) (full ++ [.status]) = false) ∧
    (base (requests true [q 10 0]) full ∧ (requests true [q 10 0]).rrp.statusDue = true ∧ (requests true [q 10 0]).bli.buffer ≠ []) ∧
    (base (requests false [q 11 255]) full ∧ (requests false [q 11 255]).rrp.statusDue = false ∧
      answer (.recordAsk 255) (requests false [q 11 255]) = 4 ∧ answer .statusAsk (requests false [q 10 0]) = 3 ∧
      answer (.storeSumAsk 32) (storing (requests false [q 14 32]) (.wipe 0)) = 3) :=
  ⟨fit (by decide +kernel), by decide +kernel, by decide +kernel, by decide +kernel, by decide +kernel, by decide +kernel⟩

/-- Section 8.6, the line released: the RESULT behind the one that leaves carries the three losses and G2 to G5. With a STATUS due it stands
behind that; a waiting request is answered first, and the RESULT is not formed while its answer fills the part. -/
theorem test_result_behind_a_sent_frame :
    let g (n : Nat) : Entry := .gate { gateEntry with gate := n }
    let queue : List Entry := (List.range' 2 15).map g ++ [.point pointEntry]
    let result : ReportFrame := .result 3 [g 2, g 3, g 4, g 5]
    let after (s : State) : List ReportFrame × Nat × Nat :=
      let t := nextOf (exec .frameSent s) State.reset
      (t.bli.report, t.rrp.queue.length, t.rrp.drops)
    let asking := (reporting (List.replicate 3 (.record [255, 0])) queue false).mapBli fun b => { b with buffer := [⟨0, 10, 12, []⟩] }
    after (reporting [] queue false) = ([result], 12, 0) ∧ after (reporting [] queue true) = ([.status, result], 12, 0) ∧
    after asking = (List.replicate 3 (.record [255, 0]) ++ [.status], 16, 3) := by decide +kernel

/-- R98, R108: a place of a full part goes to the first frame kept for it. -/
theorem test_kept_frame_takes_the_place :
    let s := (sending ready (onLine .coordination [] 0) (.void 7 1 99 99 :: List.replicate 5 (.claim 6))).mapBli fun b => { b with
      waiting := [.lapse 7 1, .claim 7] }
    let t := nextOf (exec .frameSent s) State.reset
    t.bli.coord = List.replicate 5 (.claim 6) ++ [.lapse 7 1] ∧ t.bli.waiting = [.claim 7] := by decide +kernel

/-- The second DONE of a run: one peer still behind, and none; then a step to the next descriptor, one that is EMPTY, the tail, the last
descriptor of a run and of a loop, and the last sequence number. -/
theorem witness_OwnDoneSentStartsOrClosesTheBarrier :
    let f : PointFields := ⟨⟨true, false⟩, 2, 3, 500, 100, ⟨some ⟨0, 1⟩, none⟩⟩
    let d (n : Nat) : CoordFrame := .done 7 n ⟨true, false⟩ none ⟨none, none⟩
    let own := onLine .coordination [] 0
    let behind := sending ((station .barrier).mapRsq fun q => { q with roster := q.roster.set 11 ⟨.enrolled, some 0, some 5, 0⟩ }) own [d 1]
    let reached (n : Nat) : State := (behind.mapRsq fun q => { q with
      seq := n, roster := (q.roster.set 0 ⟨.enrolled, some n, none, 0⟩).set 59 ⟨.enrolled, some n, none, 0⟩ }).mapBli fun b =>
        { b with coord := [d n] }
    let planned (next tail : Nat) (last cyclic : Bool) : State := (reached 1).mapPlt fun p => { p with
      plan := p.plan.set 0 { accuracyPoint with next := next, last := last }, tail := tail, cyclic := cyclic, loops := 2 }
    let base (n : Nat) (s : State) : Prop := s.bli.attempt = some own ∧ s.bli.coord = d n :: [] ∧
      s.rsq.run = some 7 ∧ s.rsq.seq = n ∧ s.rsq.runState = .barrier ∧ 1 ≤ s.sys.address ∧ s.sys.address ≤ 60 ∧
      s.ownEntry.reached s.rsq.seq = false ∧ s.ownEntry.status = .enrolled ∧ s.current.point = some f
    let there (s : State) : Prop := ((List.range 64).all fun x => x == s.sys.address || (rosterAt s.rsq.roster x).status != .enrolled ||
      (rosterAt s.rsq.roster x).reached s.rsq.seq) = true
    let states := [planned 1 47 false false, planned 5 47 false false, planned 1 0 false false, planned 1 1 true false, planned 1 1 true true]
    Fit ([behind, reached 65535] ++ states) ∧ (base 1 behind ∧ (rosterAt behind.rsq.roster 60).status = .enrolled ∧
      (rosterAt behind.rsq.roster 60).reached behind.rsq.seq = false) ∧
    (∀ s ∈ states, base 1 s ∧ there s ∧ s.rsq.desc < 48) ∧ (base 65535 (reached 65535) ∧ there (reached 65535)) ∧
    ((planned 1 47 false false).descriptor 1).judge false = none ∧ ((planned 5 47 false false).descriptor 5).judge false = some .empty ∧
    (planned 1 0 false false).rsq.desc = (planned 1 0 false false).plt.tail ∧ (planned 1 1 true true).plt.loop + 1 ≠ 2 :=
  ⟨fit (by decide +kernel), by decide +kernel, by decide +kernel, by decide +kernel, by decide +kernel⟩

/-- A point of BARRIER closes at a LOAD READY: the descriptor and its kind, channel B beside A, the records, the figures of the station and
of two peers, and the tally before it. -/
def closing (d : Nat) (kind : Kind) (a b : OutcomeRecord) (own peers : Option Nat) (t : Tally) : State :=
  let both : Mask := ⟨true, true⟩
  let f : Option PointFields := accuracyPoint.point.map fun f => { f with mask := both }
  (((station .barrier).mapPlt fun p => { p with plan := p.plan.set d { accuracyPoint with kind := kind, point := f } }).mapEcu fun e =>
    { e with outcomes := ⟨some a, some b⟩, copy := { e.copy with tolerance := 300, mask := both } }).mapRsq fun q => { q with
      desc := d, received := ⟨some a, some b⟩, figure := own, tally := t
      roster := (q.roster.set 0 ⟨.enrolled, some 1, peers, 0⟩).set 59 ⟨.enrolled, some 1, peers, 0⟩ }

/-- Section 4.7, the tally of a short run: each point closed over the tally of the one before. -/
theorem test_tally_of_a_short_run :
    let r (o : ChanOutcome) (mean : Int) : OutcomeRecord := ⟨o, some mean, some 18, 3, 1⟩
    let n (o : ChanOutcome) : OutcomeRecord := ⟨o, none, none, 0, 0⟩
    let after (s : State) : Tally := (nextOf (exec (.loadReady 7 2 1) s) State.reset).rsq.tally
    let t0 : Tally := ⟨1, 1, 0, 0, 0, some ⟨2, .a, 652⟩, none⟩
    let t1 : Tally := ⟨2, 1, 0, 1, 1, some ⟨2, .a, 652⟩, none⟩
    let t2 : Tally := ⟨3, 1, 1, 1, 1, some ⟨2, .a, 652⟩, some 9⟩
    let t3 : Tally := ⟨4, 1, 1, 2, 1, some ⟨2, .a, 652⟩, some 9⟩
    after (closing 2 .accuracy (r .pass 652) (r .pass (-408)) (some 50000) (some 50000) Tally.reset) = t0 ∧
    after (closing 3 .accuracy (r .pass 120) (r .failHigh 1240) (some 51000) (some 50000) t0) = t1 ∧
    after (closing 9 .creep (n .pass) (n .failCreep) (some 50000) (some 50000) t1) = t2 ∧
    after (closing 10 .start (n .pass) (n .invalidMains) (some 50000) (some 50000) t2) = t3 ∧
    after (closing 11 .accuracy (r .pass (-700)) (r .pass 655) none none t3) = ⟨5, 2, 1, 2, 1, some ⟨11, .a, -700⟩, some 9⟩ := by
  decide +kernel

/-- R49, R61, R133: the entry of the second of these points goes out, its outcomes turned by the DISAGREE and its means as they were, and
full counts stay full. -/
theorem test_point_entry_handed :
    let r (o : ChanOutcome) (mean : Int) : OutcomeRecord := ⟨o, some mean, some 18, 3, 1⟩
    let full : Tally := ⟨65535, 65535, 65535, 65535, 65535, none, none⟩
    let s := closing 3 .accuracy (r .pass 120) (r .failHigh 1240) (some 51000) (some 50000) full
    let t := nextOf (exec (.loadReady 7 2 1) s) State.reset
    t.bli.report = [.result 0 [.point ⟨1, 3, .invalid, ⟨true, true⟩, some 51000, .disagree 50000 20000,
      ⟨some (r .invalidRefDisagree 120), some (r .invalidRefDisagree 1240)⟩⟩]] ∧ t.rsq.tally = full := by decide +kernel

/-- A tally with none of its optional items and with full counts; a record of the PASS class with a mean, one of the INVALID class and none,
beside no worst point, one of the same magnitude and a smaller one; a deviation that disagrees, and one that does not. -/
theorem witness_TallyGains :
    let takes (w : Option Worst) (r : Option OutcomeRecord) (m : Int) : Prop := (∃ x, r = some x ∧ x.outcome.isInvalid = false ∧
      x.mean = some m) ∧ (w.all fun old => old.mean.natAbs < m.natAbs) = true
    let x (o : ChanOutcome) (m : Int) : Option OutcomeRecord := some ⟨o, some m, none, 1, 0⟩
    (takes none (x .pass 0) 0 ∧ takes (some ⟨2, .a, 652⟩) (x .failLow (-653)) (-653) ∧
      ¬ takes (some ⟨2, .a, 652⟩) (x .pass (-652)) (-652)) ∧
    (¬ takes none (x .invalidHeld 5) 5 ∧ ¬ takes none none 5) ∧
    (∀ m d, Deviation.unchecked ≠ .disagree m d) ∧ Tally.reset.firstFail = none ∧ (Kind.creep ≠ .accuracy) :=
  ⟨by simp [ChanOutcome.isInvalid], by simp [ChanOutcome.isInvalid], nofun, rfl, nofun⟩

/-- A frame on the line, a line low for 20,001 and for 20,000 µs, and a stuck line. -/
theorem witness_LineTroubleIsCounted :
    let s := (sending ready (onLine .coordination [] 0) [.enrol 7]).mapBli fun b => { b with lost := 65535 }
    let low (n : Word) : State := ready.mapTime fun t => { t with counter := n }
    let stuck := ready.mapBli fun b => { b with stuck := true }
    let time (n : Word) : Nat := ((s.mapTime fun t => { t with counter := n }).time.counter - (onLine .coordination [] 0).begun).toNat
    Fit [s, low 20000, low 20001, stuck] ∧ s.bli.attempt = some (onLine .coordination [] 0) ∧
    (time 7 < 8 ∧ 1 * 8 ≤ time 8 ∧ time 15 < 2 * 8 ∧ 11 * 8 ≤ time 95 ∧ time 95 < 12 * 8) ∧
    (lineBits (onLine .coordination [] 0).bytes = List.replicate 11 true ++ true :: (false :: (lineBits [0xFF, 0x80]).drop 13) ∧
      11 * 8 + 8 ≤ time 104 ∧ ∀ d ∈ (false :: (lineBits [0xFF, 0x80]).drop 13).take (time 104 / 8 - 11 - 1), d = false) ∧
    (onLine .coordination [] 0).withdrawn = false ∧
    (low 20000).alive = true ∧ (low 20000).bli.stuck = false ∧ ((low 20000).time.counter - 0).toNat ≤ 20000 ∧
    20000 < ((low 20001).time.counter - 0).toNat ∧ stuck.alive = true ∧ stuck.bli.stuck = true :=
  ⟨fit (by decide +kernel), by decide +kernel⟩

/-- With the event's mask bit clear and set. -/
theorem witness_ReceptionErrorIsCounted : ready.takesFrames = true ∧
    (∃ e, Instr.frameReceiveError ⟨.framing, []⟩ = .frameReceiveError ⟨e, []⟩) ∧
    (∃ bytes present e, Instr.frameReceived ⟨[], [], true⟩ = .frameReceived ⟨bytes, [], present⟩ ∧ receiveFrame bytes = .error e) ∧
    shownLine ready = true ∧ ready.rrp.mask.getLsbD 0 = false ∧ ready.rrp.flags.getLsbD 0 = false ∧ ready.bli.report = [] ∧
    ready.rsq.runState ≠ .clashed ∧ (ready.mapRrp fun r => { r with mask := 1 }).rrp.mask.getLsbD 0 = true :=
  ⟨by decide +kernel, ⟨_, rfl⟩, ⟨[], true, .shortFrame, rfl, by decide +kernel⟩, by decide +kernel, by decide +kernel⟩

/-- A reporting part with a number of frames, and a receive buffer with a number of requests. -/
def parts (reports requests : Nat) : State := ready.mapBli fun b =>
  { b with report := List.replicate reports (.record [255, 0]), buffer := List.replicate requests ⟨0, 11, 12, [255]⟩ }

/-- Frames for another station, of a kind that no station reads, of an unknown kind, of a sender that may not send the kind, of a form that
fits and one that does not; the controller's and a peer's; a RESTART; a full reporting part, with room for one more request and with none;
and the 1 ms after a stuck line. -/
theorem witness_AcceptedFrameEntersTheBuffer :
    let base (s : State) : Prop := s.takesFrames = true ∧ 1 ≤ s.sys.address ∧ s.sys.address ≤ 60
    let after := ready.mapBli fun b => { b with afterStuck := true, quiet := 999 }
    let sent (sender kind : Nat) : Prop := (sender = 0 ∧ 1 ≤ kind ∧ kind ≤ 15) ∨ (1 ≤ sender ∧ sender ≤ 60 ∧ 32 ≤ kind ∧ kind ≤ 42)
    let read (kind : Nat) : Prop := ¬ (kind = 32 ∨ 39 ≤ kind)
    Fit [ready, after, parts 4 3, parts 4 4] ∧ (base ready ∧ base after ∧ base (parts 4 3) ∧ base (parts 4 4)) ∧
    (11 ≠ ready.sys.address ∧ 11 ≠ 63 ∧ 12 = ready.sys.address) ∧
    (sent 60 32 ∧ sent 1 42 ∧ ¬ read 32 ∧ ¬ read 42) ∧ (¬ sent 0 16 ∧ ¬ sent 0 33 ∧ ¬ sent 5 1 ∧ ¬ sent 61 33 ∧ ¬ sent 1 43) ∧
    (sent 0 14 ∧ formFits 14 [] = false ∧ sent 0 15 ∧ read 15 ∧ formFits 15 [] = true) ∧
    (sent 0 1 ∧ formFits 1 (List.replicate 48 0) = true ∧ sent 60 33 ∧ read 33 ∧ formFits 33 [7, 0] = true ∧
      sent 1 38 ∧ read 38 ∧ formFits 38 (List.replicate 11 1) = true) ∧
    (sent 0 10 ∧ formFits 10 [] = true ∧ (parts 4 3).bli.buffer.length < 4 ∧ (parts 4 3).bli.report.length = 4) ∧
    (parts 4 4).bli.buffer.length = 4 :=
  ⟨fit (by decide +kernel), by decide +kernel, by decide +kernel, by decide +kernel, by decide +kernel, by decide +kernel,
    by decide +kernel, by decide +kernel⟩

/-- R102, written out: a LOAD READY, a RUN OPEN and the four requests that name a slot or a count, at the ends of their ranges. -/
theorem witness_controllerFrame :
    let f : RunOpenFields := ⟨0x0102, 3, 4, 5, 6, 0x0708090A, 0x0B0C0D0E, 15, 16, 17, 18, 19, 20, 21, 22, 23, 24⟩
    (Instr.loadReady 7 0x0102 3).controllerFrame = some (5, [7, 0, 2, 1, 3]) ∧
    (Instr.runOpen f true).controllerFrame = some (4, [2, 1, 3, 4, 5, 6, 0x0A, 9, 8, 7, 0x0E, 0x0D, 0x0C, 0x0B, 15, 16, 17, 18, 19, 20, 21,
      22, 23, 24]) ∧
    (∀ c ∈ [Instr.loadReady 7 1 0, .runOpen f true, .planTail 7 47, .recordAsk 31, .recordAsk 255, .recordMark 31 5, .storeSumAsk 32],
      c.wf = true) ∧ (∀ g level, Instr.runOpen f true = .runOpen g level → level = true) :=
  ⟨by decide +kernel, by decide +kernel, by decide +kernel, fun _ _ h => by cases h; rfl⟩

/-- A station that takes INCOMPLETE, and one that does not; in SEALING a reservation that waits, a claim that waits, its verdict PASS, and a
stroke. What becomes of a record handed over is met by witness_HandsOver. -/
theorem witness_OwnAddressHeardClashes :
    let base (s : State) : Prop := s.takesFrames = true ∧ 1 ≤ s.sys.address ∧ s.sys.address ≤ 60 ∧ s.rsq.runState ≠ .clashed
    let c := claiming .claimWait
    base (station .measuring) ∧ (station .measuring).unsettled = true ∧ base ready ∧ ready.unsettled = false ∧ 63 < 64 ∧
    255 < 256 ∧ (base (reserving 198) ∧ (reserving 198).seu.claim.state = .none ∧ (reserving 198).rst.reserveAsked = true) ∧
    (base c ∧ c.rsq.runState = .sealing ∧ c.seu.claim.state = .claimWait ∧ c.rsq.run = some 7 ∧ c.seu.claim.slot = some 0 ∧
        c.rsq.verdict = some .pass) ∧
    (base (claiming .stroke) ∧ (claiming .stroke).rsq.runState = .sealing ∧ (claiming .stroke).seu.claim.state = .stroke) := by
  decide +kernel

/-- R147, R157, R167: at the own address heard, the record of a run without a verdict goes to the blank slot 0, the one of a sealing to its
reserved slot 0, and a stroke hands none over. -/
theorem test_clash_hands_the_record :
    let after (s : State) : Option (Nat × WriteJob) :=
      (nextOf (exec (.frameReceived ⟨frameBytes 12 33 63 [7, 0], [], true⟩) s) State.reset).rst.write
    let record (v : MeterVerdict) (o : Option SealOutcome) : RunRecord := ⟨7, 12, v, o, none, Tally.reset⟩
    after (station .measuring) = some (0, ⟨record .incomplete none, false, none⟩) ∧
    after (claiming .claimWait) = some (0, ⟨record .pass (some .aborted), false, some 0⟩) ∧ after (claiming .stroke) = none := by
  decide +kernel

theorem witness_IllFormedCommandsAreStray : Fit [ready] ∧
    (∀ c ∈ [Instr.planTail 7 48, .recordAsk 254, .recordMark 32 1, .storeSumAsk 33, .enrol 61 7, .done 1 7 1 0 none, .lapse 1 7 1 1],
      (∀ x ∈ c.sender, x.toNat ≠ ready.sys.address) ∧ c.wf = false) ∧
    ready.takesFrames = true ∧ (Instr.enrol 12 7).sender = some 12 ∧ (12 : BitVec 6).toNat = ready.sys.address ∧
    ready.rsq.runState ≠ .clashed := ⟨fit (by decide +kernel), by decide +kernel⟩

/-- A PLAN PUT of kind NONE for an index. -/
def emptyPut (i : Byte) : List Byte := [i, 0, 3, 1]

theorem witness_PlanPutWritesOrIsRefused :
    let d : Descriptor := ⟨.none, 3, true, false, none, none, none, none⟩
    let creep : List Byte := [0, 2, 1, 1, 1, 2, 0, 244, 1, 100, 0, 0, 1, 100, 0, 2]
    let w := station .waitLoad
    Fit [ready, w, station .settling] ∧ (ready.takesFrames = true ∧ w.takesFrames = true ∧ (station .settling).takesFrames = true) ∧
    readPlanPut (emptyPut 48) = none ∧ readPlanPut (emptyPut 47) = some (47, d) ∧ 47 ≠ ready.rsq.desc ∧
    readPlanPut (emptyPut 0) = some (0, d) ∧ d.judge false = some .empty ∧ w.rsq.desc = 0 ∧
    (readPlanPut creep).map (fun r => (r.1, r.2.judge false)) = some (0, none) := ⟨fit (by decide +kernel), by decide +kernel⟩

/-- Descriptors a PLAN PUT can carry: an accuracy point with every field at the end of its width, a creep point, and one of kind NONE. -/
theorem witness_Carried :
    let wide : Descriptor := ⟨.accuracy, 255, true, false, none, some ⟨⟨true, true⟩, 255, 255, 65535, 65535, ⟨some ⟨255, 255⟩, some ⟨0, 0⟩⟩⟩,
      some ⟨65535, 255, 255, -(2 ^ 31), 2 ^ 31 - 1, 2 ^ 32 - 1, ⟨some ⟨65535, 2 ^ 32 - 1⟩, some ⟨0, 0⟩⟩⟩, none⟩
    wide.Carried ∧ creepPoint.Carried ∧ Descriptor.reset.Carried ∧ (255 : Byte).getLsbD 0 = wide.last ∧
      (creepPoint.wire 2 1) = [2, 2, 0, 1, 1, 2, 0, 244, 1, 100, 0, 0, 1, 100, 0, 2] := by
  refine ⟨⟨by decide, by decide, ?_, ?_, nofun⟩, ⟨by decide, by decide, ?_, nofun, ?_⟩, ⟨by decide, by decide, nofun, nofun, nofun⟩, by decide,
    by decide +kernel⟩
  · rintro f ⟨⟩; exact ⟨by decide, by decide, by decide, by decide, by decide,
      both ⟨rfl, by rintro i ⟨⟩; decide⟩ ⟨rfl, by rintro i ⟨⟩; decide⟩⟩
  · rintro f a ⟨⟩ ⟨⟩; exact ⟨by decide, by decide, by decide, by decide, by decide, by decide, by decide, by decide,
      both ⟨rfl, by rintro i ⟨⟩; decide⟩ ⟨rfl, by rintro i ⟨⟩; decide⟩⟩
  · rintro f ⟨⟩; exact ⟨by decide, by decide, by decide, by decide, by decide,
      both ⟨rfl, by rintro i ⟨⟩; decide⟩ ⟨rfl, nofun⟩⟩
  · rintro f ⟨⟩; decide

/-- A tail of 47, of the current run and another, taken and not, reachable and not; PLAN CLEAR in a run, outside one, and in FAULTED. -/
theorem witness_PlanTailAndClear :
    let p := station .paused
    let f := station .faulted
    Fit [p, ready, f] ∧
    p.takesFrames = true ∧ (47 : Byte).toNat < 48 ∧ p.rsq.run ≠ some 8 ∧ ready.rsq.runState.takesTail = false ∧
    p.rsq.run = some 7 ∧ p.rsq.runState.takesTail = true ∧ p.rsq.runState = .paused ∧ p.reachable 47 = false ∧
    p.reachable 1 = true ∧ (p.descriptor p.current.next).judge p.plt.cyclic = none ∧ p.rsq.runState.refusesClear = true ∧
    ready.rsq.runState.refusesClear = false ∧ f.takesFrames = true ∧ f.rsq.runState.refusesClear = false :=
  ⟨fit (by decide +kernel), by decide +kernel⟩

/-- A RUN OPEN of run 8 with the whole plan, and every field at an edge. -/
def openFields : RunOpenFields := ⟨8, 0, 47, 2, 0, 1, 1, 0, 1, 0, 0, 0, 255, 255, 17, 0, 0⟩

/-- Malformed at each test, of the current run, in FAULTED and CLASHED; taken with and without a head, at a point, in ENROLLING, and in
SEALING while the reservation waits, before and after the claim is confirmed, and after an abort. -/
theorem witness_RunOpenSetsUpEveryBlock :
    let malformed (f : RunOpenFields) : Prop := f.s0 = 0 ∨ f.s1.toNat < f.s0.toNat ∨ 48 ≤ f.head.toNat ∨ 48 ≤ f.tail.toNat
    let of := openFields
    let waitsFor := sealing .claimWait none 1
    let strokes := sealing .stroke (some 100) 1
    let free := ready.mapPins fun p => { p with mpres := false }
    let asked := (station .sealing).mapRst fun r => { r with reserveAsked := true }
    let again := strokes.mapSeu fun u => { u with aborted := true }
    Fit [ready, free, station .measuring, station .enrolling, waitsFor, strokes, asked, again] ∧
    (asked.rsq.runState = .sealing ∧ asked.seu.aborted = false ∧ asked.seu.claim.state = .none ∧ asked.rst.reserveAsked = true ∧
      again.rsq.runState = .sealing ∧ again.seu.aborted = true) ∧
    (malformed { of with s0 := 0 } ∧ malformed { of with s0 := 2 } ∧ malformed { of with head := 48 } ∧ malformed { of with tail := 48 }) ∧
    (¬ malformed of ∧ ready.rsq.run = some ({ of with run := 7 }).run ∧ ready.rsq.run ≠ some of.run) ∧
    ((station .faulted).rsq.runState = .faulted ∧ (station .clashed).rsq.runState = .clashed) ∧
    ((station .measuring).rsq.runState.inPoints = true ∧ (station .enrolling).rsq.runState = .enrolling) ∧
    (waitsFor.rsq.runState = .sealing ∧ waitsFor.seu.aborted = false ∧ waitsFor.seu.claim.state = .claimWait ∧
      strokes.rsq.runState = .sealing ∧ strokes.seu.aborted = false ∧ strokes.seu.claim.state = .stroke) ∧
    (ready.rsq.runState.takesOpen = true ∧ ready.rrp.queue = [] ∧ 1 ≤ ready.sys.address ∧ ready.sys.address ≤ 60 ∧
      ready.bli.coord.length < 6 ∧ ready.bli.waiting = []) ∧
    ready.takesFrames = true ∧ (ready.descriptor of.head.toNat).kind ≠ .none ∧ (ready.descriptor 47).kind = .none :=
  ⟨fit (by decide +kernel), by decide +kernel⟩

theorem witness_EnrolWindowExpiryDecides :
    let s (sent : Bool) (head : Nat) : State := ((station .enrolling).mapRsq fun q => { q with
      enrolWindow := some 0, enrolSent := sent, seq := 0 }).mapPlt fun p => { p with head := head }
    let base (s : State) : Prop := s.rsq.enrolWindow = some 0 ∧ s.rsq.runState = .enrolling ∧ 1 ≤ s.sys.address ∧ s.sys.address ≤ 60
    let judged (s : State) : Option PlanCause := (s.descriptor s.plt.head).judge s.plt.cyclic
    Fit [s true 0, s true 47, s false 0] ∧ (base (s true 0) ∧ base (s true 47) ∧ base (s false 0)) ∧
    judged (s true 0) = none ∧ judged (s true 47) = some .empty ∧
    (s true 0).rsq.enrolSent = true ∧ (s true 47).rsq.enrolSent = true ∧ (s false 0).rsq.enrolSent = false ∧
    (s false 0).enrolOnLine = false := ⟨fit (by decide +kernel), by decide +kernel⟩

theorem witness_TimersExpire :
    let s := (station .barrier).mapRsq fun q => { q with barrier := .running 0 }
    Fit [s] ∧ s.rsq.barrier = .running 0 ∧ s.rsq.runState = .barrier ∧ s.bli.coord.length < 6 ∧ s.bli.waiting = [] ∧
      s.seu.lamps.flashTimer = some 500000 := ⟨fit (by decide +kernel), by decide +kernel⟩

/-- In WAIT_LOAD for 1: points 0, 1 and 2, and another descriptor; the point names RF0 for channel A, and nothing for B. In PAUSED on 0: the
next descriptor, that passes take-up or not, and another one for points 1, 2 and 3. -/
theorem witness_LoadReadyInWaitLoadAndPaused :
    let s := station .waitLoad
    let p := station .paused
    let e := p.mapPlt fun q => { q with plan := q.plan.set 1 Descriptor.reset }
    Fit [s, p, e] ∧ (s.takesFrames = true ∧ s.rsq.run = some 7 ∧ s.rsq.runState = .waitLoad) ∧
    (0 : Half).toNat < s.rsq.seq ∧ s.rsq.seq < (2 : Half).toNat ∧ (1 : Half).toNat = s.rsq.seq ∧ (1 : Byte).toNat ≠ s.rsq.desc ∧
    (0 : Byte).toNat = s.rsq.desc ∧ s.pfe.zc.present = true ∧
    s.current.point.map (fun f => (f.settle, f.inputs)) = some (2, ⟨some ⟨0, 1⟩, none⟩) ∧
    (p.takesFrames = true ∧ p.rsq.run = some 7 ∧ p.rsq.runState = .paused ∧ (2 : Byte).toNat ≠ p.current.next) ∧
    ((1 : Half).toNat ≤ p.rsq.seq ∧ (2 : Half).toNat = p.rsq.seq + 1 ∧ p.rsq.seq + 1 < (3 : Half).toNat) ∧
    ((1 : Byte).toNat = p.current.next ∧ (p.descriptor 1).judge p.plt.cyclic = none) ∧
    e.rsq.runState = .paused ∧ (1 : Byte).toNat = e.current.next ∧ (e.descriptor 1).judge e.plt.cyclic = some .empty :=
  ⟨fit (by decide +kernel), by decide +kernel⟩

/-- At a point, one up to it and one past it; in ENROLLING, before and after the own ENROL, with a head that passes take-up or not. -/
theorem witness_LoadReady_elsewhere :
    let s (sent : Bool) (head : Nat) : State := ((station .enrolling).mapRsq fun q => { q with
      enrolWindow := some 0, enrolSent := sent, seq := 0 }).mapPlt fun p => { p with head := head }
    let base (s : State) : Prop := s.takesFrames = true ∧ s.rsq.run = some 7
    Fit [station .settling, station .measuring, s true 0, s true 47, s false 0] ∧
    (base (station .settling) ∧ (station .settling).rsq.runState = .settling ∧ base (station .measuring) ∧
      (station .measuring).rsq.runState = .measuring ∧ (1 : Half).toNat ≤ (station .settling).rsq.seq ∧
      (station .measuring).rsq.seq < (2 : Half).toNat) ∧
    (base (s true 0) ∧ (s true 0).rsq.runState = .enrolling ∧ (s false 0).rsq.enrolSent = false ∧ (s true 0).rsq.enrolSent = true ∧
      ((s true 0).descriptor (s true 0).plt.head).judge (s true 0).plt.cyclic = none) ∧
    ((s true 47).descriptor (s true 47).plt.head).judge (s true 47).plt.cyclic = some .empty :=
  ⟨fit (by decide +kernel), by decide +kernel⟩

theorem witness_LoadReadyClosesTheBarrier :
    let s := station .barrier
    Fit [s] ∧ s.takesFrames = true ∧ s.rsq.run = some 7 ∧ s.rsq.runState = .barrier ∧
      (1 : Half).toNat ≤ s.rsq.seq ∧ s.rsq.seq + 1 < (3 : Half).toNat ∧ (2 : Half).toNat = s.rsq.seq + 1 ∧ (rosterAt s.rsq.roster 60).status = .enrolled := ⟨fit (by decide +kernel), by decide +kernel⟩

/-- A measuring, an enrolling and a finished station, and SEALING in each state of the claim, before a first abort and after it. -/
theorem witness_RunAbortGivesIncomplete :
    let base (s : State) : Prop := s.takesFrames = true ∧ s.rsq.run = some 7 ∧ s.bli.attempt = none ∧
      1 ≤ s.sys.address ∧ s.sys.address ≤ 60
    let measuring := gating (engine .open 1 0) MeterInput.reset
    let enrolling := station .enrolling
    let asked := (station .sealing).mapRst fun r => { r with reserveAsked := true }
    let written := sealing .recording (some 100) 1
    let again := written.mapSeu fun u => { u with aborted := true }
    let c := claiming .claimOpen
    let done := station .finished
    Fit [measuring, enrolling, asked, written, again, c, done] ∧
    (base measuring ∧ measuring.unsettled = true ∧ measuring.rsq.phase = .measuring ∧ measuring.seu.claim.state = .none ∧
      measuring.rst.reserveAsked = false) ∧
    (base enrolling ∧ enrolling.rsq.runState = .enrolling ∧ enrolling.rsq.enrolSent = false ∧ enrolling.seu.claim.state = .none ∧
      enrolling.rst.reserveAsked = false) ∧
    (base asked ∧ asked.rsq.runState = .sealing ∧ asked.seu.aborted = false ∧ asked.seu.claim.state = .none ∧
      asked.rst.reserveAsked = true) ∧
    (base written ∧ written.rsq.runState = .sealing ∧ written.seu.aborted = false ∧ written.seu.claim.state = .recording) ∧
    (base again ∧ again.rsq.runState = .sealing ∧ again.seu.aborted = true) ∧
    (base c ∧ c.rsq.runState = .sealing ∧ c.seu.aborted = false ∧ c.seu.claim.state = .claimOpen ∧ c.seu.claim.slot = some 0 ∧
      c.rsq.verdict = some .pass) ∧
    base done ∧ done.rsq.runState = .finished := ⟨fit (by decide +kernel), by decide +kernel⟩

/-- R121, R123, R126, R147, R157: what an abort, a close, a meter taken away, a LAPSE that names the station and an aborted claim hand over,
each to slot 0, which is blank or reserved. -/
theorem test_left_run_hands_its_record :
    let written (c : Instr) (s : State) : Option (Nat × WriteJob) := (nextOf (exec c s) State.reset).rst.write
    let incomplete : Option (Nat × WriteJob) := some (0, ⟨⟨7, 12, .incomplete, none, none, Tally.reset⟩, false, none⟩)
    ([.runAbort 7, .runClose 7, .mpresFall, .lapse 1 7 1 (1#64 <<< 12)].map fun c => written c (station .measuring)) =
      List.replicate 4 incomplete ∧
    written (.runAbort 7) (claiming .claimOpen) = some (0, ⟨⟨7, 12, .pass, some .aborted, none, Tally.reset⟩, false, some 0⟩) := by
  decide +kernel

theorem witness_RunCloseReturnsToIdle :
    let base (s : State) : Prop := s.takesFrames = true ∧ s.rsq.run = some 7
    let left := station .withdrawn
    let p := station .paused
    let e := station .enrolling
    let w := sealing .recording (some 100) 1
    Fit [left, p, e, w] ∧ (base left ∧ left.rsq.runState = .withdrawn) ∧ (base p ∧ p.rsq.runState.inPoints = true ∧ p.unsettled = true ∧
      p.seu.claim.state = .none ∧ p.rst.reserveAsked = false) ∧
    (base e ∧ e.rsq.runState = .enrolling) ∧ base w ∧ w.rsq.runState = .sealing ∧ w.seu.claim.state = .recording :=
  ⟨fit (by decide +kernel), by decide +kernel⟩

theorem witness_MeterRemovalWithdraws :
    let base (s : State) : Prop := s.alive = true ∧ s.rsq.run = some 7 ∧ 1 ≤ s.sys.address ∧ s.sys.address ≤ 60
    let p := station .paused
    let e := station .enrolling
    Fit [p, e, ready] ∧ (base p ∧ p.unsettled = true) ∧
    (base e ∧ e.rsq.runState = .enrolling ∧ e.rsq.enrolSent = false ∧ e.enrolOnLine = false) ∧
    base ready ∧ ready.rsq.runState.inPoints = false ∧ ready.rsq.runState ≠ .enrolling := ⟨fit (by decide +kernel), by decide +kernel⟩

/-- In BARRIER of point 1 with every entry but 60's there. -/
def lastBehind : State := (station .barrier).mapRsq fun q => { q with
  roster := (q.roster.set 0 ⟨.enrolled, some 1, none, 0⟩).set 11 ⟨.enrolled, some 1, none, 0⟩ }

theorem lastBehind_others : ∀ y, 1 ≤ y → y ≤ 60 → y ≠ (60 : BitVec 6).toNat → (rosterAt lastBehind.rsq.roster y).status = .enrolled →
    (rosterAt lastBehind.rsq.roster y).reached lastBehind.rsq.seq = true := everywhere (by decide +kernel)

/-- Peers 1 and 60: absent with and without a window, enrolled, and the last one the barrier waits for. -/
theorem witness_PeersJoinAndLeave :
    let base (s : State) : Prop := s.takesFrames = true ∧ s.rsq.run = some 7 ∧ s.rsq.runState.takesRoster = true
    let s := station .waitLoad
    let allowed := s.mapRsq fun q => { q with allowance := some 0 }
    let b := lastBehind
    Fit [s, allowed, b] ∧
    (∀ y, 1 ≤ y → y ≤ 60 → y ≠ (60 : BitVec 6).toNat → (rosterAt b.rsq.roster y).status = .enrolled →
      (rosterAt b.rsq.roster y).reached b.rsq.seq = true) ∧
    1 ≤ (1 : BitVec 6).toNat ∧ (60 : BitVec 6).toNat ≤ 60 ∧ (60 : BitVec 6).toNat ≠ s.sys.address ∧
    (base s ∧ base allowed ∧ base b) ∧
    (allowed.rsq.allowance ≠ none ∧ (rosterAt allowed.rsq.roster 2).status = .absent) ∧
    (s.rsq.enrolWindow = none ∧ s.rsq.allowance = none ∧ (rosterAt s.rsq.roster 60).status ≠ .absent ∧ s.rsq.runState ≠ .barrier) ∧
    b.rsq.runState = .barrier := ⟨fit (by decide +kernel), lastBehind_others, by decide +kernel⟩

/-- In WAIT_LOAD for 1: points 1 and 0; in BARRIER of 1: points 2 and 1, with and without another peer behind. -/
theorem witness_DoneShowsTheBenchAhead :
    let base (s : State) : Prop := s.takesFrames = true ∧ s.rsq.run = some 7 ∧ s.rsq.runState.takesRoster = true ∧
      (rosterAt s.rsq.roster 60).status = .enrolled
    let w := station .waitLoad
    let b := station .barrier
    let c := lastBehind
    Fit [w, b, c] ∧
    (∃ y, 1 ≤ y ∧ y ≤ 60 ∧ y ≠ (60 : BitVec 6).toNat ∧ (rosterAt b.rsq.roster y).status = .enrolled ∧
      (rosterAt b.rsq.roster y).reached b.rsq.seq = false) ∧
    (∀ y, 1 ≤ y → y ≤ 60 → y ≠ (60 : BitVec 6).toNat → (rosterAt c.rsq.roster y).status = .enrolled →
      (rosterAt c.rsq.roster y).reached c.rsq.seq = true) ∧
    (base w ∧ base b ∧ base c) ∧ (Mask.ofCode (3 : Byte).toNat).isSome = true ∧ (60 : BitVec 6).toNat ≠ w.sys.address ∧
    (w.rsq.runState = .waitLoad ∧ w.rsq.seq ≤ (1 : Half).toNat ∧ ¬ w.rsq.seq ≤ (0 : Half).toNat) ∧
    (b.rsq.runState = .barrier ∧ b.rsq.seq < (2 : Half).toNat ∧ ¬ b.rsq.seq < (1 : Half).toNat) ∧
    (rosterAt c.rsq.roster 60).reached (1 : Half).toNat = false ∧ (1 : Half).toNat = c.rsq.seq :=
  ⟨fit (by decide +kernel), ⟨1, by decide +kernel⟩, lastBehind_others, by decide +kernel⟩

/-- A later point, the point in progress and the point last closed, with a set that names the station and one that does not; in BARRIER the
own entry behind, and there. -/
theorem witness_LapseHeardDecidesTheBarrier :
    let base (s : State) : Prop := s.takesFrames = true ∧ s.rsq.run = some 7 ∧ 1 ≤ s.sys.address ∧ s.sys.address ≤ 60 ∧
      (1 : BitVec 6).toNat ≠ s.sys.address
    let m := station .measuring
    let w := station .waitLoad
    let b := station .barrier
    Fit [m, w, b, lastBehind] ∧ (base m ∧ m.rsq.runState = .measuring ∧ ¬ (2 : Half).toNat = m.rsq.seq ∧
      ¬ (2 : Half).toNat + 1 = m.rsq.seq ∧ (1 : Half).toNat = m.rsq.seq) ∧
    (base w ∧ w.rsq.runState = .waitLoad ∧ (0 : Half).toNat + 1 = w.rsq.seq) ∧
    (lapseSetOk (1#64 <<< 60) = true ∧ (1#64 <<< 60).getLsbD m.sys.address = false ∧
      lapseSetOk (1#64 <<< 12) = true ∧ (1#64 <<< 12).getLsbD m.sys.address = true) ∧
    (base b ∧ b.rsq.runState = .barrier ∧ b.ownEntry.status = .enrolled ∧ b.ownEntry.reached b.rsq.seq = false) ∧
    base lastBehind ∧ lastBehind.rsq.runState = .barrier ∧ lastBehind.ownEntry.reached lastBehind.rsq.seq = true :=
  ⟨fit (by decide +kernel), by decide +kernel⟩

theorem witness_EventClearClearsAndMasks : Fit [ready] ∧ ready.takesFrames = true := ⟨fit (by decide +kernel), by decide +kernel⟩

/-- The block held; a queue with room for one entry more, and full of gate entries, of point entries, and of both, with a RESULT waiting and
none; a delay timer that expires over an entry of the largest size and a gate entry behind it, over a RESULT that waits, and over nothing. -/
theorem witness_EntriesJoinTheQueueAndLeaveInResults :
    let q (l : List Entry) (r : List ReportFrame) : State := (ready.mapRrp fun r => { r with delay := some 0, queue := l }).mapBli fun b =>
      { b with report := r }
    let held := (q [] []).mapSys fun y => { y with holds := { y.holds with reporting := true } }
    let gates (n : Nat) : List Entry := List.replicate n (.gate gateEntry)
    let points (n : Nat) : List Entry := List.replicate n (.point pointEntry)
    let clear (s : State) : Prop := s.bli.report.any isResult = false ∧ s.bli.report.length < 4 ∧ s.rrp.statusDue = false
    let s := q [.point pointEntry, .gate gateEntry] []
    held.sys.holds.reporting = true ∧
    (∀ l ∈ [gates 2, gates 3, gates 16, points 16, points 15 ++ gates 1], ∀ r ∈ [[], [ReportFrame.result 0 []]],
      (q l r).sys.holds.reporting = false ∧ (q l r).rsq.runState ≠ .clashed ∧ (clear (q l r) ↔ r = [])) ∧
    ((q (gates 2) []).rrp.queue.length + 1 < ready.rrp.tq ∧ ready.rrp.tq ≤ (q (gates 3) []).rrp.queue.length + 1 ∧
      16 ≤ (q (gates 16) []).rrp.queue.length) ∧
    ((q (points 15 ++ gates 1) []).rrp.queue = points 15 ++ .gate gateEntry :: [] ∧ (∀ x ∈ points 15, x.isPoint = true) ∧
      ∀ x ∈ (q (points 16) []).rrp.queue, x.isPoint = true) ∧
    (s.rrp.delay = some 0 ∧ s.rrp.queue ≠ [] ∧ clear s ∧ ((s.rrp.queue.take 1).map Entry.size).sum ≤ 46 ∧
      46 < ((s.rrp.queue.take 2).map Entry.size).sum) ∧
    Fit [q (gates 1) [.result 0 []], q [] []] ∧ (q [] []).rrp.delay = some 0 :=
  ⟨by decide +kernel, by decide +kernel, by decide +kernel, by decide +kernel, by decide +kernel, fit (by decide +kernel), by decide +kernel⟩

/-- A station in STROKE with PRESS driven, the sensor seen inactive or not. -/
def stroking (seen : Bool) : State :=
  ((sealing .stroke (some 100) 1).mapSeu fun u => { u with press := true, strokeTimer := some 0, seenInactive := seen }).mapRst fun r =>
    { r with slots := r.slots.set 0 ⟨List.replicate 30 1, true, true, false, false, false⟩ }

/-- A station in STROKE whose slot carries PRESS_FAULT already. -/
def marked : State := (stroking true).mapSlot 0 fun c => { c with pressFault := true }

/-- R150, R156, R158: a press hold leads to FINISHED at once when the mark is there already or is lost among 8 requests, in CLASHED to the
outcome alone, and else the mark begins or waits. -/
theorem test_press_hold_mark :
    let after (s : State) : RunState × Option SealOutcome × Nat :=
      let t := nextOf (exec (.holdSet 8) s) s
      (t.rsq.runState, t.seu.outcome, t.rst.waiting.length)
    [marked, crowded (stroking true) 8, marked.enter .clashed, stroking true, crowded marked 7].map after =
      [(.finished, some .pressFault, 0), (.finished, some .pressFault, 8), (.clashed, some .pressFault, 0), (.sealing, none, 0),
        (.sealing, none, 8)] := by decide +kernel

/-- Channels A and B both in gate engines of a point on both, a dwell count, and the blocks held; a stroke with the store idle, with an
operation in flight and seven requests waiting, with the mark programmed already, in SEALING and in CLASHED, and with eight waiting; and a
press with no stroke to end. -/
theorem witness_HoldSetEndsWhatItHolds :
    let two : Descriptor := { accuracyPoint with point := accuracyPoint.point.map fun f => { f with mask := ⟨true, true⟩ } }
    let s := ((gating (engine .open 1 0) MeterInput.reset).mapEngine .b fun _ => engine .armed 0 0).mapPlt fun p =>
      { p with plan := p.plan.set 0 two }
    let d := dwelling .creep 0 0 MeterInput.reset
    let ends (s : State) : Prop := ∀ ch, s.live ch = true → s.mask.has ch = true ∧ s.rsq.received.get ch = none ∧
      (s.engine ch).state ≠ .doneCh
    let new : Holds := ⟨(15 : Byte).getLsbD 0, (15 : Byte).getLsbD 1, (15 : Byte).getLsbD 2, (15 : Byte).getLsbD 3⟩
    let y := stroking true
    let busy := crowded y 7
    let full := crowded y 8
    let stroke (s : State) : Prop := s.takesFrames = true ∧ s.sys.holds.press = false ∧ s.seu.claim.state = .stroke ∧
      s.seu.press = true ∧ s.rsq.phase ≠ .measuring ∧ ∀ ch ∈ [Channel.a, .b], s.live ch = false
    let isMarked (s : State) : Prop := s.rst.op = none ∧ s.rst.waiting = [] ∧ (s.slot s.sealSlot).pressFault = true
    ends s ∧ ends d ∧ (s.takesFrames = true ∧ d.takesFrames = true) ∧ (s.live .a = true ∧ s.live .b = true ∧ d.live .a = true) ∧
    new = ⟨true, true, true, true⟩ ∧ (s.sys.holds = ⟨false, false, false, false⟩ ∧ d.sys.holds = ⟨false, false, false, false⟩) ∧
    (stroke y ∧ y.rst.op = none ∧ y.rst.waiting = [] ∧ (y.slot y.sealSlot).pressFault = false) ∧
    (stroke busy ∧ busy.rst.op ≠ none ∧ busy.rst.waiting.length < 8 ∧ s.seu.press = false) ∧
    (stroke marked ∧ isMarked marked ∧ marked.rsq.runState = .sealing) ∧
    (stroke (marked.enter .clashed) ∧ isMarked (marked.enter .clashed) ∧ (marked.enter .clashed).rsq.runState ≠ .sealing) ∧
    (stroke full ∧ 8 ≤ full.rst.waiting.length ∧ full.rsq.runState = .sealing) :=
  ⟨both (by decide +kernel) (by decide +kernel), both (by decide +kernel) (by decide +kernel), by decide +kernel, by decide +kernel,
    by decide +kernel⟩

/-- The window settled, so that holds of both channels, or of A alone beside a B that has its record, end the point; not settled, or B alone
held, they do not. A in DONE_CH, in OFF and in each state of a dwell count. -/
theorem witness_HoldSet_channels :
    let two : Descriptor := { accuracyPoint with point := accuracyPoint.point.map fun f => { f with mask := ⟨true, true⟩ } }
    let s (a b : GateEngine) (w : WindowState) (got : Option OutcomeRecord) : State :=
      ((((gating a MeterInput.reset).mapEngine .b fun _ => b).mapPlt fun p => { p with plan := p.plan.set 0 two }).mapRsq fun q =>
        { q with window := { q.window with state := w }, received := ⟨none, got⟩ })
    let held (s : State) (h : Byte) (ch : Channel) : Prop :=
      (⟨h.getLsbD 0, h.getLsbD 1, h.getLsbD 2, h.getLsbD 3⟩ : Holds).chan ch = true ∧ s.sys.holds.chan ch = false
    let ended (s : State) (h : Byte) (ch : Channel) : Prop := held s h ch ∧ s.live ch = true
    let ends (s : State) (h : Byte) : Prop := s.rsq.phase = .measuring ∧ s.rsq.window.state.settled = true ∧
      (ended s h .a ∨ ended s h .b) ∧ (∀ ch ∈ [Channel.a, .b], s.mask.has ch = true → s.rsq.received.get ch ≠ none ∨ ended s h ch)
    let sound (s : State) : Prop := ∀ ch ∈ [Channel.a, .b], s.live ch = true → s.mask.has ch = true ∧ s.rsq.received.get ch = none ∧
      (s.engine ch).state ≠ .doneCh
    let r : OutcomeRecord := ⟨.pass, none, none, 0, 0⟩
    let both_ (w : WindowState) := s (engine .open 1 0) (engine .armed 0 0) w none
    let one := s (engine .open 1 0) { engine .doneCh 3 0 with ending := .timeout } .complete (some r)
    (sound (both_ .absent) ∧ ends (both_ .absent) 3 ∧ ¬ ends (both_ .absent) 2 ∧ ¬ held (both_ .absent) 2 .a) ∧
    (¬ ends (both_ .running) 3 ∧ held (both_ .running) 3 .b ∧ ((both_ .running).engine .a).runs = true) ∧
    (sound one ∧ ends one 1 ∧ ends one 3 ∧ ¬ ends one 2 ∧ held one 2 .b ∧ (one.engine .b).state = .doneCh) ∧
    (held ready 1 .a ∧ (ready.engine .a).state = .off ∧ (ready.dwell .a).state = .off) ∧
    (held (dwelling .creep 0 0 MeterInput.reset) 1 .a ∧ ((dwelling .creep 0 0 MeterInput.reset).dwell .a).state = .counting) :=
  ⟨by decide +kernel, by decide +kernel, by decide +kernel, by decide +kernel, by decide +kernel⟩

/-- A claim one above H, one at H, one that has been voided before, and one with no room for its void. -/
theorem witness_ClaimHeardRaisesOrIsVoided :
    let listed := ready.mapSeu fun u => { u with voids := [(1, 99)] }
    let full := ready.mapBli fun b => { b with coord := List.replicate 6 (.enrol 7) }
    Fit [ready] ∧ ready.takesFrames = true ∧ (1 : BitVec 6).toNat ≠ ready.sys.address ∧
    ready.rsq.run = some 7 ∧ ready.rsq.runState.takesSeal = true ∧ ready.seu.watermark < (100 : Word).toNat ∧
    (99 : Word).toNat ≤ ready.seu.watermark ∧ ((1 : BitVec 6).toNat, (99 : Word).toNat) ∈ listed.seu.voids ∧
    full.bli.coord.length = 6 ∧ ((1 : BitVec 6).toNat, (99 : Word).toNat) ∉ ready.seu.voids ∧ ready.bli.coord.length < 6 ∧
    ready.bli.waiting = [] := ⟨fit (by decide +kernel), by decide +kernel⟩

/-- A void for another claimer, for the open claim at its third and fourth attempts, and for the confirmed serial. -/
theorem witness_VoidHeardActsOnTheOwnClaim :
    let base (s : State) : Prop := s.takesFrames = true ∧ s.rsq.run = some 7 ∧ s.rsq.runState.takesSeal = true ∧
      (1 : BitVec 6).toNat ≠ s.sys.address
    let c (n : Nat) : State := ((sealing .claimOpen (some 100) n).mapRsq fun q => { q with verdict := some .pass }).relamp
    let k := (sealing .stroke (some 100) 1).mapSeu fun u => { u with claim := { u.claim with confirmed := true } }
    Fit [c 3] ∧ base (c 3) ∧ (13 : Byte).toNat ≠ (c 3).sys.address ∧ (12 : Byte).toNat = (c 3).sys.address ∧
    (c 3).seu.claim.serial = some (100 : Word).toNat ∧ (c 3).seu.claim.state = .claimOpen ∧ (c 3).seu.claim.attempts < 4 ∧
    base (c 4) ∧ 4 ≤ (c 4).seu.claim.attempts ∧ (c 4).seu.claim.slot = some 0 ∧ (c 4).rsq.verdict = some .pass ∧
    base k ∧ k.seu.claim.state = .stroke ∧ k.seu.claim.confirmed = true ∧
    k.seu.claim.serial = some (100 : Word).toNat := ⟨fit (by decide +kernel), by decide +kernel⟩

theorem witness_StrokeEndReleasesThePress :
    let base (s : State) : Prop := s.seu.claim.state = .stroke ∧ s.seu.press = true ∧ s.rst.op = none ∧ s.rst.waiting = []
    let y := stroking true
    let n := stroking false
    Fit [y, n, ready] ∧ (base y ∧ base n) ∧ y.seu.seenInactive = true ∧ (y.slot y.sealSlot).pressed = false ∧
    n.seu.seenInactive = false ∧ y.seu.strokeTimer = some 0 ∧ (y.slot y.sealSlot).pressFault = false ∧ ready.seu.press = false :=
  ⟨fit (by decide +kernel), by decide +kernel⟩

/-- Each step in slot 31; the last record number 65,535, with the number 1 held by slot 0 and 2 free. -/
theorem witness_StoreStepsChangeTheirSlot :
    let cells := List.replicate 30 (1 : Byte)
    let ops : List StoreOp := [.erase 31 (job false), .content 31 (job false) cells, .level 31 (job false), .mark 31 .exported false]
    let full := (storing ready (.erase 31 (job false))).mapRst fun r => { r with
      lastRecord := 65535, slots := r.slots.set 0 ⟨[0, 1, 0] ++ List.replicate 27 1, true, false, false, false, false⟩ }
    let after (q : Nat) : Nat := if q < 65535 then q + 1 else 1
    Fit (full :: ops.map (storing ready)) ∧ 31 < 32 ∧ (job false).sealed = false ∧
    ((full.slot 0).isEmpty = false ∧ full.isDamaged 0 = false ∧ (full.slot 0).number = after full.rst.lastRecord ∧
      thenIs (exec .eraseEnd full) (fun t => t.rst.lastRecord = after (after full.rst.lastRecord)) = true) ∧
    ∀ o ∈ ops, (storing ready o).rst.op = some o ∧ (storing ready o).rst.reserveAsked = false ∧ (storing ready o).rst.waiting = [] :=
  ⟨fit (by decide +kernel), by decide +kernel⟩

/-- The head of the requests that wait in an idle store: a write for slot 0, for any slot, and for any while none is free; a mark to
program, one programmed already, and the own one in STROKE. The end of each operation while a reservation waits for it. -/
theorem witness_NextBegins :
    let waits (s : State) (q : StoreRequest) : State := s.mapRst fun r => { r with waiting := [q, .mark 4 .exported false] }
    let rest : List StoreRequest := [.mark 4 .exported false]
    let own (s : State) (seu : Bool) : Prop := seu = true ∧ (s.seu.claim.state = .recording ∨ s.seu.claim.state = .stroke)
    let open_ (q : StoreRequest) (s : State) : Prop := (waits s q).rst.op = none ∧ (waits s q).rst.waiting = q :: rest
    let asked (o : StoreOp) : State := storing (reserving 198) o
    (open_ (.write (job true)) ready ∧ (job true).slot = some 0) ∧
    (open_ (.write (job false)) ready ∧ (job false).slot = none ∧ ready.chooseSlot = some 0) ∧
    (open_ (.write (job false)) (fullStore ready) ∧ (fullStore ready).chooseSlot = none) ∧
    (open_ (.mark 0 .pressFault true) (stroking true) ∧ ((stroking true).slot 0).hasMark .pressFault = false) ∧
    (open_ (.mark 0 .pressFault true) marked ∧ (marked.slot 0).hasMark .pressFault = true ∧ own marked true ∧ ¬ own marked false) ∧
    (∀ o ∈ [StoreOp.erase 31 (job false), .content 31 (job false) [], .level 31 (job false), .mark 31 .exported false, .wipe 32],
      (asked o).rst.op = some o ∧ (asked o).rst.reserveAsked = true ∧ (asked o).rsq.runState = .sealing) := by
  decide +kernel

/-- The press free and held, with no request waiting, seven and eight; the programmed mark in STROKE and in RECORDING. -/
theorem witness_SealedWriteLeadsToTheStroke :
    let base (s : State) : Prop := s.rst.reserveAsked = false ∧ s.rst.waiting = [] ∧ s.seu.claim.slot = some 0
    let waits (s : State) (n : Nat) : State := s.mapRst fun r => { r with waiting := List.replicate n (.mark 4 .exported false) }
    let r := (storing (sealing .recording (some 100) 1) (.level 0 (job true))).mapRst fun r => { r with reservation := some 0 }
    let held := r.mapSys fun y => { y with holds := { y.holds with press := true } }
    let k := storing (sealing .stroke (some 100) 1) (.mark 0 .pressed true)
    let p := storing (sealing .recording (some 100) 1) (.mark 0 .pressFault true)
    Fit [r, held, k, p, waits r 8, waits held 7, waits held 8] ∧ 0 < 32 ∧ (base r ∧ base held ∧ base k) ∧
    r.rst.op = some (.level 0 (job true)) ∧ (job true).sealed = true ∧ r.seu.claim.state = .recording ∧ r.sys.holds.press = false ∧
    (job true).slot = r.rst.reservation ∧ held.sys.holds.press = true ∧ (held.slot 0).pressFault = false ∧
    ((waits held 7).rst.waiting.length < 8 ∧ (waits held 8).rst.waiting.length = 8 ∧ p.rst.op = some (.mark 0 .pressFault true) ∧
      p.seu.claim.state = .recording) ∧ k.rst.op = some (.mark 0 .pressed true) ∧ k.seu.claim.state = .stroke ∧ k.rsq.runState = .sealing :=
  ⟨fit (by decide +kernel), by decide +kernel⟩

/-- Each line of the table, and a wipe at slots 31 and past the last. -/
theorem witness_StoreWipeIsJudgedAndErases :
    let busy := storing ready (.mark 0 .exported false)
    let guarded := ready.mapRst fun r => { r with slots := r.slots.set 31 ⟨List.replicate 30 1, true, true, true, false, false⟩ }
    let final := storing ready (.wipe 32)
    Fit [busy, guarded, ready, station .sealing, storing ready (.wipe 31), final] ∧
    ready.takesFrames = true ∧ busy.rst.op ≠ none ∧ ready.rst.op = none ∧ ready.rst.waiting = [] ∧
    (station .sealing).rsq.runState = .sealing ∧ ready.rsq.runState.inPoints = false ∧
    (∃ c ∈ guarded.rst.slots, c.guarded = true) ∧ (∀ c ∈ ready.rst.slots, c.guarded = false) ∧
    (storing ready (.wipe 31)).rst.op = some (.wipe 31) ∧ final.rst.op = some (.wipe 32) ∧
    final.rst.reserveAsked = false ∧ final.rst.waiting = [] := ⟨fit (by decide +kernel), by decide +kernel⟩

/-- Slot 31 holding record 5, marked and not, damaged, and empty. -/
theorem witness_RecordMarkReleasesTheNamedRecord :
    let s (exported damaged : Bool) : State := ready.mapRst fun r => { r with
      slots := r.slots.set 31 ⟨[0, 5, 0] ++ List.replicate 27 1, true, false, false, false, exported⟩, damaged := r.damaged.set 31 damaged }
    let fits (s : State) (q : Half) : Prop := (s.slot 31).isEmpty = false ∧
      ((s.isDamaged 31 = false ∧ (s.slot 31).number = q.toNat ∧ q ≠ 0) ∨ (s.isDamaged 31 = true ∧ q = 0))
    let kept := s false false
    let busy := storing ready (.mark 0 .exported false)
    Fit [kept, s true false, s false true, busy] ∧
    kept.takesFrames = true ∧ (31 : Byte).toNat < 32 ∧ busy.rst.op ≠ none ∧ kept.rst.op = none ∧ kept.rst.waiting = [] ∧
    ¬ fits ready 5 ∧ ¬ fits kept 0 ∧ fits kept 5 ∧ fits (s false true) 0 ∧ (kept.slot 31).exported = false ∧
    fits (s true false) 5 ∧ ((s true false).slot 31).exported = true := ⟨fit (by decide +kernel), by decide +kernel⟩

/-- A part with 3 frames, with a STATUS waiting, and full with 3 requests behind it; a busy store, an empty slot, a SEALED one, and a store
with nothing to export; a clashed station. -/
theorem witness_RequestsAreAnsweredOrWait :
    let s := (parts 3 0).mapRst fun r => { r with slots := r.slots.set 31 ⟨List.replicate 30 1, true, true, true, false, true⟩ }
    let due := ready.mapBli fun b => { b with report := [.status] }
    let busy := storing ready (.mark 0 .exported false)
    let clashed := station .clashed
    Fit [s, due, parts 4 3, busy, clashed] ∧ (31 : Byte).toNat < 32 ∧ (32 : Byte).toNat ≤ 32 ∧
    ((parts 4 3).takesFrames = true ∧ (parts 4 3).bli.report.length = 4 ∧ (parts 4 3).bli.buffer.length < 4) ∧
    (s.takesFrames = true ∧ s.bli.report.length < 4 ∧ s.rsq.runState ≠ .clashed ∧ s.bli.statusWaits = false) ∧
    (due.bli.statusWaits = true ∧ due.bli.report.length < 4) ∧
    (clashed.rsq.runState = .clashed ∧ clashed.takesFrames = true ∧ clashed.rst.op = none) ∧
    (busy.rst.op ≠ none ∧ s.rst.op = none ∧ s.rst.waiting = [] ∧ (s.slot 0).isEmpty = true) ∧
    ((s.slot 31).isSealed = true ∧ s.isDamaged 31 = false ∧ (s.slot 31).pressFault = false) ∧
    (∀ j, j < 32 → (s.slot j).isEmpty = true ∨ s.isDamaged j = true ∨ (s.slot j).exported = true) :=
  ⟨fit (by decide +kernel), by decide +kernel⟩

/-- A FILED slot, a DAMAGED one with a PRESS_FAULT, one with the second cell alone, and two unexported records, the older of which was
numbered before the wrap. -/
theorem witness_RecordAsk_full :
    let held (n : Nat) (one two : Bool) : Slot := ⟨leBytes 1 0 ++ leBytes 2 n ++ List.replicate 27 1, one, two, true, true, false⟩
    let s := ready.mapRst fun r => { r with
      slots := (((r.slots.set 0 (held 2 true false)).set 1 (held 9 true true)).set 2 (held 9 false true)).set 31 (held 65535 true true)
      damaged := (r.damaged.set 1 true).set 2 true, lastRecord := 3 }
    Fit [s] ∧ (s.takesFrames = true ∧ s.bli.report.length < 4 ∧ s.rsq.runState ≠ .clashed ∧ s.rst.op = none ∧ s.rst.waiting = []) ∧
    (∀ j ∈ [0, 1, 2, 31], (s.slot j).isEmpty = false) ∧
    s.OldestAmong (fun j => (s.slot j).isEmpty = false ∧ s.isDamaged j = false ∧ (s.slot j).exported = false) 31 := by
  refine ⟨fit (by decide +kernel), by decide +kernel, by decide +kernel, ?_⟩
  simp only [State.OldestAmong]; decide +kernel

/-- R160: the full form of a FILED slot, and of the oldest unexported record. -/
theorem test_record_ask_full :
    let held (n : Nat) (sealed : Bool) : Slot := ⟨leBytes 1 0 ++ leBytes 2 n ++ List.replicate 27 1, true, sealed, sealed, false, false⟩
    let s := ready.mapRst fun r => { r with slots := (r.slots.set 4 (held 2 false)).set 31 (held 65535 true), lastRecord := 3 }
    (nextOf (exec (.recordAsk 4) s) ready).bli.report = [.record ([4, 1] ++ (held 2 false).cells)] ∧
      (nextOf (exec (.recordAsk 255) s) ready).bli.report = [.record ([31, 10] ++ (held 65535 true).cells)] := by decide +kernel

/-- An idle station that a STATUS ASK waits for, and its next state. -/
def asked : State := { ready with pending := [.statusAsk] }
def answered : State := nextOf (step asked) ready

theorem answered_eq : step asked = .next answered := rfl

theorem witness_TablesAndQueuesKeepTheirBounds : asked.Sized ∧ step asked = .next answered :=
  ⟨((fit (l := [asked]) (by decide +kernel)) asked (by simp)).1, answered_eq⟩

/-- The level step of the own SEALED record with serial 100 in slot 0, a guarded record in slot 31, and the end of the step waiting. -/
def recording : State :=
  { ((storing (sealing .recording (some 100) 1) (.level 0 (job true))).mapRst fun r => { r with
      reservation := some 0
      slots := (r.slots.set 0 ⟨List.replicate 8 1 ++ [100, 0, 0, 0] ++ List.replicate 18 1, false, false, false, false, false⟩).set 31
        ⟨List.replicate 30 1, true, true, true, false, false⟩ }).mapSeu fun u =>
          { u with claim := { u.claim with confirmed := true } } with
    pending := [.levelStepEnd] }

/-- The state after it. -/
def stroked : State := nextOf (step recording) recording

theorem recording_sized : recording.Sized := ((fit (l := [recording]) (by decide +kernel)) recording (by simp)).1

theorem recording_op : recording.rst.op = some (.level 0 (job true)) := rfl

theorem recording_store : recording.StoreSound where
  op := by simp only [State.OpSound, recording_op]; decide +kernel
  reserved n h := by cases (h : some 0 = some n); decide +kernel
  waiting := by decide +kernel
  apart := by decide +kernel
  writing n _ := by decide +revert +kernel
  placed n j h := by cases (h : some (0, job true) = some (n, j)); decide +kernel
  claimed h := absurd h (by decide +kernel)

theorem recording_press : recording.PressSound := by
  constructor
  case backed => intro j h _; cases List.mem_singleton.1 (h : j ∈ [job true]); unfold State.Backs; decide +kernel
  case carries => simp only [State.OpCarries, recording_op]; decide +kernel
  case ranged => intro n h; cases (h : some 0 = some n); decide
  all_goals decide +kernel

theorem witness_SealedRecordsAreNeverErased : recording.StoreSound ∧ recording.Sized ∧ step recording = .next stroked ∧
    (recording.slot 31).guarded = true := ⟨recording_store, recording_sized, rfl, by decide +kernel⟩

theorem witness_PressFollowsTheSealedRecord : recording.PressSound ∧ recording.Sized ∧ step recording = .next stroked ∧
    recording.seu.press = false ∧ stroked.seu.press = true := ⟨recording_press, recording_sized, rfl, by decide +kernel⟩

/-- A station that a STATUS ASK waits for, its own entry and that of address 60 with the statuses given. -/
def departed (r : RunState) (own peer : PeerStatus) : State :=
  { ((((station r).mapRsq fun q => { q with seq := 0 }).mapEntry 12 fun e => { e with status := own }).mapEntry 60 fun e =>
      { e with status := peer }) with pending := [.statusAsk] }

/-- A station in ENROLLING with its own entry ENROLLED or ABSENT and a peer WITHDRAWN, and one that has left the run LAPSED or WITHDRAWN with
a peer LAPSED. -/
theorem witness_RunsOnlyGoForward :
    let goes (s : State) : Prop := s.SeqStarts ∧ s.OwnEntryJoins ∧ step s = .next (nextOf (step s) s) ∧
      (nextOf (step s) s).rsq.run = s.rsq.run ∧ (nextOf (step s) s).sys.inReset = false
    let left (s : State) (x : Nat) (st : PeerStatus) : Prop := (rosterAt s.rsq.roster x).status = st
    (goes (departed .enrolling .enrolled .withdrawn) ∧ left (departed .enrolling .enrolled .withdrawn) 60 .withdrawn) ∧
    goes (departed .enrolling .absent .withdrawn) ∧
    (goes (departed .withdrawn .lapsed .lapsed) ∧ left (departed .withdrawn .lapsed .lapsed) 12 .lapsed ∧
      left (departed .withdrawn .lapsed .lapsed) 60 .lapsed ∧ 60 ≠ (departed .withdrawn .lapsed .lapsed).sys.address) ∧
    (goes (departed .withdrawn .withdrawn .lapsed) ∧ left (departed .withdrawn .withdrawn .lapsed) 12 .withdrawn) := by
  simp only [State.SeqStarts, State.OwnEntryJoins]
  exact ⟨⟨⟨by decide +kernel, by decide +kernel, rfl, by decide +kernel, by decide +kernel⟩, by decide +kernel⟩,
    ⟨by decide +kernel, by decide +kernel, rfl, by decide +kernel, by decide +kernel⟩,
    ⟨⟨by decide +kernel, by decide +kernel, rfl, by decide +kernel, by decide +kernel⟩, by decide +kernel⟩,
    ⟨by decide +kernel, by decide +kernel, rfl, by decide +kernel, by decide +kernel⟩, by decide +kernel⟩

/-- R111, R122: the window closes on an unsent ENROL, and the own entry becomes ABSENT, while a peer that has withdrawn stays so. -/
theorem test_own_entry_alone_becomes_absent : thenIs (exec .enrolWindowExpiry
    ((departed .enrolling .enrolled .withdrawn).mapRsq fun q => { q with enrolWindow := some 0 })) (fun t =>
      t.rsq.runState = .idle ∧ (rosterAt t.rsq.roster 12).status = .absent ∧ (rosterAt t.rsq.roster 60).status = .withdrawn) = true := by
  decide +kernel

theorem witness_LampsFollowAndClashesStaySilent : Fit [asked] ∧ asked.Silenced ∧ (station .clashed).Silenced ∧
    (station .clashed).rsq.runState = .clashed ∧ step asked = .next answered :=
  ⟨fit (by decide +kernel), fun h => absurd h (by decide +kernel), fun _ => by decide +kernel, by decide +kernel, answered_eq⟩

theorem witness_FaultedIgnoresTheRun :
    let s := station .faulted
    let ignored := IgnoredInFaulted s.sys.address
    Fit [s] ∧ (ignored (.loadReady 7 1 0) ∧ ignored (.planTail 7 47)) ∧ (ignored (.enrol 60 7) ∧ ignored (.lapse 1 7 1 2)) ∧
    s.rsq.runState = .faulted ∧ s.takesFrames = true :=
  ⟨fit (by decide +kernel), ⟨.loadReady 7 1 0, .planTail 7 47 (by decide)⟩,
    ⟨.enrol 60 7 (by decide +kernel), .lapse 1 7 1 2 (by decide +kernel) (by decide)⟩, by decide +kernel⟩

theorem witness_EachItemIsWrittenByItsCommands : exec .statusAsk ready = .next (nextOf (exec .statusAsk ready) ready) ∧
    ¬ Instr.MayReset .statusAsk := by
  refine ⟨rfl, ?_⟩
  rintro (h | ⟨_, _, _, _, _, h, _⟩)
  · simp at h
  · cases h

end Sys2Proof.Tests
end

section
/-! PROOFS. The error arithmetic (chapter 3): the rounding and the gate error, the accumulator, the outcome record, and the reference
deviation. -/

namespace Sys2Proof.Machine

/-! ### Rounding to the nearest integer, halves away from zero (R38, R42) -/

theorem natAbs_roundNearest (num : Int) (den : Nat) :
    (roundNearest num den).natAbs = (2 * num.natAbs + den) / (2 * den) := by
  unfold roundNearest
  dsimp only
  split <;> simp only [Int.natAbs_neg, Int.natAbs_natCast]

/-- The rounding error depends on the magnitude of the numerator alone: the result has its sign. -/
theorem natAbs_sub_roundNearest_mul (num : Int) (den : Nat) :
    (num - roundNearest num den * den).natAbs =
      ((num.natAbs : Int) - (((2 * num.natAbs + den) / (2 * den) * den : Nat) : Int)).natAbs := by
  unfold roundNearest
  dsimp only
  split <;> simp only [Int.neg_mul, ← Nat.cast_mul] <;> omega

/-- The rounded magnitude `q` of `a / d` is the one with `q - 1/2 ≤ a / d < q + 1/2`. -/
theorem roundedMagnitude_bounds (a : Nat) {d : Nat} (hd : 0 < d) :
    2 * ((2 * a + d) / (2 * d) * d) ≤ 2 * a + d ∧ 2 * a < 2 * ((2 * a + d) / (2 * d) * d) + d := by
  have hmod : (2 * a + d) % (2 * d) < 2 * d := Nat.mod_lt _ (by omega)
  have hdiv : 2 * ((2 * a + d) / (2 * d) * d) + (2 * a + d) % (2 * d) = 2 * a + d := by
    rw [Nat.mul_left_comm, Nat.mul_comm _ (2 * d)]
    exact Nat.div_add_mod _ _
  omega

theorem roundNearest_nearest (num : Int) {den : Nat} (hden : 0 < den) :
    2 * (num - roundNearest num den * den).natAbs ≤ den := by
  have hbounds := roundedMagnitude_bounds num.natAbs hden
  rw [natAbs_sub_roundNearest_mul]
  omega

theorem roundNearest_half_away (num : Int) {den : Nat} (hden : 0 < den)
    (half : 2 * (num - roundNearest num den * den).natAbs = den) :
    num.natAbs ≤ (roundNearest num den * den).natAbs := by
  have hbounds := roundedMagnitude_bounds num.natAbs hden
  rw [natAbs_sub_roundNearest_mul] at half
  rw [Int.natAbs_mul, natAbs_roundNearest, Int.natAbs_natCast]
  omega

/-- A quotient is rounded to `-c` or below exactly from `-(c - 1/2)` downwards. -/
theorem roundNearest_le_neg_iff (num : Int) {den c : Nat} (hden : 0 < den) (hc : 0 < c) :
    roundNearest num den ≤ -(c : Int) ↔ 2 * num ≤ -((2 * c - 1) * den) := by
  have hq : c ≤ (2 * num.natAbs + den) / (2 * den) ↔ 2 * (c * den) ≤ 2 * num.natAbs + den := by
    rw [Nat.le_div_iff_mul_le (by omega), Nat.mul_left_comm]
  have hscaled : (2 * (c : Int) - 1) * den = 2 * ((c * den : Nat) : Int) - den := by push_cast; ring
  have hpos : den ≤ c * den := Nat.le_mul_of_pos_left den hc
  rw [hscaled]
  unfold roundNearest
  dsimp only
  generalize (2 * num.natAbs + den) / (2 * den) = q at hq ⊢
  split <;> omega

/-! ### The gate error (R37 to R39) -/

/-- The numerator of the exact gate error in ppm over the actual count Mq = M × 65,536 (R38). -/
def gateErrorNumerator (nm k m : Nat) : Int := (((nm * k : Nat) : Int) - ((m * 65536 : Nat) : Int)) * 1000000

theorem rawGateError_eq (nm k m : Nat) : rawGateError nm k m = roundNearest (gateErrorNumerator nm k m) (m * 65536) := by
  rw [gateErrorNumerator, Int.sub_mul]; rfl

section
variable {nm k m : Nat}

/-- The expected count is positive, so the exact error lies above −1,000,000 ppm. -/
theorem neg_million_lt_gateErrorNumerator (m : Nat) (hnm : 0 < nm) (hk : 0 < k) :
    -(1000000 * ((m * 65536 : Nat) : Int)) < gateErrorNumerator nm k m := by
  have hE : 0 < nm * k := Nat.mul_pos hnm hk
  unfold gateErrorNumerator
  omega

variable (hm : 0 < m)
include hm

theorem rawGateError_nearest :
    2 * (gateErrorNumerator nm k m - rawGateError nm k m * ((m * 65536 : Nat) : Int)).natAbs ≤ m * 65536 :=
  rawGateError_eq nm k m ▸ roundNearest_nearest _ (by omega)

theorem rawGateError_half_away
    (half : 2 * (gateErrorNumerator nm k m - rawGateError nm k m * ((m * 65536 : Nat) : Int)).natAbs = m * 65536) :
    (gateErrorNumerator nm k m).natAbs ≤ (rawGateError nm k m * ((m * 65536 : Nat) : Int)).natAbs := by
  rw [rawGateError_eq] at half ⊢
  exact roundNearest_half_away _ (by omega) half

theorem rawGateError_le_neg_million_iff :
    rawGateError nm k m ≤ -1000000 ↔ 2 * gateErrorNumerator nm k m ≤ -1999999 * ((m * 65536 : Nat) : Int) := by
  have h := roundNearest_le_neg_iff (gateErrorNumerator nm k m) (den := m * 65536) (c := 1000000) (by omega) (by decide)
  rw [← rawGateError_eq] at h
  omega

variable (hnm : 0 < nm) (hk : 0 < k)
include hnm hk

theorem neg_million_le_rawGateError : -1000000 ≤ rawGateError nm k m := by
  have hexact := neg_million_lt_gateErrorNumerator m hnm hk
  have h := roundNearest_le_neg_iff (gateErrorNumerator nm k m) (den := m * 65536) (c := 1000001) (by omega) (by decide)
  rw [← rawGateError_eq] at h
  omega

theorem rawGateError_lt_iff_eq_neg_million : rawGateError nm k m < -999999 ↔ rawGateError nm k m = -1000000 := by
  have hlow := neg_million_le_rawGateError hm hnm hk
  omega

theorem rawGateError_eq_neg_million_iff :
    rawGateError nm k m = -1000000 ↔ 2 * gateErrorNumerator nm k m ≤ -1999999 * ((m * 65536 : Nat) : Int) := by
  have hlow := neg_million_le_rawGateError hm hnm hk
  rw [← rawGateError_le_neg_million_iff hm]
  omega
end

theorem expectedCount_le {nm k : Nat} (hnm : nm ≤ 65535) (hk : k < 2 ^ 32) : nm * k ≤ 281470681677825 :=
  calc nm * k ≤ 65535 * (2 ^ 32 - 1) := Nat.mul_le_mul hnm (by omega)
    _ = 281470681677825 := by norm_num

theorem clampError_eq (e : Int) : clampError e = max (-999999) (min 999999 e) := by
  unfold clampError
  split
  · omega
  · split <;> omega

theorem saturates_iff (e : Int) : saturates e = true ↔ e < -999999 ∨ 999999 < e := by
  simp only [saturates, Bool.or_eq_true, decide_eq_true_eq, or_comm]

/-! ### A sample's error and its place in the accumulator (R37, R40) -/

section
variable {x : GateSample} (k : Nat)

theorem GateSample.error_of_noReference (h : x.m = 0) : x.error k = none := if_pos h

theorem GateSample.saturated_of_noReference (h : x.m = 0) : x.saturated k = false := by
  simp [GateSample.saturated, h]

theorem GateSample.error_of_reference (h : x.m ≠ 0) :
    x.error k = some (max (-999999) (min 999999 (rawGateError x.nm k x.m))) := by
  rw [GateSample.error, if_neg h, clampError_eq]

theorem GateSample.saturated_iff_of_reference (h : x.m ≠ 0) :
    x.saturated k = true ↔ rawGateError x.nm k x.m < -999999 ∨ 999999 < rawGateError x.nm k x.m := by
  rw [← saturates_iff]
  simp [GateSample.saturated, h]
end

theorem minWith_eq (old : Option Int) (e : Int) : minWith old e = some (match old with | none => e | some m => min m e) := by
  cases old with
  | none => rfl
  | some m =>
    simp only [minWith, Option.some.injEq]
    split <;> omega

theorem maxWith_eq (old : Option Int) (e : Int) : maxWith old e = some (match old with | none => e | some m => max m e) := by
  cases old with
  | none => rfl
  | some m =>
    simp only [maxWith, Option.some.injEq]
    split <;> omega

section
variable (acc : Accumulator) (d k : Nat) (x : GateSample)

theorem Accumulator.take_of_noError (h : x.error k = none) :
    acc.take d k x = { acc with glitchTotal := acc.glitchTotal + x.glitches } := by
  simp only [Accumulator.take, h]

theorem Accumulator.take_of_discarded (h : x.gate ≤ d) :
    acc.take d k x = { acc with glitchTotal := acc.glitchTotal + x.glitches } := by
  cases he : x.error k with
  | none => exact acc.take_of_noError d k x he
  | some e => simp only [Accumulator.take, he, if_pos h]

theorem Accumulator.take_of_kept {e : Int} (he : x.error k = some e) (h : d < x.gate) :
    acc.take d k x =
      { n := acc.n + 1, sum := acc.sum + e, min := minWith acc.min e, max := maxWith acc.max e,
        saturated := acc.saturated || x.saturated k, doubleSeen := acc.doubleSeen || x.double,
        glitchTotal := acc.glitchTotal + x.glitches } := by
  simp only [Accumulator.take, he, if_neg (Nat.not_le.2 h)]

theorem Accumulator.take_glitchTotal : (acc.take d k x).glitchTotal = acc.glitchTotal + x.glitches := by
  rcases Nat.lt_or_ge d x.gate with kept | discarded
  · cases he : x.error k with
    | none => rw [acc.take_of_noError d k x he]
    | some e => rw [acc.take_of_kept d k x he kept]
  · rw [acc.take_of_discarded d k x discarded]
end

/-! ### The outcome record of an accuracy channel (R42 to R44) -/

theorem Accumulator.mean_of_unkept {acc : Accumulator} (h : acc.n = 0) : acc.mean = none := if_pos h

theorem Accumulator.mean_of_kept {acc : Accumulator} (h : acc.n ≠ 0) : acc.mean = some (roundNearest acc.sum acc.n) := if_neg h

theorem Accumulator.spread_of_unkept {acc : Accumulator} (h : acc.n = 0) : acc.spread = none := by
  simp only [Accumulator.spread, h]

theorem Accumulator.spread_of_kept {acc : Accumulator} {lo hi : Int} (h : acc.n ≠ 0) (hlo : acc.min = some lo)
    (hhi : acc.max = some hi) : acc.spread = some (hi - lo).toNat := by
  obtain ⟨n, hn⟩ := Nat.exists_eq_succ_of_ne_zero h
  simp only [Accumulator.spread, hn, hlo, hhi]

/-- R43, test 1: an ending decides before the rest. -/
theorem accuracyOutcome_of_ending (c : PointCopy) (acc : Accumulator) {e : Ending} {o : ChanOutcome} (h : e.outcome = some o) :
    accuracyOutcome c acc e = o := by
  simp only [accuracyOutcome, h]

/-- R43, tests 2 to 8, for a measurement that ended by itself. -/
theorem accuracyOutcome_none (c : PointCopy) (acc : Accumulator) {m : Int} (hm : acc.mean = some m) :
    accuracyOutcome c acc .none =
      if acc.doubleSeen then .invalidDouble
      else if acc.saturated then (if m < 0 then .failLow else .failHigh)
      else if m < c.lower then .failLow
      else if c.upper < m then .failHigh
      else if c.spreadLimit ≠ 0 ∧ c.spreadLimit < acc.spread.getD 0 then .failSpread
      else .pass := by
  cases hs : acc.saturated <;> simp [accuracyOutcome, Ending.outcome, hm, hs]

theorem accuracyRecord_judgedBy (c : PointCopy) (acc : Accumulator) (e : Ending) : (accuracyRecord c acc e).JudgedBy c acc e where
  counts := ⟨rfl, rfl⟩
  unkept h := ⟨acc.mean_of_unkept h, acc.spread_of_unkept h⟩
  mean h := ⟨_, acc.mean_of_kept h, roundNearest_nearest _ (Nat.pos_of_ne_zero h),
    roundNearest_half_away _ (Nat.pos_of_ne_zero h)⟩
  spread h _ _ hlo hhi := acc.spread_of_kept h hlo hhi
  timeout h := accuracyOutcome_of_ending c acc (h ▸ rfl)
  noref h := accuracyOutcome_of_ending c acc (h ▸ rfl)
  mains h := accuracyOutcome_of_ending c acc (h ▸ rfl)
  held h := accuracyOutcome_of_ending c acc (h ▸ rfl)
  double h hd := by
    subst h
    simp only [accuracyRecord, accuracyOutcome, Ending.outcome, hd, if_true]
  saturatedLow h hd hs m hm hneg := by
    subst h
    exact (accuracyOutcome_none c acc hm).trans (by simp [hd, hs, hneg])
  saturatedHigh h hd hs m hm hpos := by
    subst h
    exact (accuracyOutcome_none c acc hm).trans (by simp [hd, hs, Int.not_lt.2 hpos])
  low h hd hs m hm hlow := by
    subst h
    exact (accuracyOutcome_none c acc hm).trans (by simp [hd, hs, hlow])
  high h hd hs m hm hlow hhigh := by
    subst h
    exact (accuracyOutcome_none c acc hm).trans (by simp [hd, hs, Int.not_lt.2 hlow, hhigh])
  wide h hd hs m w hm hw hlow hhigh hlimit hwide := by
    subst h
    replace hw : acc.spread = some w := hw
    exact (accuracyOutcome_none c acc hm).trans
      (by simp [hd, hs, Int.not_lt.2 hlow, Int.not_lt.2 hhigh, hw, hlimit, hwide])
  pass h hd hs m w hm hw hlow hhigh hnarrow := by
    subst h
    replace hw : acc.spread = some w := hw
    have hwithin : ¬ (c.spreadLimit ≠ 0 ∧ c.spreadLimit < acc.spread.getD 0) := by
      rw [hw, Option.getD_some]
      omega
    exact (accuracyOutcome_none c acc hm).trans
      (by simp only [hd, hs, Bool.false_eq_true, if_false, Int.not_lt.2 hlow, Int.not_lt.2 hhigh, hwithin])

/-! ### The gate error, its accumulator and its outcome together -/

/-- Settles O14: the rounding lemmas on the exact quotient, the cases of a sample's place in the accumulator, and R43's table line by
line. -/
theorem gateErrorIsRoundedAndClamped : Obligations.GateErrorIsRoundedAndClamped := by
  unfold Obligations.GateErrorIsRoundedAndClamped
  refine ⟨fun nm k m hm => ?_, fun acc seq d k x hM => ?_, fun acc seq d k x hM => ?_, accuracyRecord_judgedBy⟩
  case refine_1 =>
    exact ⟨rawGateError_nearest hm, rawGateError_half_away hm,
      fun hnm hk => ⟨Nat.mul_pos hnm hk, neg_million_le_rawGateError hm hnm hk, neg_million_lt_gateErrorNumerator m hnm hk⟩,
      expectedCount_le, fun hmax => by omega⟩
  case refine_2 =>
    have herr := GateSample.error_of_reference (x := x) k hM
    have hsat := GateSample.saturated_iff_of_reference (x := x) k hM
    have hMpos : 0 < x.mp * x.prescaler := Nat.pos_of_ne_zero hM
    refine ⟨fun hnm hk => ⟨rawGateError_lt_iff_eq_neg_million hMpos hnm hk, rawGateError_eq_neg_million_iff hMpos hnm hk⟩,
      herr, hsat, acc.take_glitchTotal d k x, acc.take_of_discarded d k x, fun kept => ?_⟩
    rw [acc.take_of_kept d k x herr kept]
    refine ⟨rfl, rfl, ?_, rfl, minWith_eq _ _, maxWith_eq _ _⟩
    rw [Bool.or_eq_true, hsat]
    rfl
  case refine_3 =>
    have herr := GateSample.error_of_noReference (x := x) k hM
    exact ⟨herr, GateSample.saturated_of_noReference k hM, acc.take_of_noError d k x herr⟩

/-! ### The reference deviation (R47, R48) -/

theorem insertFigure_eq_orderedInsert (x : Nat) (l : List Nat) : insertFigure x l = l.orderedInsert (· ≤ ·) x := by
  induction l with
  | nil => rfl
  | cons y rest ih => simp only [insertFigure, List.orderedInsert, ih]

theorem sortFigures_eq_insertionSort (l : List Nat) : sortFigures l = l.insertionSort (· ≤ ·) := by
  induction l with
  | nil => rfl
  | cons x rest ih => rw [sortFigures, insertFigure_eq_orderedInsert, ih]; rfl

theorem sortFigures_perm (l : List Nat) : (sortFigures l).Perm l :=
  sortFigures_eq_insertionSort l ▸ List.perm_insertionSort _ l

theorem sortFigures_pairwise (l : List Nat) : (sortFigures l).Pairwise (· ≤ ·) :=
  sortFigures_eq_insertionSort l ▸ List.pairwise_insertionSort _ l

section
variable {f : Nat} {peers : List Nat} {tol : Nat}

theorem deviationRecord_of_few (h : peers.length + 1 < 3) : deviationRecord (some f) peers tol = .unchecked := if_pos h

theorem deviationRecord_of_zeroMedian (h : lowerMedian (f :: peers) = 0) : deviationRecord (some f) peers tol = .unchecked := by
  simp only [deviationRecord, h, if_true, ite_self]

theorem deviationRecord_of_checked (hset : 3 ≤ peers.length + 1) (hmedian : lowerMedian (f :: peers) ≠ 0) :
    deviationRecord (some f) peers tol =
      if tol < deviationOf f (lowerMedian (f :: peers))
      then .disagree (lowerMedian (f :: peers)) (min (deviationOf f (lowerMedian (f :: peers))) 999999)
      else .agree (lowerMedian (f :: peers)) (min (deviationOf f (lowerMedian (f :: peers))) 999999) := by
  simp only [deviationRecord, List.length_cons, if_neg (Nat.not_lt.2 hset), if_neg hmedian]
end

/-- Settles O15: the sorted figure set is the one the model's insertion sort gives, and the median and the deviation are formed of it. -/
theorem deviationComparesWithTheLowerMedian : Obligations.DeviationComparesWithTheLowerMedian := by
  unfold Obligations.DeviationComparesWithTheLowerMedian
  rintro own peers tol
  refine ⟨fun absent => absent ▸ rfl, ?_⟩
  rintro f rfl
  refine ⟨deviationRecord_of_few, fun hset => ⟨sortFigures (f :: peers), sortFigures_perm _, sortFigures_pairwise _,
    deviationRecord_of_zeroMedian, fun hmedian hwithin => ?_, fun hmedian hbeyond => ?_⟩⟩
  · exact (deviationRecord_of_checked hset hmedian).trans (if_neg (Nat.not_lt.2 hwithin))
  · exact (deviationRecord_of_checked hset hmedian).trans (if_pos hbeyond)

end Sys2Proof.Machine
end

section
/-! PROOFS. Rules that the statements about a run's course share: the roster entry of a peer, the number of a new record, and the
record that is handed to the store. -/

namespace Sys2Proof.Machine

/-! ### Roster entries (R109) -/

theorem rosterAt_rosterSet_of_ne {x y : Nat} (r : List RosterEntry) (e : RosterEntry) (h : y ≠ x) :
    rosterAt (rosterSet r x e) y = rosterAt r y := by
  cases x with
  | zero => rfl
  | succ n =>
    cases y with
    | zero => rfl
    | succ m =>
      have hnm : n ≠ m := fun he => h (congrArg Nat.succ he.symm)
      simp only [rosterAt, rosterSet, List.getD_eq_getElem?_getD, List.getElem?_set_ne hnm]

theorem rosterSet_eq_set {x : Nat} (r : List RosterEntry) (e : RosterEntry) (h : 1 ≤ x) : rosterSet r x e = r.set (x - 1) e := by
  obtain ⟨n, rfl⟩ := Nat.exists_eq_add_of_le' h
  rfl

/-- An entry put back in its own place changes nothing. -/
theorem set_rosterAt_self {x : Nat} (r : List RosterEntry) (h : 1 ≤ x) : r.set (x - 1) (rosterAt r x) = r := by
  obtain ⟨n, rfl⟩ := Nat.exists_eq_add_of_le' h
  refine List.ext_getElem (List.length_set ..) fun i _ hi => ?_
  by_cases hni : n = i
  · subst hni
    simp [rosterAt, hi]
  · exact List.getElem_set_ne hni _

theorem mem_roster_iff {r : List RosterEntry} (hl : r.length = 60) (e : RosterEntry) :
    e ∈ r ↔ ∃ y, 1 ≤ y ∧ y ≤ 60 ∧ rosterAt r y = e := by
  rw [List.mem_iff_getElem]
  constructor
  · rintro ⟨i, hi, rfl⟩
    exact ⟨i + 1, by omega, by omega, List.getD_eq_getElem _ _ hi⟩
  · rintro ⟨y, hy, hy', rfl⟩
    obtain ⟨n, rfl⟩ := Nat.exists_eq_add_of_le' hy
    exact ⟨n, by omega, (List.getD_eq_getElem _ _ (by omega)).symm⟩

/-- The barrier's condition over the 60 addresses (R116). -/
theorem State.barrierMet_iff (s : State) (hl : s.rsq.roster.length = 60) : s.barrierMet = true ↔
    ∀ y, 1 ≤ y → y ≤ 60 → (rosterAt s.rsq.roster y).status = .enrolled →
      (rosterAt s.rsq.roster y).reached s.rsq.seq = true := by
  simp only [State.barrierMet, List.all_eq_true, mem_roster_iff hl, Bool.or_eq_true, decide_eq_true_eq, ne_eq]
  constructor
  · exact fun h y hy hy' he => (h _ ⟨y, hy, hy', rfl⟩).resolve_left fun hn => hn he
  · rintro h _ ⟨y, hy, hy', rfl⟩
    exact or_iff_not_imp_left.2 fun he => h y hy hy' (not_not.1 he)

/-! ### The number of a new record (R154) -/

theorem numberAfter_mem (q : Nat) : 1 ≤ numberAfter q ∧ numberAfter q ≤ 65535 := by
  unfold numberAfter
  split <;> omega

theorem numberAfter_iterate {q : Nat} (h1 : 1 ≤ q) (h2 : q ≤ 65535) (j : Nat) : numberAfter^[j] q = (q - 1 + j) % 65535 + 1 := by
  induction j with
  | zero => rw [Function.iterate_zero_apply]; omega
  | succ j ih =>
    rw [Function.iterate_succ_apply', ih, numberAfter]
    split <;> omega

section
variable (s : State)

theorem State.numberHeld_iff (q : Nat) : s.numberHeld q = true ↔
    ∃ m, m < 32 ∧ (s.slot m).isEmpty = false ∧ s.isDamaged m = false ∧ (s.slot m).number = q := by
  simp [State.numberHeld, and_assoc]

/-- The search for a number passes over held numbers alone, and stops early only at one that is not held. -/
theorem State.skipHeld_spec (fuel q : Nat) : ∃ k, k ≤ fuel ∧ s.skipHeld fuel q = numberAfter^[k] q ∧
    (∀ j, j < k → s.numberHeld (numberAfter^[j] q) = true) ∧ (k < fuel → s.numberHeld (numberAfter^[k] q) = false) := by
  induction fuel generalizing q with
  | zero => exact ⟨0, le_rfl, rfl, fun j hj => absurd hj (Nat.not_lt_zero j), fun h => absurd h (Nat.lt_irrefl 0)⟩
  | succ fuel ih =>
    by_cases held : s.numberHeld q = true
    · obtain ⟨k, hk, heq, hbefore, hstop⟩ := ih (numberAfter q)
      refine ⟨k + 1, Nat.succ_le_succ hk, by rw [State.skipHeld, if_pos held, heq]; rfl, fun j hj => ?_, fun h => hstop (by omega)⟩
      cases j with
      | zero => exact held
      | succ j => exact hbefore j (by omega)
    · exact ⟨0, Nat.zero_le _, if_neg held, fun j hj => absurd hj (Nat.not_lt_zero j), fun _ => Bool.eq_false_iff.2 held⟩

/-- 32 slots hold at most 32 numbers, so that one of 33 in a row is not held. -/
theorem State.not_all_held {q : Nat} (h1 : 1 ≤ q) (h2 : q ≤ 65535) : ¬ ∀ j, j < 33 → s.numberHeld (numberAfter^[j] q) = true := by
  intro held
  have slotOf : ∀ j ∈ Finset.range 33, ∃ m ∈ Finset.range 32, (s.slot m).number = numberAfter^[j] q := by
    intro j hj
    obtain ⟨m, hm, -, -, hnum⟩ := (s.numberHeld_iff _).1 (held j (Finset.mem_range.1 hj))
    exact ⟨m, Finset.mem_range.2 hm, hnum⟩
  choose! f hf hnum using slotOf
  obtain ⟨i, hi, j, hj, hij, hfij⟩ := Finset.exists_ne_map_eq_of_card_lt_of_maps_to (by simp) hf
  have same : numberAfter^[i] q = numberAfter^[j] q := by rw [← hnum i hi, ← hnum j hj, hfij]
  rw [numberAfter_iterate h1 h2, numberAfter_iterate h1 h2] at same
  have := Finset.mem_range.1 hi
  have := Finset.mem_range.1 hj
  omega

/-- The record number formed for an empty slot is the one R154 asks for. -/
theorem State.nextNumber_numberFor {n : Nat} (hn : (s.slot n).isEmpty = true) : s.NumberFor n s.nextNumber := by
  obtain ⟨hlo, hhi⟩ := numberAfter_mem s.rst.lastRecord
  obtain ⟨k, hk, heq, hbefore, hstop⟩ := s.skipHeld_spec 32 (numberAfter s.rst.lastRecord)
  have hfree : s.numberHeld (numberAfter^[k] (numberAfter s.rst.lastRecord)) = false := by
    rcases Nat.lt_or_ge k 32 with hlt | hge
    · exact hstop hlt
    · obtain rfl : k = 32 := Nat.le_antisymm hk hge
      refine Bool.eq_false_iff.2 fun hlast => s.not_all_held hlo hhi fun j hj => ?_
      rcases Nat.lt_succ_iff_lt_or_eq.1 hj with hlt | rfl
      · exact hbefore j hlt
      · exact hlast
  have elsewhere (q : Nat) : s.numberHeld q = true ↔
      ∃ m, m < 32 ∧ m ≠ n ∧ (s.slot m).isEmpty = false ∧ s.isDamaged m = false ∧ (s.slot m).number = q := by
    rw [s.numberHeld_iff]
    refine exists_congr fun m => and_congr_right fun _ => (and_iff_right_of_imp ?_).symm
    rintro ⟨hm, -⟩ rfl
    exact Bool.false_ne_true (hm.symm.trans hn)
  refine ⟨k, heq, fun hheld => ?_, fun j hj => (elsewhere _).1 (hbefore j hj)⟩
  exact Bool.false_ne_true (hfree.symm.trans ((elsewhere _).2 (heq ▸ hheld)))
end

/-! ### A request begins (R155 to R158) -/

section
variable (s : State) {job : WriteJob}

theorem State.beginRequest_writes {n : Nat} (h : s.WritesTo job n) : s.beginRequest (.write job) = (s.beginWrite n job, true) := by
  rcases h with hslot | ⟨hslot, hchosen⟩
  · simp only [State.beginRequest, hslot]
  · simp only [State.beginRequest, hslot, hchosen]

theorem State.beginRequest_full (hslot : job.slot = none) (hchosen : s.chooseSlot = none) :
    s.beginRequest (.write job) = (s.raise .storeFull, false) := by
  simp only [State.beginRequest, hslot, hchosen]

theorem State.beginRequest_mark (n : Nat) (m : Mark) (seu : Bool) : s.beginRequest (.mark n m seu) =
    if (s.slot n).hasMark m then (if seu then s.markReported m else s, false) else (s.beginOp (.mark n m seu) markTime, true) := rfl
end

/-! ### What the store does depends on the store alone (R155 to R158) -/

section
variable {s u : State}

theorem State.slot_congr (h : u.rst = s.rst) : u.slot = s.slot := by
  funext n
  rw [State.slot, h]
  rfl

theorem State.isDamaged_congr (h : u.rst = s.rst) : u.isDamaged = s.isDamaged := by
  funext n
  rw [State.isDamaged, h]
  rfl

theorem State.chooseSlot_congr (h : u.rst = s.rst) : u.chooseSlot = s.chooseSlot := by
  unfold State.chooseSlot State.slotFree State.oldest
  rw [State.slot_congr h, State.isDamaged_congr h, h]

theorem State.nextNumber_congr (h : u.rst = s.rst) : u.nextNumber = s.nextNumber := by
  have hheld (q : Nat) : u.numberHeld q = s.numberHeld q := by
    unfold State.numberHeld
    rw [State.slot_congr h, State.isDamaged_congr h]
  have hskip (fuel q : Nat) : u.skipHeld fuel q = s.skipHeld fuel q := by
    induction fuel generalizing q with
    | zero => rfl
    | succ fuel ih => simp only [State.skipHeld, hheld, ih]
  rw [State.nextNumber, hskip, h]
  rfl

theorem State.beginWrite_congr (h : u.rst = s.rst) (n : Nat) (job : WriteJob) :
    (u.beginWrite n job).rst = (s.beginWrite n job).rst := by
  unfold State.beginWrite State.beginContent State.beginOp
  rw [State.slot_congr h, State.nextNumber_congr h]
  split <;> simp only [State.mapRst_rst, h]

theorem State.beginRequest_congr (h : u.rst = s.rst) (q : StoreRequest) :
    (u.beginRequest q).1.rst = (s.beginRequest q).1.rst ∧ (u.beginRequest q).2 = (s.beginRequest q).2 := by
  cases q with
  | write job =>
    cases hslot : job.slot with
    | some n =>
      rw [u.beginRequest_writes (.inl hslot), s.beginRequest_writes (.inl hslot)]
      exact ⟨State.beginWrite_congr h n job, rfl⟩
    | none =>
      cases hchosen : s.chooseSlot with
      | some n =>
        rw [u.beginRequest_writes (.inr ⟨hslot, State.chooseSlot_congr h ▸ hchosen⟩),
          s.beginRequest_writes (.inr ⟨hslot, hchosen⟩)]
        exact ⟨State.beginWrite_congr h n job, rfl⟩
      | none =>
        rw [u.beginRequest_full hslot (State.chooseSlot_congr h ▸ hchosen), s.beginRequest_full hslot hchosen]
        exact ⟨by simpa using h, rfl⟩
  | mark n m seu =>
    rw [u.beginRequest_mark, s.beginRequest_mark, State.slot_congr h]
    split
    · refine ⟨?_, rfl⟩
      dsimp only
      split <;> simpa using h
    · exact ⟨by simp only [State.beginOp, State.mapRst_rst, h], rfl⟩

theorem State.startList_congr (h : u.rst = s.rst) (l : List StoreRequest) : (u.startList l).rst = (s.startList l).rst := by
  induction l generalizing s u with
  | nil => simp only [State.startList, State.mapRst_rst, h]
  | cons q rest ih =>
    obtain ⟨hrst, hbusy⟩ := State.beginRequest_congr (u := u.mapRst fun r => { r with waiting := rest })
      (s := s.mapRst fun r => { r with waiting := rest }) (by simp only [State.mapRst_rst, h]) q
    simp only [State.startList, hbusy]
    split
    · exact hrst
    · exact ih hrst

theorem State.startNext_congr (h : u.rst = s.rst) : u.startNext.rst = s.startNext.rst := by
  simp only [State.startNext, h]
  split
  · exact h
  · exact State.startList_congr h _
end

/-! ### A record handed to the store (R156, R157) -/

section
variable (s : State) (job : WriteJob)

theorem State.beginWrite_writeBegins (n : Nat) : s.WriteBegins n job (s.beginWrite n job) := by
  have hblank : ((s.slot n).isEmpty && !(s.slot n).programmed) = true ↔
      (s.slot n).isEmpty = true ∧ ∀ x ∈ (s.slot n).cells, x = 0 := by
    simp [Slot.programmed]
  constructor
  case blank =>
    intro hempty hzero
    refine ⟨s.nextNumber, s.nextNumber_numberFor hempty, ?_⟩
    rw [State.beginWrite, if_pos (hblank.2 ⟨hempty, hzero⟩)]
    rfl
  case used =>
    intro hused
    rw [State.beginWrite, if_neg (mt hblank.1 hused)]
    rfl

theorem State.WriteBegins.congr {s t t' : State} {n : Nat} {job : WriteJob} (h : s.WriteBegins n job t) (ht : t'.rst = t.rst) :
    s.WriteBegins n job t' where
  blank := ht ▸ h.blank
  used := ht ▸ h.used

/-- A write that an idle store is asked for takes the slot it is reserved for, or the one chosen now. -/
theorem State.askStore_write_idle {n : Nat} (ho : s.rst.op = none) (hw : s.rst.waiting = []) (hn : s.WritesTo job n) :
    s.askStore (.write job) = s.beginWrite n job := by
  rw [s.askStore_idle _ ho hw, s.beginRequest_writes hn, if_pos rfl]

/-- An idle store without a free slot writes nothing (R155, R157). -/
theorem State.askStore_write_full (ho : s.rst.op = none) (hw : s.rst.waiting = []) (hslot : job.slot = none)
    (hchosen : s.chooseSlot = none) :
    (s.askStore (.write job)).rst = s.rst ∧ (s.askStore (.write job)).rrp = (s.raise .storeFull).rrp := by
  rw [s.askStore_idle _ ho hw, s.beginRequest_full hslot hchosen, if_neg Bool.false_ne_true]
  refine ⟨?_, rfl⟩
  rw [State.startList, State.mapRst_rst, ← hw]
  simp

/-- A write that finds 8 requests waiting is lost (R156). -/
theorem State.askStore_write_lost (hl : 8 ≤ s.rst.waiting.length) :
    (s.askStore (.write job)).rrp = (s.raise .storeFull).rrp ∧ (s.askStore (.write job)).rst = { s.rst with
      reservation := if job.slot ≠ none ∧ s.rst.reservation = job.slot then none else s.rst.reservation } := by
  rw [State.askStore, if_pos hl]
  cases hslot : job.slot with
  | none => simp [State.writeLost, hslot]
  | some n =>
    simp only [State.writeLost, hslot]
    split <;> simp

/-- A request that finds room joins the tail of those that wait, and the head begins in an idle store (R156). -/
theorem State.askStore_joins (q : StoreRequest) (hl : s.rst.waiting.length < 8) :
    s.askStore q = (s.mapRst fun r => { r with waiting := r.waiting ++ [q] }).startNext := if_neg (Nat.not_le.2 hl)
end

/-- A state whose store stands as after a write was asked for, and that keeps a STORE_FULL raised then, has the record handed over. -/
theorem State.handsOver_of_askStore {s u t : State} {job : WriteJob} (hu : u.rst = s.rst) (ht : t.rst = (u.askStore (.write job)).rst)
    (hf : Event.storeFull.isIn (u.askStore (.write job)).rrp.flags = true → Event.storeFull.isIn t.rrp.flags = true) :
    s.HandsOver t job := by
  have raised (h : (u.askStore (.write job)).rrp = (u.raise .storeFull).rrp) : Event.storeFull.isIn t.rrp.flags = true :=
    hf (by rw [h, u.isIn_raise]; simp)
  constructor
  case begins =>
    intro ho hw n hn
    have hn' : u.WritesTo job n := by simpa only [State.WritesTo, State.chooseSlot_congr hu] using hn
    refine (s.beginWrite_writeBegins job n).congr ?_
    rw [ht, u.askStore_write_idle job (hu ▸ ho) (hu ▸ hw) hn', State.beginWrite_congr hu]
  case full =>
    intro ho hw hslot hchosen
    obtain ⟨hrst, hrrp⟩ := u.askStore_write_full job (hu ▸ ho) (hu ▸ hw) hslot (State.chooseSlot_congr hu ▸ hchosen)
    exact ⟨by rw [ht, hrst, hu], raised hrrp⟩
  case waits =>
    intro ho hl
    rw [ht, u.askStore_waits _ (hu ▸ hl) (hu ▸ ho), State.mapRst_rst, hu]
  case joins =>
    intro _ _ hl
    rw [ht, u.askStore_joins _ (hu ▸ hl)]
    exact State.startNext_congr (by simp only [State.mapRst_rst, hu])
  case lost =>
    intro hl
    obtain ⟨hrrp, hrst⟩ := u.askStore_write_lost job (hu ▸ hl)
    exact ⟨raised hrrp, by rw [ht, hrst, hu]⟩

/-- The record of a run that ends for the station without a verdict goes to the store with INCOMPLETE (R64, R157). -/
theorem State.takeIncomplete_handsOver {s u t : State} {job : WriteJob} (hu : u.rst = s.rst)
    (hjob : u.incompleteJob ((u.rsq.run.map BitVec.toNat).getD 0) = job) (ht : t.rst = u.takeIncomplete.rst)
    (hf : Event.storeFull.isIn u.takeIncomplete.rrp.flags = true → Event.storeFull.isIn t.rrp.flags = true) : s.HandsOver t job := by
  subst hjob
  exact State.handsOver_of_askStore (u := u.mapRsq fun q => { q with verdict := some .incomplete }) hu ht hf

/-- The relighting of the lamps is nothing to a record handed over (R65). -/
theorem State.HandsOver.relamp {s t : State} {job : WriteJob} (h : s.HandsOver t job) : s.HandsOver t.relamp job where
  begins ho hw n hn := (h.begins ho hw n hn).congr (by simp)
  full := by simpa only [State.relamp_frame] using h.full
  waits := by simpa only [State.relamp_frame] using h.waits
  joins := by simpa only [State.relamp_frame] using h.joins
  lost := by simpa only [State.relamp_frame] using h.lost

end Sys2Proof.Machine
end

section
/-! PROOFS. What the store, the seal unit and the run sequencer report while a station leaves a point or a run: flags stay up, frames
join the tail of the reporting part, and only a withdrawal that says so raises OUT_OF_STEP. -/

namespace Sys2Proof.Machine

/-! ### Reports that only add (R98, R135, R137) -/

/-- From `s` to `t` the station has only reported further: no flag has fallen, OUT_OF_STEP is as it was, and the reporting part's frames
stand at its head. -/
structure State.ReportsOn (s t : State) : Prop where
  raised : ∀ e : Event, e.isIn s.rrp.flags = true → e.isIn t.rrp.flags = true
  inStep : Event.outOfStep.isIn t.rrp.flags = Event.outOfStep.isIn s.rrp.flags
  frames : s.bli.report <+: t.bli.report

section
variable {s t u : State}

theorem State.ReportsOn.of_eq (hf : t.rrp.flags = s.rrp.flags) (hr : t.bli.report = s.bli.report) : s.ReportsOn t :=
  ⟨fun _ h => hf ▸ h, hf ▸ rfl, hr ▸ List.prefix_rfl⟩

theorem State.ReportsOn.refl (s : State) : s.ReportsOn s := .of_eq rfl rfl

theorem State.ReportsOn.trans (h1 : s.ReportsOn t) (h2 : t.ReportsOn u) : s.ReportsOn u :=
  ⟨fun e h => h2.raised e (h1.raised e h), h2.inStep.trans h1.inStep, h1.frames.trans h2.frames⟩

theorem State.ReportsOn.from_eq (h : t.ReportsOn u) (hf : t.rrp.flags = s.rrp.flags) (hr : t.bli.report = s.bli.report) :
    s.ReportsOn u := .trans (.of_eq hf hr) h
end

theorem State.offerReport_frames (s : State) (f : ReportFrame) : s.bli.report <+: (s.offerReport f).bli.report := by
  unfold State.offerReport
  split
  · exact List.prefix_rfl
  · rw [State.mapBli_bli]
    split
    · exact List.prefix_append ..
    · exact List.prefix_rfl

theorem State.callStatus_frames (s : State) : s.bli.report <+: s.callStatus.bli.report := by
  unfold State.callStatus
  split_ifs
  exacts [List.prefix_rfl, List.prefix_rfl, List.prefix_rfl, s.offerReport_frames .status, List.prefix_rfl]

theorem State.raise_frames (s : State) (e : Event) : s.bli.report <+: (s.raise e).bli.report := by
  unfold State.raise
  dsimp only
  split
  · exact State.callStatus_frames (s.mapRrp fun r => { r with flags := r.flags ||| e.flag })
  · exact List.prefix_rfl

theorem State.raise_reportsOn (s : State) {e : Event} (he : e ≠ .outOfStep) : s.ReportsOn (s.raise e) where
  raised _ h := by rw [s.isIn_raise, h, Bool.true_or]
  inStep := by rw [s.isIn_raise, decide_eq_false (Ne.symm he), Bool.or_false]
  frames := s.raise_frames e

theorem State.testResult_reportsOn (s : State) : s.ReportsOn s.testResult := by
  have hflags : s.testResult.rrp.flags = s.rrp.flags := by simp
  refine ⟨fun _ h => hflags ▸ h, hflags ▸ rfl, ?_⟩
  unfold State.testResult
  split
  · exact s.offerReport_frames _
  · exact List.prefix_rfl

theorem State.joinTail_reportsOn (s : State) (e : Entry) : s.ReportsOn (s.joinTail e) := by
  refine (State.testResult_reportsOn _).from_eq ?_ rfl
  rw [State.mapRrp_rrp, Rrp.startDelay]
  split <;> rfl

/-- An entry handed on raises REPORT_DROPPED at most (R131). -/
theorem State.handEntry_reportsOn (s : State) (e : Entry) : s.ReportsOn (s.handEntry e) := by
  have dropped : s.ReportsOn ((s.mapRrp fun r => { r with drops := bump 255 r.drops }).raise .reportDropped) :=
    (State.raise_reportsOn _ (by decide)).from_eq rfl rfl
  unfold State.handEntry
  dsimp only
  split_ifs
  exacts [.refl s, s.joinTail_reportsOn e, dropped.trans ((State.joinTail_reportsOn _ e).from_eq rfl rfl), dropped]

/-! ### The store and the seal unit (R147, R148, R156) -/

/-- What the store and the seal unit do to the run sequencer and the reports: a station in SEALING may have finished. -/
structure State.StoreReports (s t : State) : Prop extends s.ReportsOn t where
  runState : t.rsq.runState = s.rsq.runState ∨ s.rsq.runState = .sealing ∧ t.rsq.runState = .finished

section
variable {s t u : State}

theorem State.StoreReports.of_eq (hs : t.rsq.runState = s.rsq.runState) (hf : t.rrp.flags = s.rrp.flags)
    (hr : t.bli.report = s.bli.report) : s.StoreReports t := ⟨.of_eq hf hr, .inl hs⟩

theorem State.StoreReports.refl (s : State) : s.StoreReports s := .of_eq rfl rfl rfl

theorem State.StoreReports.trans (h1 : s.StoreReports t) (h2 : t.StoreReports u) : s.StoreReports u where
  toReportsOn := h1.toReportsOn.trans h2.toReportsOn
  runState := by
    rcases h1.runState, h2.runState with ⟨h1 | ⟨h1, h1'⟩, h2 | ⟨h2, h2'⟩⟩
    · exact .inl (h2.trans h1)
    · exact .inr ⟨h1 ▸ h2, h2'⟩
    · exact .inr ⟨h1, h2.trans h1'⟩
    · exact .inr ⟨h1, h2'⟩

theorem State.StoreReports.from_eq (h : t.StoreReports u) (hs : t.rsq.runState = s.rsq.runState) (hf : t.rrp.flags = s.rrp.flags)
    (hr : t.bli.report = s.bli.report) : s.StoreReports u := .trans (.of_eq hs hf hr) h

/-- A station that was sealing, or finished, is in one of the two. -/
theorem State.StoreReports.sealing_or_finished (h : s.StoreReports t) (hs : s.rsq.runState = .sealing) :
    t.rsq.runState = .sealing ∨ t.rsq.runState = .finished :=
  h.runState.imp (fun he => he.trans hs) And.right
end

section
variable (s : State)

theorem State.raise_storeReports {e : Event} (he : e ≠ .outOfStep) : s.StoreReports (s.raise e) :=
  ⟨s.raise_reportsOn he, .inl (by simp)⟩

theorem State.giveSeal_storeReports (o : SealOutcome) : s.StoreReports (s.giveSeal o) := by
  unfold State.giveSeal
  dsimp only
  split
  case isTrue sealing => exact ⟨.of_eq rfl rfl, .inr ⟨sealing, rfl⟩⟩
  case isFalse => exact .of_eq rfl rfl rfl

theorem State.markReported_storeReports (m : Mark) : s.StoreReports (s.markReported m) := by
  unfold State.markReported
  split
  · exact s.giveSeal_storeReports _
  · exact .refl s

theorem State.writeLost_storeReports (job : WriteJob) : s.StoreReports (s.writeLost job) := by
  have full : s.StoreReports (s.raise .storeFull) := s.raise_storeReports (by decide)
  unfold State.writeLost
  dsimp only
  split
  · exact full
  · refine full.trans ?_
    split
    · exact (State.giveSeal_storeReports _ _).from_eq rfl rfl rfl
    · exact .of_eq rfl rfl rfl

theorem State.beginRequest_storeReports (q : StoreRequest) : s.StoreReports (s.beginRequest q).1 := by
  cases q with
  | write job =>
    have writes (n : Nat) : s.StoreReports (s.beginWrite n job) := .of_eq (by simp) (by simp) (by simp)
    unfold State.beginRequest
    dsimp only
    split
    · exact writes _
    · split
      · exact writes _
      · exact s.raise_storeReports (by decide)
  | mark n m seu =>
    rw [s.beginRequest_mark]
    split_ifs
    exacts [s.markReported_storeReports m, .refl s, .of_eq rfl rfl rfl]

theorem State.startList_storeReports (l : List StoreRequest) : s.StoreReports (s.startList l) := by
  induction l generalizing s with
  | nil => exact .of_eq rfl rfl rfl
  | cons q rest ih =>
    have begun : s.StoreReports ((s.mapRst fun r => { r with waiting := rest }).beginRequest q).1 :=
      (State.beginRequest_storeReports _ q).from_eq rfl rfl rfl
    unfold State.startList
    dsimp only
    split
    · exact begun
    · exact begun.trans (ih _)

theorem State.startNext_storeReports : s.StoreReports s.startNext := by
  unfold State.startNext
  split
  · exact .refl s
  · exact s.startList_storeReports _

theorem State.askStore_storeReports (q : StoreRequest) : s.StoreReports (s.askStore q) := by
  by_cases hl : 8 ≤ s.rst.waiting.length
  case neg =>
    rw [s.askStore_joins q (Nat.not_le.1 hl)]
    exact (State.startNext_storeReports _).from_eq rfl rfl rfl
  case pos =>
    unfold State.askStore
    rw [if_pos hl]
    cases q with
    | write job => exact s.writeLost_storeReports job
    | mark n m seu =>
      dsimp only
      split
      · exact s.markReported_storeReports m
      · exact .refl s

theorem State.takeIncomplete_storeReports : s.StoreReports s.takeIncomplete :=
  (State.askStore_storeReports _ _).from_eq rfl rfl rfl

theorem State.endSealing_storeReports (o : SealOutcome) : s.StoreReports (s.endSealing o) := by
  have given : s.StoreReports ((s.mapSeu fun u => { u with claim := { u.claim with serial := none, confirmed := false } }).giveSeal o) :=
    (State.giveSeal_storeReports _ o).from_eq rfl rfl rfl
  unfold State.endSealing
  dsimp only
  split
  · exact given.trans (State.askStore_storeReports _ _)
  · exact given

theorem State.offerClaim_storeReports : s.StoreReports s.offerClaim := .of_eq (by simp) (by simp) (by simp)

theorem State.reserve_storeReports : s.StoreReports s.reserve := by
  unfold State.reserve
  split
  · exact (s.raise_storeReports (by decide)).trans (State.giveSeal_storeReports _ _)
  · dsimp only
    split
    · exact (State.endSealing_storeReports _ _).from_eq rfl rfl rfl
    · exact (State.offerClaim_storeReports _).from_eq rfl rfl rfl

theorem State.enterSealing_storeReports : (s.enter .sealing).StoreReports s.enterSealing := by
  unfold State.enterSealing
  dsimp only
  split
  · exact .of_eq rfl rfl rfl
  · exact State.reserve_storeReports _
end

/-! ### The withdrawal from a run (R123) -/

/-- A station that withdraws, before the record of the run goes to the store: its WITHDRAW offered, its own entry WITHDRAWN, out of its
point, its timers stopped and its LAPSEs gone (R123). -/
def State.leavesRun (s : State) (r : WithdrawReason) : State :=
  ((s.offerCoord (.withdraw s.runNumber s.rsq.seq r)).markOwn .withdrawn).leavePoint.stopRunTimers.withdrawFrames (isLapse s.runNumber)

theorem State.withdrawRun_outOfStep (s : State) :
    s.withdrawRun .outOfStep = ((s.leavesRun .outOfStep).takeIncomplete.raise .outOfStep).enter .withdrawn := rfl

theorem State.withdrawRun_planFault (s : State) : s.withdrawRun .planFault = (s.leavesRun .planFault).takeIncomplete.enter .faulted := rfl

section
variable (s : State) (r : WithdrawReason)

@[simp] theorem State.leavesRun_run : (s.leavesRun r).rsq.run = s.rsq.run := by simp [State.leavesRun]
@[simp] theorem State.leavesRun_tally : (s.leavesRun r).rsq.tally = s.rsq.tally := by simp [State.leavesRun]
@[simp] theorem State.leavesRun_sys : (s.leavesRun r).sys = s.sys := by simp [State.leavesRun]
@[simp] theorem State.leavesRun_rst : (s.leavesRun r).rst = s.rst := by simp [State.leavesRun]
@[simp] theorem State.leavesRun_rrp : (s.leavesRun r).rrp = s.rrp := by simp [State.leavesRun]
@[simp] theorem State.leavesRun_report : (s.leavesRun r).bli.report = s.bli.report := by simp [State.leavesRun]
@[simp] theorem State.leavesRun_barrier : (s.leavesRun r).rsq.barrier = .stopped := by simp [State.leavesRun, State.stopRunTimers]

theorem State.leavesRun_rosterAt {y : Nat} (h : y ≠ s.sys.address) :
    rosterAt (s.leavesRun r).rsq.roster y = rosterAt s.rsq.roster y := by
  simp [State.leavesRun, State.markOwn, State.mapEntry_roster, rosterAt_rosterSet_of_ne _ _ h]

theorem State.leavesRun_offers (h : s.rsq.runState ≠ .clashed) :
    .withdraw s.runNumber s.rsq.seq r ∈ (s.leavesRun r).bli.coord ++ (s.leavesRun r).bli.waiting := by
  refine State.withdrawFrames_keeps _ _ _ rfl ?_
  simp only [State.stopRunTimers_frame, State.leavePoint_frame, State.markOwn_frame, s.offerCoord_frames _ h, List.mem_append,
    List.mem_singleton, or_true]

/-- A withdrawal for a plan fault reports no OUT_OF_STEP. -/
theorem State.withdrawRun_planFault_reportsOn : s.ReportsOn (s.withdrawRun .planFault) := by
  rw [s.withdrawRun_planFault]
  have left : s.ReportsOn (s.leavesRun .planFault) := .of_eq (by simp) (by simp)
  exact (left.trans (State.takeIncomplete_storeReports _).toReportsOn).trans (.of_eq rfl rfl)

theorem State.withdrawRun_rosterAt {y : Nat} (h : y ≠ s.sys.address) :
    rosterAt (s.withdrawRun r).rsq.roster y = rosterAt s.rsq.roster y := by
  refine Eq.trans ?_ (s.leavesRun_rosterAt r h)
  unfold State.withdrawRun
  dsimp only
  split <;> simp [State.leavesRun]
end

end Sys2Proof.Machine
end

section
/-! PROOFS. The close of a barrier: the point entry handed on, the point in the tally, and the next step of the chain (R49, R63, R81, R116,
R117). -/

namespace Sys2Proof.Machine

/-! ### What an entry handed on depends on (R131 to R133) -/

/-- Two states alike in all that the result reporter looks at: its own items, the reporting part, whether the head of that part is on the
line, the run state and the holds. -/
structure State.SameReporter (s u : State) : Prop where
  rrp : u.rrp = s.rrp
  report : u.bli.report = s.bli.report
  sending : (u.bli.attempt.any fun a => a.part = .reporting) = s.bli.attempt.any fun a => a.part = .reporting
  runState : u.rsq.runState = s.rsq.runState
  sys : u.sys = s.sys

section
variable {s u : State} (h : s.SameReporter u)
include h

theorem State.SameReporter.mapRrp (f : Rrp → Rrp) : (s.mapRrp f).SameReporter (u.mapRrp f) :=
  ⟨congrArg f h.rrp, h.report, h.sending, h.runState, h.sys⟩

theorem State.SameReporter.offerReport (f : ReportFrame) : (s.offerReport f).SameReporter (u.offerReport f) := by
  have hreport : (u.offerReport f).bli.report = (s.offerReport f).bli.report := by
    simp only [State.offerReport, h.runState, State.mapBli]
    split
    · exact h.report
    · rw [h.report]
      split
      · rfl
      · exact h.report
  refine ⟨?_, hreport, ?_, ?_, ?_⟩ <;> simp only [State.offerReport_frame]
  exacts [h.rrp, h.sending, h.runState, h.sys]

theorem State.SameReporter.callStatus : s.callStatus.SameReporter u.callStatus := by
  have hwaits : u.bli.statusWaits = s.bli.statusWaits := by simp only [Bli.statusWaits, h.sending, h.report]
  have hroom : u.reportRoom = s.reportRoom := by simp only [State.reportRoom, h.report]
  unfold State.callStatus
  rw [h.runState, hwaits, hroom]
  split_ifs
  exacts [h, h.mapRrp _, h, h.offerReport _, h.mapRrp _]

theorem State.SameReporter.raise (e : Event) : (s.raise e).SameReporter (u.raise e) := by
  unfold State.raise
  dsimp only
  rw [h.rrp]
  split
  · exact (h.mapRrp _).callStatus
  · exact h.mapRrp _

theorem State.SameReporter.testResult : s.testResult.SameReporter u.testResult := by
  have hcalled : u.resultCalled = s.resultCalled := by simp only [State.resultCalled, State.reportRoom, h.rrp, h.report, h.sys]
  unfold State.testResult
  rw [hcalled, h.rrp]
  split
  · exact (h.offerReport _).mapRrp _
  · exact h

theorem State.SameReporter.joinTail (e : Entry) : (s.joinTail e).SameReporter (u.joinTail e) := (h.mapRrp _).testResult

theorem State.SameReporter.handEntry (e : Entry) : (s.handEntry e).SameReporter (u.handEntry e) := by
  have dropped := (h.mapRrp fun r => { r with drops := bump 255 r.drops }).raise .reportDropped
  unfold State.handEntry
  dsimp only
  rw [h.sys, h.rrp]
  split_ifs
  exacts [h, h.joinTail e, (dropped.mapRrp _).joinTail e, dropped]
end

/-- A withdrawal of coordination frames is nothing to the result reporter. -/
theorem State.withdrawFrames_sameReporter (s : State) (p : CoordFrame → Bool) : s.SameReporter (s.withdrawFrames p) := by
  refine ⟨by simp, by simp, ?_, by simp, by simp⟩
  simp only [State.withdrawFrames, State.mapBli, Bli.withdraw, Bli.refill]
  split
  · rw [Option.any_map]
    rfl
  · rfl

/-! ### The tally (R63) -/

theorem Tally.worstWith_after (w : Option Worst) (d : Nat) (ch : Channel) (r : Option OutcomeRecord) :
    Worst.After w d ch r (Tally.worstWith w d ch r) := by
  cases r with
  | none => exact ⟨by rintro _ ⟨_, ⟨⟩, _⟩, fun _ => rfl⟩
  | some x =>
    cases hx : x.outcome.isInvalid with
    | true =>
      refine ⟨?_, fun _ => by simp only [Tally.worstWith, hx]⟩
      rintro _ ⟨_, ⟨⟩, hvalid, _⟩
      exact absurd (hx.symm.trans hvalid) Bool.noConfusion
    | false =>
      cases hm : x.mean with
      | none =>
        refine ⟨?_, fun _ => by simp only [Tally.worstWith, hx, hm]⟩
        rintro m ⟨_, ⟨⟩, -, hmean, -⟩
        exact absurd (hm.symm.trans hmean) (Option.some_ne_none m).symm
      | some m =>
        cases w with
        | none =>
          refine ⟨?_, fun none_takes => absurd ⟨x, rfl, hx, hm, by simp⟩ (none_takes m)⟩
          rintro m' ⟨_, ⟨⟩, -, hm', -⟩
          obtain rfl := Option.some.inj (hm.symm.trans hm')
          simp only [Tally.worstWith, hx, hm]
        | some old =>
          have greater : Tally.worstWith (some old) d ch (some x) =
              if old.mean.natAbs < m.natAbs then some ⟨d, ch, m⟩ else some old := by simp only [Tally.worstWith, hx, hm]
          rw [greater]
          constructor
          · rintro m' ⟨_, ⟨⟩, -, hm', hlt⟩
            obtain rfl := Option.some.inj (hm.symm.trans hm')
            exact if_pos (hlt old rfl)
          · exact fun none_takes => if_neg fun hlt => none_takes m ⟨x, rfl, hx, hm, by rintro _ ⟨⟩; exact hlt⟩

theorem Tally.add_gains (t : Tally) (d : Nat) (kind : Kind) (recs : PerChan (Option OutcomeRecord)) (v : PointVerdict) (dev : Deviation) :
    t.Gains (t.add d kind recs v dev) d kind recs v dev where
  run := rfl
  passed := by simp only [Tally.add, bump, ite_and]
  failed := by simp only [Tally.add, bump, ite_and]
  invalid := by simp only [Tally.add, bump, ite_and]
  agreed h := by
    cases dev with
    | disagree m x => exact absurd rfl (h m x)
    | _ => rfl
  disagreed m x h := by
    subst h
    rfl
  worst h := ⟨_, Tally.worstWith_after .., by simp only [Tally.add, if_pos h]; exact Tally.worstWith_after ..⟩
  kept h := if_neg h
  firstFail := rfl

/-! ### The next step of the chain (R75 to R77, R81, R125) -/

section
variable (s : State)

theorem State.planFault_reportsOn (c : PlanCause) : s.ReportsOn (s.planFault c) :=
  (s.raise_reportsOn (by decide)).trans ((State.withdrawRun_planFault_reportsOn _).from_eq rfl rfl)

/-- A take-up leaves the station as it was, or faults (R76, R77). -/
theorem State.judgeTakeUp_cases : s.judgeTakeUp = s ∨ ∃ c, s.judgeTakeUp = s.planFault c := by
  unfold State.judgeTakeUp
  split
  · exact .inl rfl
  · exact .inr ⟨_, rfl⟩

/-- At a run end the station seals, or has finished (R125). -/
theorem State.endRun_runState : s.endRun.rsq.runState = .sealing ∨ s.endRun.rsq.runState = .finished := by
  unfold State.endRun
  dsimp only
  split_ifs
  exacts [(State.enterSealing_storeReports _).sealing_or_finished rfl, .inr rfl, .inr rfl]

theorem State.handRecord_storeReports : s.StoreReports s.handRecord := s.askStore_storeReports _

theorem State.endRun_reportsOn : s.ReportsOn s.endRun := by
  have handed : s.ReportsOn (s.mapRsq fun q => { q with verdict := some s.rsq.tally.verdict, phase := .none }).handRecord :=
    (State.handRecord_storeReports _).toReportsOn.from_eq rfl rfl
  unfold State.endRun
  dsimp only
  split_ifs
  exacts [(State.enterSealing_storeReports _).toReportsOn.from_eq rfl rfl, handed.trans (.of_eq rfl rfl), handed.trans (.of_eq rfl rfl)]

/-- The station in WAIT_LOAD for a point, before the descriptor is judged (R75). -/
def State.waitsFor (s : State) (n d : Nat) : State :=
  s.mapRsq fun q => { q with runState := .waitLoad, phase := .none, seq := n, desc := d }

theorem State.enterWaitLoad_cases (n d : Nat) :
    s.enterWaitLoad n d = s.waitsFor n d ∨ ∃ c, s.enterWaitLoad n d = (s.waitsFor n d).planFault c :=
  (s.waitsFor n d).judgeTakeUp_cases

theorem State.enterWaitLoad_reportsOn (n d : Nat) : s.ReportsOn (s.enterWaitLoad n d) := by
  rcases s.enterWaitLoad_cases n d with waits | ⟨c, faults⟩
  · exact waits ▸ .of_eq rfl rfl
  · exact faults ▸ (State.planFault_reportsOn _ c).from_eq rfl rfl

theorem State.enterWaitLoad_runState (n d : Nat) :
    (s.enterWaitLoad n d).rsq.runState = .waitLoad ∨ (s.enterWaitLoad n d).rsq.runState = .faulted := by
  rcases s.enterWaitLoad_cases n d with waits | ⟨c, faults⟩
  · exact .inl (waits ▸ rfl)
  · exact .inr (faults ▸ rfl)

theorem State.planFault_barrier (c : PlanCause) : (s.planFault c).rsq.barrier = .stopped := by
  rw [State.planFault, State.withdrawRun_planFault]
  simp

theorem State.enterWaitLoad_barrier (n d : Nat) (h : s.rsq.barrier = .stopped) : (s.enterWaitLoad n d).rsq.barrier = .stopped := by
  rcases s.enterWaitLoad_cases n d with waits | ⟨c, faults⟩
  · exact waits ▸ h
  · exact faults ▸ State.planFault_barrier _ c

theorem State.planFault_rosterAt (c : PlanCause) {y : Nat} (h : y ≠ s.sys.address) :
    rosterAt (s.planFault c).rsq.roster y = rosterAt s.rsq.roster y := by
  refine (State.withdrawRun_rosterAt _ .planFault ?_).trans ?_
  · simpa using h
  · simp

theorem State.enterWaitLoad_rosterAt (n d : Nat) {y : Nat} (h : y ≠ s.sys.address) :
    rosterAt (s.enterWaitLoad n d).rsq.roster y = rosterAt s.rsq.roster y := by
  rcases s.enterWaitLoad_cases n d with waits | ⟨c, faults⟩
  · rw [waits, State.waitsFor, State.mapRsq_rsq]
  · exact faults ▸ State.planFault_rosterAt (s.waitsFor n d) c h

variable (n : NextStep)

theorem State.followStep_reportsOn : s.ReportsOn (s.followStep n) := by
  cases n with
  | runEnd => exact s.endRun_reportsOn
  | paused => exact .of_eq rfl rfl
  | takeUp d => exact s.enterWaitLoad_reportsOn _ d

theorem State.followStep_runState :
    (s.followStep n).rsq.runState ∈ [RunState.sealing, .finished, .paused, .waitLoad, .faulted] := by
  cases n with
  | runEnd => rcases s.endRun_runState with h | h <;> simp only [State.followStep, h] <;> decide
  | paused => exact List.mem_of_elem_eq_true rfl
  | takeUp d => rcases s.enterWaitLoad_runState (s.rsq.seq + 1) d with h | h <;> simp only [State.followStep, h] <;> decide

theorem State.followStep_barrier (h : s.rsq.barrier = .stopped) : (s.followStep n).rsq.barrier = .stopped := by
  cases n with
  | runEnd => simpa [State.followStep] using h
  | paused => exact h
  | takeUp d => exact s.enterWaitLoad_barrier _ d h

theorem State.followStep_rosterAt {y : Nat} (h : y ≠ s.sys.address) :
    rosterAt (s.followStep n).rsq.roster y = rosterAt s.rsq.roster y := by
  cases n with
  | runEnd => simp [State.followStep]
  | paused => rfl
  | takeUp d => exact s.enterWaitLoad_rosterAt _ d h
end

/-! ### The barrier close (R117) -/

section
variable (s : State)

/-- The records after the deviation (R61). -/
def State.closeRecords (s : State) : PerChan (Option OutcomeRecord) := afterDeviation s.deviation s.maskRecords

/-- The point entry of a barrier close (R49). -/
def State.closeEntry (s : State) : Entry := .point (s.pointEntry s.closeRecords (pointVerdict s.closeRecords) s.deviation)

/-- The station as the barrier closes, at the moment the point entry is handed on: its timer stopped, its LAPSEs of the point gone and the
completion written back (R117, steps 1 to 3). -/
def State.beforeHandOn (s : State) : State :=
  ((s.mapRsq fun q => { q with barrier := .stopped, received := s.closeRecords }).withdrawFrames
    (isLapseOf s.runNumber s.rsq.seq)).writeBack (pointVerdict s.closeRecords)

/-- The station with its point closed, before the next step of the chain (R117, steps 1 to 4). -/
def State.pointClosed (s : State) : State :=
  ((s.beforeHandOn.handEntry s.closeEntry).mapRsq fun q => { q with
    tally := q.tally.add s.rsq.desc s.current.kind s.closeRecords (pointVerdict s.closeRecords) s.deviation }).mapPlt
      fun p => { p with loop := p.loopAfter s.current }

theorem State.closeBarrier_eq :
    s.closeBarrier = s.pointClosed.followStep (s.plt.nextStep s.rsq.seq s.rsq.desc s.current) := rfl

theorem State.beforeHandOn_sameReporter : s.SameReporter s.beforeHandOn := by
  obtain ⟨hrrp, hreport, hsending, hstate, hsys⟩ := State.withdrawFrames_sameReporter
    (s.mapRsq fun q => { q with barrier := .stopped, received := s.closeRecords }) (isLapseOf s.runNumber s.rsq.seq)
  refine ⟨?_, ?_, ?_, ?_, ?_⟩ <;> simp only [State.beforeHandOn, State.writeBack_frame]
  exacts [hrrp, hreport, hsending, hstate, hsys]

theorem State.pointClosed_handsOn : (s.handEntry s.closeEntry).SameReporter s.pointClosed := by
  obtain ⟨hrrp, hreport, hsending, hstate, hsys⟩ := s.beforeHandOn_sameReporter.handEntry s.closeEntry
  exact ⟨hrrp, hreport, hsending, hstate, hsys⟩

@[simp] theorem State.pointClosed_sys : s.pointClosed.sys = s.sys := by simp [State.pointClosed, State.beforeHandOn]
@[simp] theorem State.pointClosed_roster : s.pointClosed.rsq.roster = s.rsq.roster := by simp [State.pointClosed, State.beforeHandOn]
@[simp] theorem State.pointClosed_barrier : s.pointClosed.rsq.barrier = .stopped := by simp [State.pointClosed, State.beforeHandOn]
@[simp] theorem State.pointClosed_tally : s.pointClosed.rsq.tally =
    s.rsq.tally.add s.rsq.desc s.current.kind s.closeRecords (pointVerdict s.closeRecords) s.deviation := by
  simp [State.pointClosed, State.beforeHandOn]

theorem State.closeBarrier_reportsOn : s.ReportsOn s.closeBarrier := by
  refine (s.handEntry_reportsOn s.closeEntry).trans ((State.followStep_reportsOn _ _).from_eq ?_ ?_)
  · exact congrArg Rrp.flags s.pointClosed_handsOn.rrp
  · exact s.pointClosed_handsOn.report

theorem State.closeBarrier_runState :
    s.closeBarrier.rsq.runState ∈ [RunState.sealing, .finished, .paused, .waitLoad, .faulted] := State.followStep_runState _ _

theorem State.closeBarrier_barrier : s.closeBarrier.rsq.barrier = .stopped := State.followStep_barrier _ _ (by simp)

theorem State.closeBarrier_rosterAt {y : Nat} (h : y ≠ s.sys.address) :
    rosterAt s.closeBarrier.rsq.roster y = rosterAt s.rsq.roster y :=
  (State.followStep_rosterAt _ _ (by simpa using h)).trans (by simp)

/-- The next step of the chain leaves the result queue, its counts, settings and timer. -/
theorem State.followStep_rrp (n : NextStep) :
    (s.followStep n).rrp = { s.rrp with flags := (s.followStep n).rrp.flags, statusDue := (s.followStep n).rrp.statusDue } := by
  have eta (a b : Rrp) (h : (a.queue, a.tq, a.td, a.delay, a.call, a.drops, a.mask, a.lastRefusal) =
      (b.queue, b.tq, b.td, b.delay, b.call, b.drops, b.mask, b.lastRefusal)) :
      a = { b with flags := a.flags, statusDue := a.statusDue } := by
    cases a
    cases b
    simp_all
  exact eta _ _ (by simp)

/-- A barrier close hands on the point entry and adds the point to the tally (R49, R63). -/
theorem State.closeBarrier_closesPoint : s.ClosesPoint s.closeBarrier where
  entry := by
    have handedOn := s.pointClosed_handsOn
    have after := s.pointClosed.followStep_reportsOn (s.plt.nextStep s.rsq.seq s.rsq.desc s.current)
    have hrrp := s.pointClosed.followStep_rrp (s.plt.nextStep s.rsq.seq s.rsq.desc s.current)
    rw [← s.closeBarrier_eq, handedOn.rrp] at hrrp
    rw [← s.closeBarrier_eq] at after
    exact ⟨hrrp, fun e he => after.raised e (handedOn.rrp ▸ he),
      (List.prefix_iff_eq_take.1 (handedOn.report ▸ after.frames)).symm⟩
  tally := by
    have htally : s.closeBarrier.rsq.tally = s.pointClosed.rsq.tally := by rw [s.closeBarrier_eq]; simp
    rw [htally, s.pointClosed_tally]
    exact Tally.add_gains ..

/-- What a barrier close hands on stands through the relighting of the lamps (R65). -/
theorem State.ClosesPoint.relamp {s t : State} (h : s.ClosesPoint t) : s.ClosesPoint t.relamp where
  entry := by simpa only [State.relamp_frame] using h.entry
  tally := by simpa only [State.relamp_frame] using h.tally

theorem State.testBarrier_closes (hs : s.rsq.runState = .barrier) (hm : s.barrierMet = true) : s.testBarrier = s.closeBarrier :=
  if_pos ⟨hs, hm⟩

theorem State.testBarrier_stays (h : ¬ (s.rsq.runState = .barrier ∧ s.barrierMet = true)) : s.testBarrier = s := if_neg h
end

end Sys2Proof.Machine
end

section
/-! PROOFS. A DONE heard from a peer (R114 to R116): the entry it leaves, whether it shows the bench ahead, and what follows. -/

namespace Sys2Proof.Machine

/-! ### The entry of the peer (R114) -/

/-- A peer's entry after its DONE for a point: as it was if it had reached the point already. -/
def RosterEntry.heardDone (e : RosterEntry) (n : Nat) (figure : Option Nat) : RosterEntry :=
  if e.reached n then e else { e with lastDone := some n, figure := figure, unheard := 0 }

/-- The station with one roster entry in place of another. -/
def State.withEntry (s : State) (x : Nat) (e : RosterEntry) : State := s.mapRsq fun q => { q with roster := q.roster.set (x - 1) e }

theorem RosterEntry.heardDone_reached (e : RosterEntry) (n : Nat) (figure : Option Nat) : (e.heardDone n figure).reached n = true := by
  unfold RosterEntry.heardDone
  split
  · assumption
  · simp [RosterEntry.reached]

section
variable {s : State} {x : Nat} (hx : 1 ≤ x) (e : RosterEntry)
include hx

theorem State.rosterAt_withEntry_of_ne {y : Nat} (hy : y ≠ x) : rosterAt (s.withEntry x e).rsq.roster y = rosterAt s.rsq.roster y := by
  rw [State.withEntry, State.mapRsq_rsq, ← rosterSet_eq_set _ _ hx]
  exact rosterAt_rosterSet_of_ne _ _ hy

theorem State.rosterAt_withEntry_self (hl : x ≤ s.rsq.roster.length) : rosterAt (s.withEntry x e).rsq.roster x = e := by
  rw [State.withEntry, State.mapRsq_rsq, ← rosterSet_eq_set _ _ hx, rosterAt_set _ _ _ _ hx hl, if_pos rfl]

/-- Another station's entry is nothing to the lamps (R65). -/
theorem State.withEntry_lampsFollow (hown : x ≠ s.sys.address) (h : s.LampsFollow) : (s.withEntry x e).LampsFollow := by
  have own : (s.withEntry x e).ownEntry = s.ownEntry := State.rosterAt_withEntry_of_ne hx e (Ne.symm hown)
  have drives : (s.withEntry x e).lampDrives = s.lampDrives := by
    unfold State.lampDrives
    rw [own]
    rfl
  exact h.trans drives.symm

/-- The barrier's condition once the peer `x` is there: no other enrolled entry is behind (R116). -/
theorem State.withEntry_barrierMet_iff (hl : s.rsq.roster.length = 60) (hx60 : x ≤ 60) (he : e.reached s.rsq.seq = true) :
    (s.withEntry x e).barrierMet = true ↔ ∀ y, 1 ≤ y → y ≤ 60 → y ≠ x → (rosterAt s.rsq.roster y).status = .enrolled →
      (rosterAt s.rsq.roster y).reached s.rsq.seq = true := by
  rw [State.barrierMet_iff _ ((List.length_set ..).trans hl)]
  constructor
  · intro met y hy hy60 hyx
    have at_y := met y hy hy60
    rwa [State.rosterAt_withEntry_of_ne hx e hyx] at at_y
  · intro others y hy hy60
    rcases eq_or_ne y x with rfl | hyx
    · rw [State.rosterAt_withEntry_self hx e (hl ▸ hx60)]
      exact fun _ => he
    · rw [State.rosterAt_withEntry_of_ne hx e hyx]
      exact others y hy hy60 hyx
end

/-- Another enrolled entry that is behind keeps the barrier (R116). -/
theorem State.withEntry_not_barrierMet {s : State} {x y : Nat} (hx : 1 ≤ x) (e : RosterEntry) (hl : s.rsq.roster.length = 60)
    (hy : 1 ≤ y) (hy60 : y ≤ 60) (hyx : y ≠ x) (enrolled : (rosterAt s.rsq.roster y).status = .enrolled)
    (behind : (rosterAt s.rsq.roster y).reached s.rsq.seq = false) : ¬ (s.withEntry x e).barrierMet = true := by
  rw [State.barrierMet_iff _ ((List.length_set ..).trans hl)]
  intro met
  have at_y := met y hy hy60
  rw [State.rosterAt_withEntry_of_ne hx e hyx] at at_y
  exact Bool.false_ne_true (behind.symm.trans (at_y enrolled))

/-! ### A DONE that is taken (R105, R109, R114, R115) -/

/-- Does a DONE for point `n` show the bench ahead of the station (R115)? -/
def State.BenchAhead (s : State) (n : Nat) : Prop :=
  (s.rsq.runState = .waitLoad ∧ s.rsq.seq ≤ n) ∨
    ((s.rsq.runState = .settling ∨ s.rsq.runState = .measuring ∨ s.rsq.runState = .barrier ∨ s.rsq.runState = .paused) ∧
      s.rsq.seq < n)

theorem State.behindDone_iff (s : State) (n : Nat) : s.behindDone n = true ↔ s.BenchAhead n := by
  unfold State.behindDone State.BenchAhead
  cases s.rsq.runState <;> simp

theorem RunState.ne_of_takesRoster {r r' : RunState} (h : r.takesRoster = true) (h' : r'.takesRoster = false) : r ≠ r' :=
  fun he => Bool.false_ne_true (h'.symm.trans (he ▸ h))

section
variable {s : State} {x n : Nat} {fig : Option Nat} (hx : 1 ≤ x) (henrolled : (rosterAt s.rsq.roster x).status = .enrolled)
include hx henrolled

theorem State.hearDone_enrolled : s.hearDone x n fig =
    let s1 := s.withEntry x ((rosterAt s.rsq.roster x).heardDone n fig)
    if s.behindDone n then s1.withdrawRun .outOfStep else if (rosterAt s.rsq.roster x).reached n then s1 else s1.testBarrier := by
  have recorded : (if (rosterAt s.rsq.roster x).reached n then s
      else s.mapEntry x fun e => { e with lastDone := some n, figure := fig, unheard := 0 }) =
      s.withEntry x ((rosterAt s.rsq.roster x).heardDone n fig) := by
    unfold RosterEntry.heardDone State.withEntry
    split
    · rw [State.mapRsq, set_rosterAt_self _ hx]
    · simp only [State.mapEntry, rosterSet_eq_set _ _ hx]
      rfl
  unfold State.hearDone
  rw [if_neg (not_not.2 henrolled)]
  dsimp only
  rw [recorded]

theorem State.hearDone_ahead (h : s.BenchAhead n) :
    s.hearDone x n fig = (s.withEntry x ((rosterAt s.rsq.roster x).heardDone n fig)).withdrawRun .outOfStep := by
  rw [State.hearDone_enrolled hx henrolled]
  exact if_pos ((s.behindDone_iff n).2 h)

theorem State.hearDone_inStep (h : ¬ s.BenchAhead n) : s.hearDone x n fig =
    let s1 := s.withEntry x ((rosterAt s.rsq.roster x).heardDone n fig)
    if (rosterAt s.rsq.roster x).reached n then s1 else s1.testBarrier := by
  rw [State.hearDone_enrolled hx henrolled]
  exact if_neg (mt (s.behindDone_iff n).1 h)

/-- A DONE that closes no barrier is recorded, and that is all. -/
theorem State.hearDone_recorded (h : ¬ s.BenchAhead n)
    (hopen : ¬ (s.rsq.runState = .barrier ∧ (s.withEntry x ((rosterAt s.rsq.roster x).heardDone n fig)).barrierMet = true)) :
    s.hearDone x n fig = s.withEntry x ((rosterAt s.rsq.roster x).heardDone n fig) := by
  rw [State.hearDone_inStep hx henrolled h]
  dsimp only
  split
  · rfl
  · exact State.testBarrier_stays _ hopen

/-- A first DONE for the point closes a barrier that waits for no other. -/
theorem State.hearDone_closes (h : ¬ s.BenchAhead n) (hfirst : (rosterAt s.rsq.roster x).reached n = false)
    (hs : s.rsq.runState = .barrier) (hm : (s.withEntry x ((rosterAt s.rsq.roster x).heardDone n fig)).barrierMet = true) :
    s.hearDone x n fig = (s.withEntry x ((rosterAt s.rsq.roster x).heardDone n fig)).closeBarrier := by
  rw [State.hearDone_inStep hx henrolled h]
  dsimp only
  rw [if_neg (Bool.eq_false_iff.1 hfirst)]
  exact State.testBarrier_closes _ hs hm

/-- A DONE that leaves the station in step is recorded, and closes the barrier at most. -/
theorem State.hearDone_inStep_cases (h : ¬ s.BenchAhead n) :
    s.hearDone x n fig = s.withEntry x ((rosterAt s.rsq.roster x).heardDone n fig) ∨
    s.hearDone x n fig = (s.withEntry x ((rosterAt s.rsq.roster x).heardDone n fig)).closeBarrier := by
  rw [State.hearDone_inStep hx henrolled h]
  dsimp only
  split
  · exact .inl rfl
  · by_cases closes : s.rsq.runState = .barrier ∧ (s.withEntry x ((rosterAt s.rsq.roster x).heardDone n fig)).barrierMet = true
    · exact .inr (State.testBarrier_closes _ closes.1 closes.2)
    · exact .inl (State.testBarrier_stays _ closes)
end

/-- A well-formed DONE of the run, from a peer, reaches the roster (R95, R105, R109). -/
theorem exec_done_heard {s : State} {x : BitVec 6} {run n : Half} {mask : Byte} {fig : Option Word} (ht : s.takesFrames = true)
    (h1 : 1 ≤ x.toNat) (h60 : x.toNat ≤ 60) (hown : x.toNat ≠ s.sys.address) (hmask : (Mask.ofCode mask.toNat).isSome = true)
    (hrun : s.rsq.run = some run) (hroster : s.rsq.runState.takesRoster = true) :
    exec (.done x run n mask fig) s = .next (s.hearDone x.toNat n.toNat (fig.map BitVec.toNat)).relamp := by
  have hopen : s.rosterOpen run = true := by simp [State.rosterOpen, State.inRun, hrun, hroster]
  rw [exec_done, execDone, hmask, s.fromPeer_act x _ ht h1 h60 hown, State.takeDone, if_pos hopen]
  rfl

/-! ### The withdrawal with OUT_OF_STEP (R115, R123) -/

section
variable (s : State)

theorem State.withdrawRun_outOfStep_raised : Event.outOfStep.isIn (s.withdrawRun .outOfStep).rrp.flags = true := by
  rw [s.withdrawRun_outOfStep, State.enter_rrp, State.isIn_raise]
  simp

theorem State.withdrawRun_outOfStep_offers (h : s.rsq.runState ≠ .clashed) :
    .withdraw s.runNumber s.rsq.seq .outOfStep ∈
      (s.withdrawRun .outOfStep).bli.coord ++ (s.withdrawRun .outOfStep).bli.waiting := by
  rw [s.withdrawRun_outOfStep]
  simpa only [State.enter_bli, State.raise_frame, State.takeIncomplete_frame] using s.leavesRun_offers .outOfStep h

/-- The record of the run goes to the store as the station withdraws (R123, R157). -/
theorem State.withdrawRun_outOfStep_handsOver {s u : State} {run : Half} (hrun : u.rsq.run = some run) (hrst : u.rst = s.rst) :
    s.HandsOver (u.withdrawRun .outOfStep) (u.incompleteJob run.toNat) := by
  rw [u.withdrawRun_outOfStep]
  refine State.takeIncomplete_handsOver (u := u.leavesRun .outOfStep) (by simpa using hrst) ?_ (by simp) fun full => ?_
  · simp [State.incompleteJob, State.filedJob, hrun]
  · rw [State.enter_rrp, State.isIn_raise, full, Bool.true_or]
end

/-! ### The statement -/

/-- Settles O40: the DONE leaves the entry of `heardDone`, and the withdrawal, the record alone and the barrier close each do what their
lemmas say. -/
theorem doneShowsTheBenchAhead : Obligations.DoneShowsTheBenchAhead := by
  unfold Obligations.DoneShowsTheBenchAhead
  intro s x run n mask fig ht h1 h60 hown hmask hrun hsized hroster henrolled e e' ahead
  have hexec := exec_done_heard (n := n) (fig := fig) ht h1 h60 hown hmask hrun hroster
  have hself : rosterAt (s.withEntry x.toNat e').rsq.roster x.toNat = e' :=
    State.rosterAt_withEntry_self h1 e' (hsized.roster.symm ▸ h60)
  have recorded (follows : s.LampsFollow)
      (hopen : ¬ (s.rsq.runState = .barrier ∧ (s.withEntry x.toNat e').barrierMet = true)) (hin : ¬ ahead) :
      exec (.done x run n mask fig) s = .next (s.withEntry x.toNat e') := by
    rw [hexec, State.hearDone_recorded h1 henrolled hin hopen]
    exact congrArg _ (State.relamp_of_follows _ (State.withEntry_lampsFollow h1 _ hown follows))
  refine ⟨fun hahead => ⟨_, hexec, ?_⟩, fun hin => ⟨_, hexec, ?_⟩, fun hin hstate follows => ?_, fun hin hstate => ⟨?_, ?_⟩⟩
  case refine_1 =>
    rw [State.hearDone_ahead h1 henrolled hahead]
    simp only [State.relamp_frame]
    refine ⟨rfl, State.withdrawRun_outOfStep_raised _, ?_, (State.withdrawRun_rosterAt (s.withEntry x.toNat e') _ hown).trans hself, ?_⟩
    · have offered := (s.withEntry x.toNat e').withdrawRun_outOfStep_offers (RunState.ne_of_takesRoster hroster rfl)
      have hnumber : (s.withEntry x.toNat e').runNumber = run := by simp [State.runNumber, State.withEntry, hrun]
      rwa [hnumber] at offered
    · exact State.HandsOver.relamp (State.withdrawRun_outOfStep_handsOver (u := s.withEntry x.toNat e') hrun rfl)
  case refine_2 =>
    simp only [State.relamp_frame]
    rcases State.hearDone_inStep_cases (fig := fig.map BitVec.toNat) h1 henrolled hin with heard | heard <;> rw [heard]
    · exact ⟨RunState.ne_of_takesRoster hroster rfl, rfl, hself⟩
    · refine ⟨fun withdrawn => ?_, (State.closeBarrier_reportsOn _).inStep,
        (State.closeBarrier_rosterAt (s.withEntry x.toNat e') hown).trans hself⟩
      exact absurd (withdrawn ▸ State.closeBarrier_runState _) (by decide)
  case refine_3 => exact recorded follows (fun closes => hstate closes.1) hin
  case refine_4 =>
    rintro ⟨y, hy, hy60, hyx, enrolled, behind⟩ follows
    exact recorded follows
      (fun closes => State.withEntry_not_barrierMet h1 e' hsized.roster hy hy60 hyx enrolled behind closes.2) hin
  case refine_5 =>
    intro others hfirst hpoint
    have there : e'.reached s.rsq.seq = true := hpoint ▸ e.heardDone_reached n.toNat (fig.map BitVec.toNat)
    have met := (State.withEntry_barrierMet_iff h1 e' hsized.roster h60 there).2 others
    rw [hexec, State.hearDone_closes h1 henrolled hin hfirst hstate met]
    refine ⟨_, rfl, ?_, ?_, (State.closeBarrier_closesPoint _).relamp⟩ <;> simp only [State.relamp_frame]
    · exact fun stays => absurd (stays ▸ State.closeBarrier_runState _) (by decide)
    · exact State.closeBarrier_barrier _

end Sys2Proof.Machine
end

section
/-! PROOFS. An EVENT CLEAR taken by the result reporter (R136). -/

namespace Sys2Proof.Machine

/-- The result reporter's items are nothing to the lamps (R65). -/
theorem State.mapRrp_lampsFollow {s : State} (f : Rrp → Rrp) (h : s.LampsFollow) : (s.mapRrp f).LampsFollow :=
  h.trans (s.lampDrives_congr (s.mapRrp f) rfl rfl rfl rfl).symm

/-- Settles O42: a station that takes frames hands the command to the result reporter, whose items no lamp depends on, so that nothing
is relit after it. -/
theorem eventClearClearsAndMasks : Obligations.EventClearClearsAndMasks := by
  intro s clear mask takes follows
  rw [exec_eventClear, execEventClear, s.taken_act _ takes, State.takeEventClear]
  exact State.finish_of_follows _ (State.mapRrp_lampsFollow _ follows)

end Sys2Proof.Machine
end

section
/-! PROOFS. A RECORD MARK judged by the record store (R156, R158, R161). -/

namespace Sys2Proof.Machine

/-- The store's items are nothing to the lamps (R65). -/
theorem State.mapRst_lampsFollow {s : State} (f : Rst → Rst) (h : s.LampsFollow) : (s.mapRst f).LampsFollow :=
  h.trans (s.lampDrives_congr (s.mapRst f) rfl rfl rfl rfl).symm

theorem State.storeBusy_iff (s : State) : s.storeBusy = true ↔ s.rst.op ≠ none ∨ s.rst.waiting ≠ [] := by
  simp [State.storeBusy, Option.isSome_iff_ne_none]

/-- RECORD MARK fits a slot that is not EMPTY: by its record's number while it is valid, and by 0 once it is DAMAGED (R161). -/
theorem State.markMatches_iff (s : State) (n : Nat) (q : Half) : s.markMatches n q.toNat = true ↔
    (s.slot n).isEmpty = false ∧
      ((s.isDamaged n = false ∧ (s.slot n).number = q.toNat ∧ q ≠ 0) ∨ (s.isDamaged n = true ∧ q = 0)) := by
  have hzero : q.toNat = 0 ↔ q = 0 := BitVec.toNat_inj (x := q) (y := 0)
  cases hempty : (s.slot n).isEmpty with
  | true => simp [State.markMatches, hempty]
  | false =>
    cases hdamaged : s.isDamaged n with
    | true => simp [State.markMatches, hempty, hdamaged, hzero]
    | false => simp [State.markMatches, hempty, hdamaged, hzero, and_comm]

section
variable {s : State}

/-- A mark that the seal unit did not ask for and that is programmed already changes nothing of an idle store (R158). -/
theorem State.askStore_programmed {n : Nat} {m : Mark} (ho : s.rst.op = none) (hw : s.rst.waiting = [])
    (hm : (s.slot n).hasMark m = true) : s.askStore (.mark n m false) = s := by
  have nothing : s.startList [] = s := by
    have h := s.startNext_of_none hw
    rwa [State.startNext, if_neg (by simp [ho]), hw] at h
  simpa [s.askStore_idle _ ho hw, s.beginRequest_mark, hm] using nothing

theorem State.markRecord_busy {n q : Nat} (h : s.storeBusy = true) : s.markRecord n q = s.refuse kindRecordMark .busy :=
  if_pos h

theorem State.markRecord_mismatch {n q : Nat} (h : s.storeBusy = false) (hq : s.markMatches n q = false) :
    s.markRecord n q = s.refuse kindRecordMark .mismatch := by simp [State.markRecord, h, hq]

theorem State.markRecord_taken {n q : Nat} (h : s.storeBusy = false) (hq : s.markMatches n q = true) :
    s.markRecord n q = s.askStore (.mark n .exported false) := by simp [State.markRecord, h, hq]

/-- A station that takes frames hands a RECORD MARK to the store; where the lamps follow what that leaves, nothing is relit. -/
theorem execRecordMark_eq {t : State} {n : Byte} {q : Half} (takes : s.takesFrames = true) (slot : n.toNat < 32)
    (judged : s.markRecord n.toNat q.toNat = t) (follows : t.LampsFollow) : exec (.recordMark n q) s = .next t := by
  rw [exec_recordMark, execRecordMark, decide_eq_true slot, s.taken_act _ takes, judged]
  exact t.finish_of_follows follows
end

/-- Settles O51: the judgement of the command, branch by branch. What it leaves is the reporter's or the store's, on which no lamp
depends. -/
theorem recordMarkReleasesTheNamedRecord : Obligations.RecordMarkReleasesTheNamedRecord := by
  intro s n q takes follows slot
  refine ⟨fun busy => ?_, fun hop hwaiting => ?_⟩
  · exact execRecordMark_eq takes slot (State.markRecord_busy (s.storeBusy_iff.2 busy)) (State.mapRrp_lampsFollow _ follows)
  have idle : s.storeBusy = false := by simp [State.storeBusy, hop, hwaiting]
  refine ⟨fun misfit => ?_, fun fits unmarked => ?_, fun fits marked => ?_⟩
  · have mismatch := Bool.eq_false_iff.2 (mt (s.markMatches_iff n.toNat q).1 misfit)
    exact execRecordMark_eq takes slot (State.markRecord_mismatch idle mismatch) (State.mapRrp_lampsFollow _ follows)
  · have named := (s.markMatches_iff n.toNat q).2 fits
    have begins := s.askStore_begins n.toNat .exported false hop hwaiting unmarked
    exact execRecordMark_eq takes slot ((State.markRecord_taken idle named).trans begins) (State.mapRst_lampsFollow _ follows)
  · have named := (s.markMatches_iff n.toNat q).2 fits
    have unchanged := State.askStore_programmed (m := .exported) hop hwaiting marked
    exact execRecordMark_eq takes slot ((State.markRecord_taken idle named).trans unchanged) follows

end Sys2Proof.Machine
end

section
/-! PROOFS. What every command keeps, said once for each shared operation: the sizes of the tables, the bounds of the queues, the silence of
a clashed station, and the course of a run, which only goes forward. -/

set_option Elab.async false

namespace Sys2Proof.Machine

/-- A clashed station that holds no frame to send, sends none, and stands in no point (R99, R167). -/
def State.Silent (s : State) : Prop :=
  s.rsq.runState = .clashed ∧ s.bli.coord = [] ∧ s.bli.report = [] ∧ s.bli.waiting = [] ∧ s.bli.attempt = none ∧ s.rsq.phase = .none

/-- The status of an entry that has left the run. -/
def PeerStatus.left (st : PeerStatus) : Prop := st = .lapsed ∨ st = .withdrawn

/-- From `s` to `t` every table keeps its size and every queue its bound, nothing leaves the reporting part or the receive buffer, a clashed
station stays silent, and within the run neither H nor the sequence number falls and no entry comes back (R98, R99, R105, R109, R116). -/
structure State.Proceeds (s t : State) : Prop where
  plan : s.plt.plan.length = 48 → t.plt.plan.length = 48
  roster : t.rsq.roster.length = s.rsq.roster.length
  slots : t.rst.slots.length = s.rst.slots.length
  damaged : t.rst.damaged.length = s.rst.damaged.length
  coordination : s.bli.coord.length ≤ 6 → t.bli.coord.length ≤ 6
  reporting : s.bli.report.length ≤ 4 → t.bli.report.length ≤ 4
  reports : s.bli.report.length ≤ t.bli.report.length
  buffer : t.bli.buffer = s.bli.buffer
  results : s.rrp.queue.length ≤ 16 → t.rrp.queue.length ≤ 16
  requests : s.rst.waiting.length ≤ 8 → t.rst.waiting.length ≤ 8
  voids : s.seu.voids.length ≤ 8 → t.seu.voids.length ≤ 8
  clashed : t.rsq.runState = .clashed → s.rsq.runState = .clashed
  silent : s.Silent → t.Silent
  run : t.rsq.run = s.rsq.run
  reset : t.sys.inReset = s.sys.inReset
  address : t.sys.address = s.sys.address
  watermark : s.seu.watermark ≤ t.seu.watermark
  seq : s.rsq.runState = .enrolling ∨ s.rsq.seq ≤ t.rsq.seq
  starts : t.rsq.runState = .enrolling → s.rsq.runState = .enrolling ∧ t.rsq.seq = s.rsq.seq
  peers : ∀ x, (rosterAt s.rsq.roster x).status.left → x ≠ s.sys.address →
    (rosterAt t.rsq.roster x).status = (rosterAt s.rsq.roster x).status
  own : s.ownEntry.status.left → s.rsq.runState = .enrolling ∨ t.ownEntry.status.left

section
variable {s t u : State}

theorem State.Proceeds.refl (s : State) : s.Proceeds s := by constructor <;> simp +contextual

theorem State.Proceeds.trans (h1 : s.Proceeds t) (h2 : t.Proceeds u) : s.Proceeds u where
  plan h := h2.plan (h1.plan h)
  roster := h2.roster.trans h1.roster
  slots := h2.slots.trans h1.slots
  damaged := h2.damaged.trans h1.damaged
  coordination h := h2.coordination (h1.coordination h)
  reporting h := h2.reporting (h1.reporting h)
  reports := h1.reports.trans h2.reports
  buffer := h2.buffer.trans h1.buffer
  results h := h2.results (h1.results h)
  requests h := h2.requests (h1.requests h)
  voids h := h2.voids (h1.voids h)
  clashed h := h1.clashed (h2.clashed h)
  silent h := h2.silent (h1.silent h)
  run := h2.run.trans h1.run
  reset := h2.reset.trans h1.reset
  address := h2.address.trans h1.address
  watermark := h1.watermark.trans h2.watermark
  seq := by
    rcases h1.seq with h | h
    · exact .inl h
    · exact h2.seq.imp (fun e => (h1.starts e).1) h.trans
  starts h := ⟨(h1.starts (h2.starts h).1).1, (h2.starts h).2.trans (h1.starts (h2.starts h).1).2⟩
  peers x h hx := by
    have ht := h1.peers x h hx
    exact (h2.peers x (ht ▸ h) (h1.address ▸ hx)).trans ht
  own h := (h1.own h).elim .inl fun ht => (h2.own ht).imp (fun e => (h1.starts e).1) id

/-- Where the roster, the run state and the queues stand as before, nothing of this moves. -/
theorem State.Proceeds.of_eq (plan : s.plt.plan.length = 48 → t.plt.plan.length = 48 := by simp)
    (slots : t.rst.slots.length = s.rst.slots.length := by simp) (damaged : t.rst.damaged.length = s.rst.damaged.length := by simp)
    (coord : t.bli.coord = s.bli.coord := by simp) (report : t.bli.report = s.bli.report := by simp)
    (waiting : t.bli.waiting = s.bli.waiting := by simp) (attempt : t.bli.attempt = s.bli.attempt := by simp)
    (buffer : t.bli.buffer = s.bli.buffer := by simp) (queue : t.rrp.queue = s.rrp.queue := by simp)
    (requests : t.rst.waiting = s.rst.waiting := by simp) (voids : s.seu.voids.length ≤ 8 → t.seu.voids.length ≤ 8 := by simp)
    (state : t.rsq.runState = s.rsq.runState := by simp) (phase : t.rsq.phase = s.rsq.phase := by simp)
    (run : t.rsq.run = s.rsq.run := by simp) (seq : t.rsq.seq = s.rsq.seq := by simp)
    (roster : t.rsq.roster = s.rsq.roster := by simp) (sys : t.sys.inReset = s.sys.inReset := by simp)
    (address : t.sys.address = s.sys.address := by simp) (watermark : s.seu.watermark ≤ t.seu.watermark := by simp) : s.Proceeds t := by
  constructor <;> simp +contextual [State.Silent, State.ownEntry, *]

/-- A change of the transmit queue that keeps its bounds, and that is none in a station that is silent. -/
theorem State.Proceeds.of_line (coord : s.bli.coord.length ≤ 6 → t.bli.coord.length ≤ 6)
    (report : s.bli.report.length ≤ t.bli.report.length) (bound : s.bli.report.length ≤ 4 → t.bli.report.length ≤ 4)
    (silent : s.Silent → t.bli.coord = [] ∧ t.bli.report = [] ∧ t.bli.waiting = [] ∧ t.bli.attempt = none)
    (queue : s.rrp.queue.length ≤ 16 → t.rrp.queue.length ≤ 16) (buffer : t.bli.buffer = s.bli.buffer := by simp)
    (plt : t.plt = s.plt := by simp) (rst : t.rst = s.rst := by simp) (seu : t.seu = s.seu := by simp) (rsq : t.rsq = s.rsq := by simp)
    (sys : t.sys = s.sys := by simp) : s.Proceeds t := by
  have quiet : s.Silent → t.Silent := fun h => by
    obtain ⟨h1, h2, h3, h4⟩ := silent h
    exact ⟨rsq ▸ h.1, h1, h2, h3, h4, rsq ▸ h.2.2.2.2.2⟩
  constructor <;> simp +contextual [State.ownEntry, *]

end

end Sys2Proof.Machine
end

section
/-! PROOFS. The few ways in which the run state, the claim, the press and the record store change (chapters 7, 9 and 10). -/

set_option Elab.async false

namespace Sys2Proof.Machine

/-- The station is in a run without a verdict, or at a point. -/
def State.InCourse (s : State) : Prop :=
  s.rsq.runState.inPoints = true ∨ s.rsq.runState = .enrolling ∨ s.rsq.phase = .settling ∨ s.rsq.phase = .measuring

/-- The own entry of a station that may yet enrol (R107, R111). -/
def State.OwnOpen (s : State) : Prop := s.ownEntry.status = .absent ∨ s.ownEntry.status = .enrolled

/-- From `s` to `t` the store stands and the claim with it, PRESS is not driven anew, and the run state changes only out of a run, or back
to IDLE. -/
structure State.Moves (s t : State) : Prop extends s.Proceeds t where
  claim : t.seu.claim.state = s.seu.claim.state ∧ t.seu.claim.serial = s.seu.claim.serial ∧
    t.seu.claim.confirmed = s.seu.claim.confirmed ∧ t.seu.claim.slot = s.seu.claim.slot
  press : t.seu.press = true → s.seu.press = true
  cells : t.rst.slots = s.rst.slots
  store : t.rst.op = s.rst.op ∧ t.rst.waiting = s.rst.waiting ∧ t.rst.reservation = s.rst.reservation ∧
    t.rst.reserveAsked = s.rst.reserveAsked
  course : t.rsq.runState = s.rsq.runState ∨ s.InCourse ∧ t.rsq.runState ≠ .sealing ∨ t.rsq.runState = .idle ∧
    (s.rsq.runState = .finished ∨ s.rsq.runState = .withdrawn ∨ s.rsq.runState = .faulted)
  phase : t.rsq.phase = .settling ∨ t.rsq.phase = .measuring → (t.rsq.runState = .settling ∨ t.rsq.runState = .measuring) ∨
    (s.rsq.phase = .settling ∨ s.rsq.phase = .measuring) ∧
      (t.rsq.runState = s.rsq.runState ∨ ¬ (s.rsq.runState = .settling ∨ s.rsq.runState = .measuring))

/-- What a step can do between two of its commands, the resets and RUN OPEN apart. -/
inductive State.Act : State → State → Prop
  /-- The store and the claim stand. -/
  | moves {s t : State} (h : s.Moves t) (own : t.rsq.runState = .enrolling → s.OwnOpen → t.OwnOpen) : Act s t
  /-- The run sequencer hands a record to the store (R157). -/
  | files (s : State) (job : WriteJob) (filed : job.sealed = false) (slot : job.slot = none) : Act s (s.askStore (.write job))
  /-- The station leaves the run with its record handed to the store (R123). -/
  | leaves {s u t : State} {job : WriteJob} (before : s.Moves u) (filed : job.sealed = false) (slot : job.slot = none)
      (after : (u.askStore (.write job)).Moves t) (out : t.rsq.runState ≠ .enrolling) : Act s t
  /-- The bench controller asks for a mark (R161). -/
  | marks (s : State) (n : Nat) (m : Mark) : Act s (s.askStore (.mark n m false))
  /-- The stroke ends, and its mark is asked for (R149). -/
  | strokeEnds (s : State) (m : Mark) (h : s.stroking = true) :
      Act s ((s.mapSeu fun u => { u with press := false, strokeTimer := none }).askStore (.mark s.sealSlot m true))
  /-- The claim is confirmed (R145). -/
  | confirms (s : State) (h : s.seu.claim.state = .claimOpen) : Act s s.confirmClaim
  /-- The claim is sent, or goes back to CLAIM_WAIT (R144, R146). -/
  | claims (s : State) (c : Claim) (h : s.seu.holds = true) (held : c.state = .claimWait ∨ c.state = .claimOpen ∧ c.serial.isSome = true)
      (slot : c.slot = s.seu.claim.slot) : Act s (s.mapSeu fun u => { u with claim := c })
  /-- A sealing ends without a seal (R147). -/
  | endsSealing (s : State) (o : SealOutcome) (h : s.seu.holds = true) : Act s (s.endSealing o)
  /-- A reservation that waits is made (R143). -/
  | reserves (s : State) (h : s.rst.reserveAsked = true) : Act s s.reserveNow
  /-- A reservation that waits is given up (R151). -/
  | abandons (s : State) (h : s.rst.reserveAsked = true) (hc : s.seu.claim.state = .none) :
      Act s ((s.mapRst fun r => { r with reserveAsked := false }).giveSeal .aborted)
  /-- The station enters SEALING (R143). -/
  | seals (s : State) (h : s.rsq.runState.inPoints = true) (hp : s.rsq.phase = .none) : Act s s.enterSealing
  /-- STORE WIPE is taken (R162). -/
  | wipes (s : State) (hb : s.storeBusy = false) (h : s.holdsSealed = false) : Act s (s.beginOp (.wipe 0) eraseTime)
  /-- A request waits in the receive buffer (R96). -/
  | waits (s : State) (f : RxFrame) (h : f.isRequest = true) (room : s.reportRoom = false) : Act s (s.bufferFrame f)
  /-- A frame has left the reporting part (R96). -/
  | reportLeaves (s : State) : Act s (s.mapBli fun b => { b with report := b.report.drop 1 }).reportLeft

/-- What the ends of the store's operations do; the cells change in these alone. -/
inductive State.StoreEnds : State → State → Prop
  /-- The erase of a write ends (R157). -/
  | erases (s : State) (n : Nat) (job : WriteJob) (h : s.rst.op = some (.erase n job)) : StoreEnds s ((s.eraseSlot n).beginContent n job)
  /-- The content step of a write ends (R157). -/
  | programs (s : State) (n : Nat) (job : WriteJob) (cells : List Byte) (h : s.rst.op = some (.content n job cells)) :
      StoreEnds s ((s.mapSlot n fun c => { c with cells := cells }).beginOp (.level n job) levelTime)
  /-- The level step of a write ends (R148, R157). -/
  | levels (s : State) (n : Nat) (job : WriteJob) (h : s.rst.op = some (.level n job)) : StoreEnds s (s.levelDone n job)
  /-- A mark ends (R158). -/
  | markEnds (s : State) (n : Nat) (m : Mark) (seu : Bool) (h : s.rst.op = some (.mark n m seu)) :
      StoreEnds s (let s1 := s.mapSlot n fun c => c.withMark m; (if seu then s1.markReported m else s1).endOp)
  /-- A slot is wiped (R162). -/
  | wipesSlot (s : State) (n time : Nat) (h : s.rst.op = some (.wipe n)) : StoreEnds s ((s.eraseSlot n).beginOp (.wipe (n + 1)) time)
  /-- The wipe ends (R162). -/
  | wiped (s : State) (n : Nat) (h : s.rst.op = some (.wipe n)) : StoreEnds s
      (s.mapRst fun r => { r with slots := r.slots.map fun _ => Slot.erased, damaged := r.damaged.map fun _ => false }).endOp

/-- What the operations of one command do, one after the other. -/
abbrev State.Acts : State → State → Prop := Relation.ReflTransGen State.Act

end Sys2Proof.Machine
end

section
/-! PROOFS. The shared operations of the plan, the line, the result reporter and the run sequencer as moves. -/

set_option Elab.async false

namespace Sys2Proof.Machine

section
variable {s t u : State}

theorem State.Moves.of_proceeds (h : s.Proceeds t) (claim : t.seu.claim = s.seu.claim := by simp) (press : t.seu.press = true → s.seu.press = true := by simp)
    (cells : t.rst.slots = s.rst.slots := by simp) (op : t.rst.op = s.rst.op := by simp)
    (waiting : t.rst.waiting = s.rst.waiting := by simp) (reservation : t.rst.reservation = s.rst.reservation := by simp)
    (asked : t.rst.reserveAsked = s.rst.reserveAsked := by simp) (state : t.rsq.runState = s.rsq.runState := by simp)
    (phase : t.rsq.phase = s.rsq.phase := by simp) : s.Moves t :=
  { h with
    claim := by simp [claim]
    press := press
    cells := cells
    store := ⟨op, waiting, reservation, asked⟩
    course := .inl state
    phase := fun h => .inr ⟨phase ▸ h, .inl state⟩ }

/-- A change of items that no invariant looks at. -/
theorem State.Moves.of_eq (plan : s.plt.plan.length = 48 → t.plt.plan.length = 48 := by simp)
    (cells : t.rst.slots = s.rst.slots := by simp) (damaged : t.rst.damaged.length = s.rst.damaged.length := by simp)
    (coord : t.bli.coord = s.bli.coord := by simp) (report : t.bli.report = s.bli.report := by simp)
    (waiting : t.bli.waiting = s.bli.waiting := by simp) (attempt : t.bli.attempt = s.bli.attempt := by simp)
    (buffer : t.bli.buffer = s.bli.buffer := by simp) (queue : t.rrp.queue = s.rrp.queue := by simp)
    (requests : t.rst.waiting = s.rst.waiting := by simp) (voids : s.seu.voids.length ≤ 8 → t.seu.voids.length ≤ 8 := by simp)
    (state : t.rsq.runState = s.rsq.runState := by simp) (phase : t.rsq.phase = s.rsq.phase := by simp)
    (run : t.rsq.run = s.rsq.run := by simp) (seq : t.rsq.seq = s.rsq.seq := by simp)
    (roster : t.rsq.roster = s.rsq.roster := by simp) (sys : t.sys.inReset = s.sys.inReset := by simp)
    (address : t.sys.address = s.sys.address := by simp) (watermark : s.seu.watermark ≤ t.seu.watermark := by simp)
    (claim : t.seu.claim = s.seu.claim := by simp) (press : t.seu.press = true → s.seu.press = true := by simp)
    (op : t.rst.op = s.rst.op := by simp) (reservation : t.rst.reservation = s.rst.reservation := by simp)
    (asked : t.rst.reserveAsked = s.rst.reserveAsked := by simp) : s.Moves t :=
  .of_proceeds (.of_eq plan (by rw [cells]) damaged coord report waiting attempt buffer queue requests voids state phase run seq roster sys
    address watermark) claim press cells op requests reservation asked state phase

theorem State.Moves.refl (s : State) : s.Moves s := .of_proceeds (.refl s) rfl id rfl rfl rfl rfl rfl rfl rfl

theorem State.Moves.inCourse (h : s.Moves t) (hs : t.rsq.runState = s.rsq.runState) (ht : t.InCourse) : s.InCourse := by
  have phased : t.rsq.phase = .settling ∨ t.rsq.phase = .measuring → s.InCourse := fun hp => by
    rcases h.phase hp with (e | e) | ⟨e, -⟩
    · exact .inl (by rw [← hs, e]; rfl)
    · exact .inl (by rw [← hs, e]; rfl)
    · exact .inr (.inr e)
  rcases ht with e | e | e | e
  · exact .inl (hs ▸ e)
  · exact .inr (.inl (hs ▸ e))
  · exact phased (.inl e)
  · exact phased (.inr e)

theorem State.Moves.trans (h1 : s.Moves t) (h2 : t.Moves u) : s.Moves u where
  toProceeds := h1.toProceeds.trans h2.toProceeds
  claim := by
    obtain ⟨a1, a2, a3, a4⟩ := h1.claim
    obtain ⟨b1, b2, b3, b4⟩ := h2.claim
    exact ⟨b1.trans a1, b2.trans a2, b3.trans a3, b4.trans a4⟩
  press h := h1.press (h2.press h)
  cells := h2.cells.trans h1.cells
  store := by
    obtain ⟨a1, a2, a3, a4⟩ := h1.store
    obtain ⟨b1, b2, b3, b4⟩ := h2.store
    exact ⟨b1.trans a1, b2.trans a2, b3.trans a3, b4.trans a4⟩
  course := by
    rcases h1.course with e | ⟨e, hne⟩ | ⟨e, hs⟩
    · exact h2.course.imp (·.trans e) (Or.imp (And.imp_left (h1.inCourse e)) (And.imp_right (e ▸ ·)))
    · refine .inr (.inl ⟨e, ?_⟩)
      rcases h2.course with e' | ⟨-, e'⟩ | ⟨e', -⟩ <;> simp_all
    · rcases h2.course with e' | ⟨e', hne⟩ | ⟨e', -⟩
      · exact .inr (.inr ⟨e'.trans e, hs⟩)
      · have hp : t.rsq.phase = .settling ∨ t.rsq.phase = .measuring := by
          simpa [State.InCourse, e, RunState.inPoints] using e'
        rcases h1.phase hp with d | ⟨d, -⟩
        · simp [e] at d
        · exact .inr (.inl ⟨.inr (.inr d), hne⟩)
      · exact .inr (.inr ⟨e', hs⟩)
  phase hu := by
    rcases h2.phase hu with e | ⟨hp, e⟩
    · exact .inl e
    · rcases h1.phase hp with e' | ⟨hp', e'⟩
      · rcases e with e | e
        · exact .inl (e'.imp e.trans e.trans)
        · exact absurd e' e
      · refine .inr ⟨hp', ?_⟩
        rcases e', e with ⟨e' | e', e | e⟩
        · exact .inl (e.trans e')
        · exact .inr (e' ▸ e)
        · exact .inr e'
        · exact .inr e'

/-- A change of the transmit queue or the result queue that keeps their bounds. -/
theorem State.Moves.of_line (coord : s.bli.coord.length ≤ 6 → t.bli.coord.length ≤ 6)
    (report : s.bli.report.length ≤ t.bli.report.length) (bound : s.bli.report.length ≤ 4 → t.bli.report.length ≤ 4)
    (silent : s.Silent → t.bli.coord = [] ∧ t.bli.report = [] ∧ t.bli.waiting = [] ∧ t.bli.attempt = none)
    (queue : s.rrp.queue.length ≤ 16 → t.rrp.queue.length ≤ 16) (buffer : t.bli.buffer = s.bli.buffer := by simp)
    (plt : t.plt = s.plt := by simp) (rst : t.rst = s.rst := by simp) (seu : t.seu = s.seu := by simp) (rsq : t.rsq = s.rsq := by simp)
    (sys : t.sys = s.sys := by simp) : s.Moves t :=
  .of_proceeds (.of_line coord report bound silent queue buffer plt rst seu rsq sys) (by rw [seu]) (by simp [seu]) (by rw [rst]) (by rw [rst])
    (by rw [rst]) (by rw [rst]) (by rw [rst]) (by rw [rsq]) (by rw [rsq])

end

section
variable (s : State)

/-! ### The transmit queue (R98) -/

theorem State.offerCoord_moves (f : CoordFrame) : s.Moves (s.offerCoord f) := by
  refine .of_line (fun h => ?_) (by simp) (by simp) (fun h => ?_) (by simp)
  · simp only [State.offerCoord]
    split
    · exact h
    · simp only [State.mapBli]
      split
      · simp; omega
      · exact h
  · obtain ⟨h1, h2⟩ := h
    simp [State.offerCoord, h1, h2]

theorem Bli.withdraw_coord (b : Bli) (p : CoordFrame → Bool) (h : b.coord.length ≤ 6) : (b.withdraw p).coord.length ≤ 6 := by
  refine Bli.refill_bound _ ?_
  have kept := List.length_filter_le (fun f => !p f) b.coord
  have behind := List.length_filter_le (fun f => !p f) (b.coord.drop 1)
  by_cases hl : b.coordOnLine = true
  · simp only [hl, if_pos, List.length_append, List.length_take]
    simp only [List.length_drop] at behind
    omega
  · simp only [hl]; exact kept.trans h

theorem Bli.withdraw_empty (b : Bli) (p : CoordFrame → Bool) (hc : b.coord = []) (hw : b.waiting = []) (ha : b.attempt = none) :
    (b.withdraw p).coord = [] ∧ (b.withdraw p).waiting = [] ∧ (b.withdraw p).attempt = none := by
  simp [Bli.withdraw, Bli.refill, Bli.coordOnLine, hc, hw, ha]

theorem State.withdrawFrames_moves (p : CoordFrame → Bool) : s.Moves (s.withdrawFrames p) := by
  refine .of_line (s.bli.withdraw_coord p) (by simp) (by simp) (fun h => ?_) (by simp)
  obtain ⟨-, hc, hr, hw, ha, -⟩ := h
  obtain ⟨h1, h2, h3⟩ := s.bli.withdraw_empty p hc hw ha
  exact ⟨h1, by simpa using hr, h2, h3⟩

theorem State.dropHead_moves : s.Moves s.dropHead := by
  refine .of_line (fun h => Bli.refill_bound _ ?_) (by simp) (by simp) (fun h => ?_) (by simp)
  · simp; omega
  · obtain ⟨-, hc, hr, hw, ha, -⟩ := h
    simp [State.dropHead, State.mapBli, Bli.refill, hc, hr, hw, ha]

/-! ### The reporting part and the result queue (chapter 8) -/

/-- Between the two moments only the reporting part has grown, and the result queue keeps its bound. -/
theorem State.Moves.of_report {s t : State} (report : s.bli.report <+: t.bli.report)
    (bound : s.bli.report.length ≤ 4 → t.bli.report.length ≤ 4) (silent : s.rsq.runState = .clashed → t.bli.report = s.bli.report)
    (queue : s.rrp.queue.length ≤ 16 → t.rrp.queue.length ≤ 16) (coord : t.bli.coord = s.bli.coord := by simp)
    (waiting : t.bli.waiting = s.bli.waiting := by simp) (attempt : t.bli.attempt = s.bli.attempt := by simp)
    (buffer : t.bli.buffer = s.bli.buffer := by simp) (plt : t.plt = s.plt := by simp) (rst : t.rst = s.rst := by simp)
    (seu : t.seu = s.seu := by simp) (rsq : t.rsq = s.rsq := by simp) (sys : t.sys = s.sys := by simp) : s.Moves t := by
  refine .of_line (by simp [coord]) report.length_le bound (fun h => ?_) queue buffer plt rst seu rsq sys
  obtain ⟨hs, h1, h2, h3, h4, -⟩ := h
  simp [silent hs, *]

theorem State.offerReport_moves (f : ReportFrame) : s.Moves (s.offerReport f) := by
  refine .of_report (s.offerReport_frames f) (fun h => ?_) (fun h => ?_) (by simp)
  · simp only [State.offerReport]
    split
    · exact h
    · simp only [State.mapBli]
      split
      · simp; omega
      · exact h
  · simp [State.offerReport, h]

theorem State.mapRrp_moves (f : Rrp → Rrp) (h : s.rrp.queue.length ≤ 16 → (f s.rrp).queue.length ≤ 16) : s.Moves (s.mapRrp f) :=
  .of_report (by simp) (by simp) (by simp) h

theorem State.callStatus_moves : s.Moves s.callStatus := by
  simp only [State.callStatus]
  split
  · exact .refl s
  · split
    · exact s.mapRrp_moves _ id
    · split
      · exact .refl s
      · split
        · exact s.offerReport_moves _
        · exact s.mapRrp_moves _ id

theorem State.raise_moves (e : Event) : s.Moves (s.raise e) := by
  have flagged := s.mapRrp_moves (fun r => { r with flags := r.flags ||| e.flag }) id
  simp only [State.raise]
  split
  · exact flagged.trans (State.callStatus_moves _)
  · exact flagged

theorem State.refuse_moves (kind : Nat) (cause : RefusalCause) : s.Moves (s.refuse kind cause) := s.mapRrp_moves _ id

theorem Rrp.afterFormation_queue (r : Rrp) : r.afterFormation.queue.length ≤ r.queue.length := by
  simp only [Rrp.afterFormation, Rrp.startDelay]
  repeat' split
  all_goals simp

theorem State.testResult_moves : s.Moves s.testResult := by
  simp only [State.testResult]
  split
  · refine (s.offerReport_moves _).trans (State.mapRrp_moves _ _ fun h => (Rrp.afterFormation_queue _).trans h)
  · exact .refl s

theorem Rrp.startDelay_queue (r : Rrp) : r.startDelay.queue = r.queue := by
  simp only [Rrp.startDelay]
  split <;> rfl

/-- An entry joins a queue from which enough has gone before. -/
theorem State.joinTail_moves (f : Rrp → Rrp) (e : Entry) (h : s.rrp.queue.length ≤ 16 → (f s.rrp).queue.length < 16) :
    s.Moves ((s.mapRrp f).joinTail e) := by
  refine .trans (s.mapRrp_moves (fun r => { f r with queue := (f r).queue ++ [e] }.startDelay) fun hs => ?_) (State.testResult_moves _)
  rw [Rrp.startDelay_queue]
  have := h hs
  simp
  omega

theorem displaced_length (q : List Entry) (h : q ≠ []) : (displaced q).length + 1 = q.length := by
  have pos := List.length_pos_iff.2 h
  simp only [displaced]
  split
  next hg =>
    obtain ⟨e, he, hp⟩ := List.any_eq_true.1 hg
    rw [List.length_eraseP_of_mem he hp]
    omega
  next => simp; omega

theorem State.handEntry_moves (e : Entry) : s.Moves (s.handEntry e) := by
  simp only [State.handEntry]
  split
  · exact .refl s
  · split
    next h => exact s.joinTail_moves id e fun _ => h
    next h =>
      have dropped : s.Moves ((s.mapRrp fun r => { r with drops := bump 255 r.drops }).raise .reportDropped) :=
        (s.mapRrp_moves _ id).trans (State.raise_moves _ _)
      split
      · refine dropped.trans (State.joinTail_moves _ _ _ fun hq => ?_)
        have pos : s.rrp.queue ≠ [] := fun e => by simp [e] at h
        have := displaced_length _ pos
        simp at hq ⊢
        omega
      · exact dropped

end

end Sys2Proof.Machine
end

section
/-! PROOFS. What the operations of the measurement path, the run sequencer and the plan table do (chapters 1 to 5 and 7). -/

set_option Elab.async false

namespace Sys2Proof.Machine

section
variable {s t u : State}

theorem State.Moves.acts (h : s.Moves t) (roster : t.rsq.roster = s.rsq.roster := by simp) : s.Acts t :=
  .single (.moves h fun _ => by simp [State.OwnOpen, State.ownEntry, roster, h.address])

theorem State.Acts.moves (h : s.Acts t) (h' : t.Moves u) (roster : u.rsq.roster = t.rsq.roster := by simp) : s.Acts u :=
  h.trans (h'.acts roster)

theorem State.Silent.not_inCourse (h : s.Silent) : ¬ s.InCourse := by
  obtain ⟨hs, -, -, -, -, hp⟩ := h
  simp [State.InCourse, hs, hp, RunState.inPoints]

/-- A station in a run moves on to another state of it, or out of it. -/
theorem State.Moves.of_course (hs : s.InCourse) (state : t.rsq.runState ≠ .sealing ∧ t.rsq.runState ≠ .clashed ∧ t.rsq.runState ≠ .enrolling)
    (phase : t.rsq.phase = .settling ∨ t.rsq.phase = .measuring → (t.rsq.runState = .settling ∨ t.rsq.runState = .measuring) ∨
      (s.rsq.phase = .settling ∨ s.rsq.phase = .measuring) ∧ ¬ (s.rsq.runState = .settling ∨ s.rsq.runState = .measuring))
    (seq : s.rsq.runState = .enrolling ∨ s.rsq.seq ≤ t.rsq.seq := by simp) (run : t.rsq.run = s.rsq.run := by simp)
    (roster : t.rsq.roster = s.rsq.roster := by simp) (plt : t.plt = s.plt := by simp) (bli : t.bli = s.bli := by simp)
    (rrp : t.rrp = s.rrp := by simp) (seu : t.seu = s.seu := by simp) (rst : t.rst = s.rst := by simp) (sys : t.sys = s.sys := by simp) :
    s.Moves t where
  coordination := by simp [bli]
  reporting := by simp [bli]
  reports := by simp [bli]
  buffer := by simp [bli]
  silent h := absurd hs h.not_inCourse
  run := run
  reset := by rw [sys]
  address := by rw [sys]
  seq := seq
  starts h := absurd h state.2.2
  roster := by rw [roster]
  peers := by simp [roster]
  own := by simp +contextual [State.ownEntry, roster, sys]
  clashed h := absurd h state.2.1
  plan := by simp [plt]
  slots := by rw [rst]
  damaged := by rw [rst]
  results := by simp [rrp]
  requests := by simp [rst]
  voids := by simp [seu]
  watermark := by simp [seu]
  claim := by simp [seu]
  press := by simp [seu]
  cells := by rw [rst]
  store := by simp [rst]
  course := .inr (.inl ⟨hs, state.1⟩)
  phase h := (phase h).imp_right (And.imp_right .inr)

/-- The point is left, and the run state stands. -/
theorem State.Moves.of_phase (phase : t.rsq.phase = .none) (state : t.rsq.runState = s.rsq.runState := by simp)
    (seq : t.rsq.seq = s.rsq.seq := by simp) (run : t.rsq.run = s.rsq.run := by simp)
    (roster : t.rsq.roster = s.rsq.roster := by simp) (plt : t.plt = s.plt := by simp) (bli : t.bli = s.bli := by simp)
    (rrp : t.rrp = s.rrp := by simp) (seu : t.seu = s.seu := by simp) (rst : t.rst = s.rst := by simp) (sys : t.sys = s.sys := by simp) :
    s.Moves t where
  toProceeds := by constructor <;> simp +contextual [State.Silent, State.ownEntry, *]
  claim := by simp [seu]
  press := by simp [seu]
  cells := by rw [rst]
  store := by simp [rst]
  course := .inl state
  phase h := by simp [phase] at h

end

section
variable (s : State)

/-! ### The end of a point (R51) -/

theorem State.endPoint_acts (h : s.rsq.phase = .measuring) : s.Acts s.endPoint := by
  have reset : s.Moves ((s.mapGates fun g => ⟨g.a.rest, g.b.rest⟩).mapEcu fun e =>
      { e with dwell := ⟨Dwell.reset, Dwell.reset⟩ }).dropPulses := .of_eq
  simp only [State.endPoint]
  exact ((reset.trans (State.offerCoord_moves _ s.doneFrame)).trans (.of_course (.inr (.inr (.inr (by simpa using h)))) (by simp) (by simp))).acts

theorem State.testPoint_acts : s.Acts s.testPoint := by
  simp only [State.testPoint]
  split
  next h =>
    simp only [State.pointOver, Bool.and_eq_true, decide_eq_true_eq] at h
    exact s.endPoint_acts h.1.1.1
  next => exact .refl

theorem State.giveRecord_acts (ch : Channel) (r : OutcomeRecord) : s.Acts (s.giveRecord ch r) :=
  (State.Moves.acts .of_eq).trans (State.testPoint_acts _)

/-! ### Gates and dwells -/

theorem State.endGates_acts (ch : Channel) (e : Ending) : s.Acts (s.endGates ch e) :=
  (State.Moves.acts .of_eq).trans (State.giveRecord_acts _ _ _)

theorem State.endDwell_acts (ch : Channel) (o : ChanOutcome) : s.Acts (s.endDwell ch o) :=
  (State.Moves.acts .of_eq).trans (State.giveRecord_acts _ _ _)

theorem State.takeSample_acts (x : GateSample) : s.Acts (s.takeSample x) :=
  (State.Moves.acts .of_eq).trans (State.Moves.acts (State.handEntry_moves _ _))

theorem State.openGate_acts (ch : Channel) (n : Nat) (p : Pulse) : s.Acts (s.openGate ch n p) := State.Moves.acts .of_eq

theorem State.closeGate_acts (ch : Channel) (p : Pulse) : s.Acts (s.closeGate ch p) := by
  have sampled : s.Acts ((s.mapEngine ch fun g => { g with edges := g.edges + 1 }).takeSample
      ((s.engine ch).sample ch p (s.meter ch).glitches)) := (State.Moves.acts .of_eq).trans (State.takeSample_acts _ _)
  simp only [State.closeGate]
  repeat' split
  · exact sampled.trans (State.endGates_acts _ _ _)
  · exact sampled.trans (State.openGate_acts _ _ _ _)
  · exact sampled.trans (State.endGates_acts _ _ _)

theorem State.gateEdge_acts (ch : Channel) (p : Pulse) (double : Bool) : s.Acts (s.gateEdge ch p double) := by
  simp only [State.gateEdge]
  repeat' split
  · exact s.openGate_acts _ _ _
  · exact State.Moves.acts .of_eq
  · exact s.closeGate_acts _ _
  · exact State.Moves.acts .of_eq
  all_goals exact .refl

theorem State.gateCycle_acts (ch : Channel) : s.Acts (s.gateCycle ch) := by
  simp only [State.gateCycle]
  repeat' split
  · exact (State.Moves.acts .of_eq).trans (State.endGates_acts _ _ _)
  · exact State.Moves.acts .of_eq
  · exact .refl

theorem State.dwellEdge_acts (ch : Channel) (double : Bool) : s.Acts (s.dwellEdge ch double) := by
  have counted : s.Acts (s.mapDwell ch fun d => { d with edges := d.edges + 1 }) := State.Moves.acts .of_eq
  simp only [State.dwellEdge]
  repeat' split
  · exact .refl
  · exact s.endDwell_acts _ _
  all_goals first | exact counted | exact counted.trans (State.endDwell_acts _ _ _)

theorem State.dwellCycle_acts (ch : Channel) : s.Acts (s.dwellCycle ch) := by
  have counted : s.Acts (s.mapDwell ch fun d => { d with cycles := d.cycles + 1 }) := State.Moves.acts .of_eq
  simp only [State.dwellCycle]
  split
  · exact .refl
  · split
    · exact counted.trans (State.endDwell_acts _ _ _)
    · exact counted

theorem State.deliverEdge_acts (ch : Channel) (p : Pulse) (double : Bool) : s.Acts (s.deliverEdge ch p double) := by
  simp only [State.deliverEdge]
  split
  · exact s.gateEdge_acts _ _ _
  · exact s.dwellEdge_acts _ _

theorem State.takeHeld_acts (ch : Channel) : s.Acts (s.takeHeld ch) := by
  simp only [State.takeHeld]
  repeat' split
  · exact (State.Moves.acts .of_eq).trans (State.gateCycle_acts _ _)
  · exact (State.Moves.acts .of_eq).trans (State.dwellCycle_acts _ _)
  · exact .refl

theorem State.acceptPulse_acts (ch : Channel) (p : Pulse) : s.Acts (s.acceptPulse ch p) := by
  have accepted : s.Acts (s.mapMeter ch fun m => { m with pulse := none, active := true, lastEdge := some p.stamp }) :=
    State.Moves.acts .of_eq
  simp only [State.acceptPulse]
  split
  · exact (accepted.trans (State.takeHeld_acts _ _)).trans (State.deliverEdge_acts _ _ _ _)
  · exact (accepted.trans (State.deliverEdge_acts _ _ _ _)).trans (State.takeHeld_acts _ _)

theorem State.channelCycle_acts (ch : Channel) (stamp : Word) : s.Acts (s.channelCycle ch stamp) := by
  simp only [State.channelCycle]
  repeat' split
  · exact State.Moves.acts .of_eq
  · exact State.Moves.acts .of_eq
  · exact .refl
  · exact s.gateCycle_acts _
  · exact s.dwellCycle_acts _

theorem State.channelLoss_acts (ch : Channel) : s.Acts (s.channelLoss ch) := by
  simp only [State.channelLoss]
  repeat' split
  · exact (State.Moves.acts .of_eq).trans (State.endGates_acts _ _ _)
  · exact s.endDwell_acts _ _
  · exact .refl

theorem State.holdChannel_acts (ch : Channel) : s.Acts (s.holdChannel ch) := by
  have still : s.Acts ((s.mapMeter ch MeterInput.goLive).mapDwell ch Dwell.holdReset) := State.Moves.acts .of_eq
  simp only [State.holdChannel]
  repeat' split
  · exact (still.trans (State.Moves.acts .of_eq)).trans (State.endGates_acts _ _ _)
  · exact still.trans (State.Moves.acts .of_eq)
  · exact still.trans (State.endDwell_acts _ _ _)
  · exact still

/-! ### The phases of a point (R50) -/

theorem State.armChannel_acts (ch : Channel) : s.Acts (s.armChannel ch) := by
  have gates : s.Acts (s.armGates ch) := by
    simp only [State.armGates]
    repeat' split
    · exact (State.Moves.acts .of_eq).trans (State.endGates_acts _ _ _)
    · exact (State.Moves.acts .of_eq).trans (State.endGates_acts _ _ _)
    · exact State.Moves.acts .of_eq
  have dwell : s.Acts (s.armDwell ch) := by
    simp only [State.armDwell]
    repeat' split
    · exact (State.Moves.acts .of_eq).trans (State.endDwell_acts _ _ _)
    · exact (State.Moves.acts .of_eq).trans (State.endDwell_acts _ _ _)
    · exact State.Moves.acts .of_eq
  simp only [State.armChannel]
  repeat' split
  all_goals first | exact .refl | exact gates | exact dwell

theorem State.enterMeasuring_acts (h : s.InCourse) : s.Acts s.enterMeasuring := by
  have copied : s.Acts (s.mapEcu fun e =>
    { e with copy := s.pointCopy, acc := ⟨Accumulator.reset, Accumulator.reset⟩, outcomes := ⟨none, none⟩ }) := State.Moves.acts .of_eq
  simp only [State.enterMeasuring]
  refine ((Relation.ReflTransGen.trans ?_ (State.armChannel_acts _ _)).trans (State.armChannel_acts _ _)).trans (State.testPoint_acts _)
  exact copied.moves (.of_course (by simpa [State.InCourse] using h) (by simp) (by simp))

theorem State.enterSettling_acts (h : s.InCourse) : s.Acts s.enterSettling := by
  have entered : s.Acts (s.mapRsq fun q => { q with runState := .settling, phase := .settling, settle := 0, received := ⟨none, none⟩ }) :=
    State.Moves.acts (.of_course h (by simp) (by simp))
  have named := entered.trans ((fun t => State.Moves.acts .of_eq : ∀ t : State, t.Acts t.takePrescalers) _)
  simp only [State.enterSettling]
  split
  · exact named.trans (State.enterMeasuring_acts _ (by simp [State.InCourse]))
  · exact named

theorem State.windowCycle_acts (pfe : Pfe) : s.Acts (s.windowCycle pfe) := by
  simp only [State.windowCycle]
  repeat' split
  · exact State.Moves.acts .of_eq
  · exact (State.Moves.acts .of_eq).trans (State.testPoint_acts _)
  · exact State.Moves.acts .of_eq
  all_goals exact .refl

theorem State.rsqCycle_acts (pfe : Pfe) : s.Acts (s.rsqCycle pfe) := by
  simp only [State.rsqCycle]
  split
  next h =>
    have counted : s.Acts (s.mapRsq fun q => { q with settle := q.settle + 1 }) := State.Moves.acts .of_eq
    split
    · exact counted.trans (State.enterMeasuring_acts _ (.inr (.inr (.inl (by simpa using h)))))
    · exact counted
  · exact s.windowCycle_acts _
  all_goals exact .refl

theorem State.rsqLoss_acts : s.Acts s.rsqLoss := by
  simp only [State.rsqLoss]
  split
  next h => exact s.enterMeasuring_acts (.inr (.inr (.inl h)))
  · split
    · exact (State.Moves.acts .of_eq).trans (State.testPoint_acts _)
    · exact .refl
  all_goals exact .refl

theorem State.loseMains_acts : s.Acts s.loseMains := by
  have lost : s.Acts ((s.mapPfe fun p => { p with zc := { p.zc with present := false } }).raise .mainsLost) :=
    (State.Moves.acts .of_eq).moves (State.raise_moves _ _)
  exact ((lost.trans (State.channelLoss_acts _ _)).trans (State.channelLoss_acts _ _)).trans (State.rsqLoss_acts _)

theorem State.countCycle_acts (stamp : Word) : s.Acts (s.countCycle stamp) :=
  ((s.channelCycle_acts _ _).trans (State.channelCycle_acts _ _ _)).trans (State.rsqCycle_acts _ _)

theorem State.zcEdge_acts (since : Option Nat) : s.Acts (s.zcEdge since) := by
  have timed (f : Zc → Zc) (t : State) : t.Acts (t.mapZc f) := State.Moves.acts .of_eq
  have fresh := (timed (fun z => z.accept s.time.counter) s).trans (timed (fun z => { z with goodRun := 1 }) _)
  simp only [State.zcEdge]
  repeat' split
  · exact fresh
  · exact .refl
  · exact fresh.trans (State.loseMains_acts _)
  · exact ((timed _ s).trans (timed _ _)).trans (State.countCycle_acts _ _)
  · exact fresh
  · exact (timed _ s).trans (timed _ _)

end

end Sys2Proof.Machine
end

section
/-! PROOFS. What the operations of the run sequencer and the seal unit do (chapters 5, 7 and 9). -/

set_option Elab.async false

namespace Sys2Proof.Machine

/-! ### Roster entries (R109) -/

theorem rosterAt_rosterSet_cases (r : List RosterEntry) (x : Nat) (e : RosterEntry) :
    rosterAt (rosterSet r x e) x = e ∨ rosterAt (rosterSet r x e) x = rosterAt r x := by
  cases x with
  | zero => exact .inr rfl
  | succ n =>
    rcases Nat.lt_or_ge n r.length with h | h
    · exact .inl (by simp [rosterAt, rosterSet, h])
    · exact .inr (by simp [rosterAt, rosterSet, List.set_eq_of_length_le h])

theorem rosterAt_mapIdx_status (r : List RosterEntry) (f : Nat → RosterEntry → RosterEntry)
    (h : ∀ i e, e.status.left → (f i e).status = e.status) (x : Nat) (hx : (rosterAt r x).status.left) :
    (rosterAt (r.mapIdx f) x).status = (rosterAt r x).status := by
  cases x with
  | zero => rfl
  | succ n =>
    rcases Nat.lt_or_ge n r.length with hn | hn
    · simp only [rosterAt, List.getD_eq_getElem?_getD, List.getElem?_mapIdx, List.getElem?_eq_getElem hn] at hx ⊢
      exact h n _ hx
    · simp [rosterAt, hn]

section
variable (s : State)

/-- A change of one entry: a peer's that has left stands, and so does the own one but in ENROLLING. -/
theorem State.mapEntry_moves (x : Nat) (f : RosterEntry → RosterEntry)
    (peer : x ≠ s.sys.address → (rosterAt s.rsq.roster x).status.left →
      (f (rosterAt s.rsq.roster x)).status = (rosterAt s.rsq.roster x).status)
    (own : x = s.sys.address → s.ownEntry.status.left → s.rsq.runState = .enrolling ∨ (f s.ownEntry).status.left) :
    s.Moves (s.mapEntry x f) := by
  refine .of_proceeds ?_
  have sized := rosterSet_length s.rsq.roster x (f (rosterAt s.rsq.roster x))
  have peers : ∀ y, (rosterAt s.rsq.roster y).status.left → y ≠ s.sys.address →
      (rosterAt (s.mapEntry x f).rsq.roster y).status = (rosterAt s.rsq.roster y).status := fun y hy hne => by
    by_cases hx : y = x
    · subst hx
      rcases rosterAt_rosterSet_cases s.rsq.roster y (f (rosterAt s.rsq.roster y)) with e | e <;> rw [State.mapEntry_roster, e]
      exact peer hne hy
    · rw [State.mapEntry_roster, rosterAt_rosterSet_of_ne _ _ hx]
  have ownLeft : s.ownEntry.status.left → s.rsq.runState = .enrolling ∨ (s.mapEntry x f).ownEntry.status.left := fun h => by
    simp only [State.ownEntry, State.mapEntry_frame, State.mapEntry_roster]
    by_cases hx : s.sys.address = x
    · rcases rosterAt_rosterSet_cases s.rsq.roster x (f (rosterAt s.rsq.roster x)) with e | e <;> rw [hx, e]
      · have := own hx.symm h
        rwa [State.ownEntry, hx] at this
      · exact .inr (hx ▸ h)
    · rw [rosterAt_rosterSet_of_ne _ _ hx]
      exact .inr h
  constructor <;> simp +contextual [State.Silent, State.mapEntry_roster, *] at *

theorem State.mapEntry_acts (x : Nat) (f : RosterEntry → RosterEntry)
    (peer : x ≠ s.sys.address → (rosterAt s.rsq.roster x).status.left →
      (f (rosterAt s.rsq.roster x)).status = (rosterAt s.rsq.roster x).status)
    (own : x = s.sys.address → s.ownEntry.status.left → s.rsq.runState = .enrolling ∨ (f s.ownEntry).status.left)
    (joins : x = s.sys.address → s.rsq.runState = .enrolling → s.OwnOpen →
      (f s.ownEntry).status = .absent ∨ (f s.ownEntry).status = .enrolled) : s.Acts (s.mapEntry x f) := by
  refine .single (.moves (s.mapEntry_moves x f peer own) fun hs h => ?_)
  simp only [State.OwnOpen, State.ownEntry, State.mapEntry_frame, State.mapEntry_roster]
  by_cases hx : s.sys.address = x
  · rcases rosterAt_rosterSet_cases s.rsq.roster x (f (rosterAt s.rsq.roster x)) with e | e <;> rw [hx, e]
    · have := joins hx.symm (by simpa using hs) h
      rwa [State.ownEntry, hx] at this
    · exact hx ▸ h
  · rw [rosterAt_rosterSet_of_ne _ _ hx]
    exact h

theorem State.markOwn_moves (st : PeerStatus) (h : s.rsq.runState = .enrolling ∨ st.left) : s.Moves (s.markOwn st) :=
  s.mapEntry_moves _ _ (fun hx => absurd rfl hx) fun _ _ => h

theorem State.markOwn_joins (st : PeerStatus) (hs : s.rsq.runState = .enrolling) (h : st = .absent ∨ st = .enrolled) :
    s.Acts (s.markOwn st) := s.mapEntry_acts _ _ (fun hx => absurd rfl hx) (fun _ _ => .inl hs) fun _ _ _ => h

/-- The entries that have left stand, whatever becomes of the others. -/
theorem State.mapRoster_acts (f : Nat → RosterEntry → RosterEntry) (h : ∀ i e, e.status.left → (f i e).status = e.status)
    (hs : s.rsq.runState ≠ .enrolling) : s.Acts (s.mapRsq fun q => { q with roster := q.roster.mapIdx f }) := by
  refine .single (.moves (.of_proceeds ?_) fun e => absurd e hs)
  have kept := rosterAt_mapIdx_status s.rsq.roster f h
  have ownLeft : s.ownEntry.status.left → (rosterAt (s.rsq.roster.mapIdx f) s.sys.address).status.left := fun he => by
    rw [kept _ he]; exact he
  constructor <;> simp +contextual [State.Silent, State.ownEntry, *] at *

/-! ### The record of the run (R157) -/

theorem State.handRecord_acts : s.Acts s.handRecord := .single (.files s _ rfl rfl)

theorem State.takeIncomplete_acts : s.Acts s.takeIncomplete :=
  (State.Moves.acts .of_eq : s.Acts (s.mapRsq fun q => { q with verdict := some .incomplete })).trans (State.handRecord_acts _)

theorem State.askStore_runState (q : StoreRequest) (h : s.rsq.runState ≠ .sealing) :
    (s.askStore q).rsq.runState = s.rsq.runState := (s.askStore_storeReports q).runState.resolve_right fun e => h e.1

theorem State.takeIncomplete_runState (h : s.rsq.runState ≠ .sealing) : s.takeIncomplete.rsq.runState = s.rsq.runState :=
  State.askStore_runState _ _ h

theorem RunState.ne_sealing_of_takesRoster {r : RunState} (h : r.takesRoster = true) : r ≠ .sealing ∧ r ≠ .clashed := by
  constructor <;> rintro rfl <;> exact absurd h (by decide)

theorem RunState.takesRoster_iff (r : RunState) : r.takesRoster = true ↔ r.inPoints = true ∨ r = .enrolling := by
  cases r <;> decide

theorem State.inCourse_of_takesRoster (h : s.rsq.runState.takesRoster = true) : s.InCourse :=
  ((RunState.takesRoster_iff _).1 h).elim .inl fun e => .inr (.inl e)

/-! ### Leaving a point or a run (R31, R123, R126) -/

theorem State.leavePoint_phase : s.leavePoint.rsq.phase = .none := rfl

theorem State.leavePoint_moves : s.Moves s.leavePoint := .of_phase s.leavePoint_phase

theorem State.stopRunTimers_moves : s.Moves s.stopRunTimers := .of_eq

theorem State.enter_moves {r : RunState} (h : s.InCourse) (hp : s.rsq.phase = .none)
    (hr : r ≠ .sealing ∧ r ≠ .clashed ∧ r ≠ .enrolling) : s.Moves (s.enter r) := .of_course h hr (by simp [hp])

theorem State.leavesRun_moves (r : WithdrawReason) : s.Moves (s.leavesRun r) :=
  (((((s.offerCoord_moves _).trans (State.markOwn_moves _ _ (.inr (.inr rfl)))).trans (State.leavePoint_moves _)).trans
    (State.stopRunTimers_moves _))).trans (State.withdrawFrames_moves _ _)

theorem State.leavesRun_runState (r : WithdrawReason) : (s.leavesRun r).rsq.runState = s.rsq.runState := by simp [State.leavesRun]

theorem State.leavesRun_phase (r : WithdrawReason) : (s.leavesRun r).rsq.phase = .none := by
  simp [State.leavesRun, State.stopRunTimers, State.leavePoint_phase]

theorem State.withdrawRun_eq (r : WithdrawReason) : s.withdrawRun r =
    (if r = .outOfStep then (s.leavesRun r).takeIncomplete.raise .outOfStep else (s.leavesRun r).takeIncomplete).enter
      (if r = .planFault then .faulted else .withdrawn) := rfl

/-- A station leaves the run with the verdict INCOMPLETE. -/
theorem State.leaves_incomplete {s u t : State} (before : s.Moves u) (after : u.takeIncomplete.Moves t)
    (out : t.rsq.runState ≠ .enrolling) : s.Acts t := by
  have marked : u.Moves (u.mapRsq fun q => { q with verdict := some .incomplete }) := .of_eq
  exact .single (.leaves (job := ⟨State.runRecord (u.mapRsq fun q => { q with verdict := some .incomplete }) none none, false, none⟩)
    (before.trans marked) rfl rfl after out)

theorem State.withdrawRun_acts (r : WithdrawReason) (h : s.rsq.runState.takesRoster = true) : s.Acts (s.withdrawRun r) := by
  rw [State.withdrawRun_eq]
  have out : (if r = .planFault then RunState.faulted else .withdrawn) ≠ .sealing ∧
      (if r = .planFault then RunState.faulted else .withdrawn) ≠ .clashed ∧
      (if r = .planFault then RunState.faulted else .withdrawn) ≠ .enrolling := by split <;> decide
  have state : (s.leavesRun r).takeIncomplete.rsq.runState = s.rsq.runState := by
    rw [State.takeIncomplete_runState, State.leavesRun_runState]
    rw [State.leavesRun_runState]
    exact (RunState.ne_sealing_of_takesRoster h).1
  have exit (t : State) (hs : t.rsq.runState = s.rsq.runState) (hp : t.rsq.phase = .none) :
      t.Moves (t.enter (if r = .planFault then .faulted else .withdrawn)) :=
    t.enter_moves (State.inCourse_of_takesRoster _ (hs ▸ h)) hp out
  have phase : (s.leavesRun r).takeIncomplete.rsq.phase = .none := by simp [State.leavesRun_phase]
  refine State.leaves_incomplete (s.leavesRun_moves r) ?_ out.2.2
  split
  · exact (State.raise_moves _ _).trans (exit _ (by simpa using state) (by simpa using phase))
  · exact exit _ state phase

/-! ### Take-up (R75 to R77) -/

theorem State.planFault_acts (c : PlanCause) (h : s.rsq.runState.takesRoster = true) : s.Acts (s.planFault c) := by
  have recorded : s.Acts ((s.raise .planFault).mapPlt fun p =>
      { p with fault := some ⟨c, s.rsq.desc, s.rsq.seq, if c = .stale then s.current.completion else none⟩ }) :=
    (s.raise_moves .planFault).acts.moves .of_eq
  exact recorded.trans (State.withdrawRun_acts _ _ (by simpa using h))

theorem State.judgeTakeUp_acts (h : s.rsq.runState.takesRoster = true) : s.Acts s.judgeTakeUp := by
  rcases s.judgeTakeUp_cases with e | ⟨c, e⟩ <;> rw [e]
  exact s.planFault_acts c h

theorem State.enterWaitLoad_acts (n d : Nat) (h : s.rsq.runState.takesRoster = true)
    (hn : s.rsq.runState = .enrolling ∨ s.rsq.seq ≤ n) : s.Acts (s.enterWaitLoad n d) :=
  (State.Moves.acts (.of_course (s.inCourse_of_takesRoster h) (by simp) (by simp) (by simpa using hn)) :
    s.Acts (s.mapRsq fun q => { q with runState := .waitLoad, phase := .none, seq := n, desc := d })).trans
    (State.judgeTakeUp_acts _ rfl)

/-! ### Run end and the barrier (R116, R117, R125) -/

theorem State.endRun_acts (h : s.rsq.runState.inPoints = true) : s.Acts s.endRun := by
  have closed : s.Acts (s.mapRsq fun q => { q with verdict := some s.rsq.tally.verdict, phase := .none }) :=
    State.Moves.acts (.of_phase rfl)
  have notSealing : s.rsq.runState ≠ .sealing := by
    intro e
    rw [e] at h
    exact absurd h (by decide)
  have filed := closed.trans (State.handRecord_acts _)
  have out (t : State) (hs : t.rsq.runState = s.rsq.runState) (hp : t.rsq.phase = .none) : t.Acts (t.enter .finished) :=
    (t.enter_moves (.inl (hs ▸ h)) hp (by decide)).acts
  have state : (s.mapRsq fun q => { q with verdict := some s.rsq.tally.verdict, phase := .none }).handRecord.rsq.runState =
      s.rsq.runState := State.askStore_runState _ _ notSealing
  simp only [State.endRun]
  repeat' split
  · exact closed.trans (.single (.seals _ h rfl))
  · exact filed.trans (out _ state (by simp))
  · exact (filed.trans (State.Moves.acts .of_eq)).trans (out _ (by simpa using state) (by simp))

theorem State.followStep_acts (n : NextStep) (h : s.rsq.runState.inPoints = true) : s.Acts (s.followStep n) := by
  cases n with
  | runEnd => exact s.endRun_acts h
  | paused =>
    simp only [State.followStep]
    exact State.Moves.acts (.of_course (.inl h) (by simp) (by simp))
  | takeUp d => exact s.enterWaitLoad_acts _ _ ((RunState.takesRoster_iff _).2 (.inl h)) (.inr (Nat.le_succ _))

theorem State.writeBack_moves (v : PointVerdict) : s.Moves (s.writeBack v) := by
  refine .of_eq (plan := ?_)
  simp only [State.writeBack]
  split <;> simp

theorem State.closeBarrier_acts (h : s.rsq.runState.inPoints = true) : s.Acts s.closeBarrier := by
  rw [State.closeBarrier_eq]
  have closing : s.Moves s.beforeHandOn :=
    ((.of_eq : s.Moves (s.mapRsq fun q => { q with barrier := .stopped, received := s.closeRecords })).trans
      (State.withdrawFrames_moves _ (isLapseOf s.runNumber s.rsq.seq))).trans (State.writeBack_moves _ _)
  have closed : s.Moves s.pointClosed := by
    simp only [State.pointClosed]
    exact (closing.trans (State.handEntry_moves _ s.closeEntry)).trans .of_eq
  have roster : s.pointClosed.rsq.roster = s.rsq.roster := s.pointClosed_roster
  have state : s.pointClosed.rsq.runState = s.rsq.runState := by simp [State.pointClosed, State.beforeHandOn]
  exact (closed.acts roster).trans (State.followStep_acts _ _ (state ▸ h))

theorem State.testBarrier_acts : s.Acts s.testBarrier := by
  simp only [State.testBarrier]
  split
  next h => exact s.closeBarrier_acts (by rw [h.1]; rfl)
  next => exact .refl

/-! ### LAPSE (R120, R121) -/

theorem State.lapsedOut_acts (h : s.rsq.runState.inPoints = true) : s.Acts s.lapsedOut := by
  have marked : s.Moves (((s.raise .lapsed).markOwn .lapsed).leavePoint.mapRsq fun q => { q with barrier := .stopped }) :=
    (((s.raise_moves .lapsed).trans (State.markOwn_moves _ .lapsed (.inr (.inl rfl)))).trans (State.leavePoint_moves _)).trans .of_eq
  have gone := (marked.trans (State.withdrawFrames_moves _ (isLapse s.runNumber))).trans (State.withdrawFrames_moves _ (isDoneOf s.runNumber))
  have ne (r : RunState) (hr : r.inPoints = false) : s.rsq.runState ≠ r := fun e => by simp [e, hr] at h
  have quit := Relation.ReflTransGen.single (State.Act.moves gone fun e => absurd (by simpa using e) (ne .enrolling rfl))
  simp only [State.lapsedOut]
  refine (quit.trans (State.takeIncomplete_acts _)).trans (State.Moves.acts (State.enter_moves _ (.inl ?_) ?_ (by decide)))
  · rw [State.takeIncomplete_runState _ (by simpa using ne .sealing rfl)]
    simpa using h
  · simp [State.leavePoint_phase]

theorem RosterEntry.lapse_status (e : RosterEntry) (named own : Bool) (n : Nat) (h : e.status.left) :
    (e.lapse named own n).status = e.status := by
  rcases h with h | h <;> simp only [RosterEntry.lapse, h] <;> repeat' split
  all_goals simp_all

theorem State.lapseApplies_inPoints (n : Nat) (h : s.lapseApplies n = true) : s.rsq.runState.inPoints = true := by
  simp only [State.lapseApplies] at h
  split at h
  all_goals simp_all [RunState.inPoints]

theorem State.applyLapse_acts (n : Nat) (named : Nat → Bool) : s.Acts (s.applyLapse n named) := by
  simp only [State.applyLapse]
  split
  next h =>
    have hp := s.lapseApplies_inPoints n h
    have listed : s.Acts (s.lapseRoster n named) := s.mapRoster_acts _ (fun _ e => e.lapse_status _ _ _) fun e => by
      simp [e, RunState.inPoints] at hp
    have gone := listed.moves (State.withdrawFrames_moves _ (isLapseOf s.runNumber n))
    repeat' split
    · exact gone.trans (State.lapsedOut_acts _ (by simpa using hp))
    · exact gone.trans (State.testBarrier_acts _)
    · exact gone
  next => exact .refl

/-! ### The seal unit (sections 9.3 and 9.5) -/

theorem State.offerClaim_moves : s.Moves s.offerClaim := by
  simp only [State.offerClaim]
  split
  · exact s.offerCoord_moves _
  · exact .refl s

theorem State.abortSeal_acts (run : Half) : s.Acts (s.abortSeal run) := by
  have gone := (s.withdrawFrames_moves (isSealOf run)).acts
  simp only [State.abortSeal]
  split
  next hc =>
    split
    next ha => exact gone.trans (.single (.abandons _ (by simp [ha]) (by simp [hc])))
    next => exact gone
  next hc => exact gone.trans (.single (.endsSealing _ _ (by simp [Seu.holds, hc])))
  next hc => exact gone.trans (.single (.endsSealing _ _ (by simp [Seu.holds, hc])))
  all_goals exact gone

theorem State.abortSeal_runState (run : Half) (h : s.rsq.runState ≠ .sealing) : (s.abortSeal run).rsq.runState = s.rsq.runState := by
  have given (t : State) (ht : t.rsq.runState ≠ .sealing) (o : SealOutcome) : (t.giveSeal o).rsq.runState = t.rsq.runState := by
    simp [State.giveSeal, ht]
  have ended (t : State) (ht : t.rsq.runState ≠ .sealing) (o : SealOutcome) : (t.endSealing o).rsq.runState = t.rsq.runState :=
    (t.endSealing_storeReports o).runState.resolve_right fun e => ht e.1
  simp only [State.abortSeal]
  repeat' split
  all_goals first | simp | (rw [ended] <;> simp [h]) | (rw [given] <;> simp [h])

/-! ### RUN ABORT and the enrol window (R111, R126) -/

theorem State.unsettled_takesRoster (h : s.unsettled = true) : s.rsq.runState.takesRoster = true := by
  simp only [State.unsettled, Bool.or_eq_true, Bool.and_eq_true, decide_eq_true_eq] at h
  exact (RunState.takesRoster_iff _).2 (h.imp_right And.left)

theorem State.relamp_moves : s.Moves s.relamp := .of_eq

theorem State.abortRun_acts : s.Acts s.abortRun := by
  have stopped : s.Acts (s.leavePoint.stopRunTimers.withdrawFrames (isAbortedOf s.runNumber)) :=
    ((s.leavePoint_moves.trans (State.stopRunTimers_moves _)).trans (State.withdrawFrames_moves _ _)).acts
  have ended := stopped.trans (State.abortSeal_acts _ s.runNumber)
  have phase : ((s.leavePoint.stopRunTimers.withdrawFrames (isAbortedOf s.runNumber)).abortSeal s.runNumber).rsq.phase = .none := by
    simp [State.leavePoint_phase, State.stopRunTimers]
  have state (h : s.rsq.runState ≠ .sealing) :
      ((s.leavePoint.stopRunTimers.withdrawFrames (isAbortedOf s.runNumber)).abortSeal s.runNumber).rsq.runState = s.rsq.runState := by
    rw [State.abortSeal_runState] <;> simp [h]
  simp only [State.abortRun]
  split
  next hu =>
    have hr := s.unsettled_takesRoster hu
    have hs := state (RunState.ne_sealing_of_takesRoster hr).1
    refine State.Acts.moves ((ended.trans (State.takeIncomplete_acts _)).trans
      (State.enter_moves _ (State.inCourse_of_takesRoster _ ?_) ?_ (by decide)).acts) (State.relamp_moves _)
    · rw [State.takeIncomplete_runState] <;> rw [hs]
      · exact hr
      · exact (RunState.ne_sealing_of_takesRoster hr).1
    · simpa using phase
  next hu =>
    split
    next he =>
      have hs := state (by rw [he]; decide)
      refine State.Acts.moves ((ended.trans (State.markOwn_joins _ _ (hs.trans he) (.inl rfl))).trans (State.enter_moves _ ?_ ?_ (by decide)).acts)
        (State.relamp_moves _)
      · exact .inr (.inl (by simpa using hs.trans he))
      · simpa using phase
    next =>
      split
      · split
        · exact .refl
        · exact State.Acts.moves ended .of_eq
      · exact .refl

end

end Sys2Proof.Machine
end

section
/-! PROOFS. What the commands' own operations do, block by block (chapters 5 to 11). -/

set_option Elab.async false

namespace Sys2Proof.Machine

section
variable (s : State)

/-! ### The enrol window (R111) -/

theorem State.dropEnrol_acts (h : s.rsq.runState = .enrolling) : s.Acts s.dropEnrol := by
  have marked := s.markOwn_joins .absent h (.inl rfl)
  simp only [State.dropEnrol]
  refine marked.trans (State.Moves.acts (.of_course (.inr (.inl (by simpa using h))) (by simp) fun hp => .inr ⟨hp, ?_⟩))
  simp [h]

theorem State.closeWindow_acts : s.Acts s.closeWindow := by
  have closed : s.Acts (s.mapRsq fun q => { q with enrolWindow := none, allowance := some allowanceTime }) := State.Moves.acts .of_eq
  simp only [State.closeWindow]
  split
  · exact closed
  next h =>
    have he : s.rsq.runState = .enrolling := not_not.1 h
    split
    · exact closed.trans (State.enterWaitLoad_acts _ _ _ (by simp [he, RunState.takesRoster]) (.inl he))
    · have gone := State.Acts.moves closed (State.withdrawFrames_moves _ (isEnrolOf s.runNumber))
      split
      · exact gone
      · exact gone.trans (State.dropEnrol_acts _ (by simpa using he))

/-! ### The plan frames (R71 to R73, R84) -/

theorem State.stray_moves : s.Moves s.stray := .of_eq

theorem State.takePlanPut_acts (p : List Byte) : s.Acts (s.takePlanPut p) := by
  have put (i : Nat) (d : Descriptor) : s.Acts (s.putDescriptor i d) := by
    simp only [State.putDescriptor]
    split
    · exact ((s.raise_moves .planRefused).trans (State.refuse_moves _ _ _)).acts
    · have written : s.Acts (s.writeDescriptor i d) := State.Moves.acts (.of_eq (by simp [State.writeDescriptor]))
      split
      next h => exact written.trans (State.judgeTakeUp_acts _ (by simp [h.1, RunState.takesRoster]))
      next => exact written
  simp only [State.takePlanPut]
  split
  · exact put _ _
  · exact s.stray_moves.acts

theorem State.takePlanTail_acts (run : Half) (tail : Byte) : s.Acts (s.takePlanTail run tail) := by
  have set : s.Acts (s.mapPlt fun p => { p with tail := tail.toNat }) := State.Moves.acts .of_eq
  simp only [State.takePlanTail, State.setTail]
  repeat' split
  next h => exact set.trans (State.enterWaitLoad_acts _ _ _ (by simp [h.1, RunState.takesRoster]) (.inr (by simp)))
  · exact set
  · exact .refl

/-- A station outside a run goes back to IDLE. -/
theorem State.enter_idle_moves (h : s.rsq.runState = .finished ∨ s.rsq.runState = .withdrawn ∨ s.rsq.runState = .faulted) :
    s.Moves (s.enter .idle) where
  toProceeds := by
    have ne : s.rsq.runState ≠ .clashed := by rintro e; simp [e] at h
    constructor <;> simp +contextual [State.Silent, State.ownEntry, ne]
  claim := by simp
  press := by simp
  cells := by simp
  store := by simp
  course := .inr (.inr ⟨by simp, h⟩)
  phase hp := by
    refine .inr ⟨by simpa using hp, .inr ?_⟩
    rcases h with h | h | h <;> simp [h]

theorem State.takePlanClear_acts : s.Acts s.takePlanClear := by
  simp only [State.takePlanClear]
  split
  · exact ((s.raise_moves .planRefused).trans (State.refuse_moves _ _ _)).acts
  · have cleared : s.Acts (s.mapPlt fun p => { p with plan := List.replicate 48 Descriptor.reset, fault := none }) :=
      State.Moves.acts .of_eq
    split
    next h => exact State.Acts.moves cleared (State.enter_idle_moves _ (by simp [h]))
    next => exact cleared

/-! ### Requests and the line (chapter 6) -/

theorem State.answer_moves (f : RxFrame) : s.Moves (s.answer f) := by
  simp only [State.answer, State.answerRecord, State.answerSum]
  repeat' split
  · exact s.callStatus_moves
  all_goals first | exact s.refuse_moves _ _ | exact s.offerReport_moves _

theorem State.takeRequest_acts (f : RxFrame) (h : f.isRequest = true) : s.Acts (s.takeRequest f) := by
  simp only [State.takeRequest]
  split
  · exact (s.answer_moves f).acts
  next hr => exact .single (.waits s f h (by simpa using hr))

theorem State.see_moves (line : List LineEdge) : s.Moves (s.see line) := .of_eq

theorem State.charactersEnded_moves (bytes : List Byte) (ago : Nat) : s.Moves (s.charactersEnded bytes ago) := .of_eq

theorem State.lineError_moves : s.Moves s.lineError := by
  have counted : s.Moves (s.mapBli fun b => { b with lineErrors := bump 65535 b.lineErrors }) := .of_eq
  exact counted.trans (State.raise_moves _ _)

theorem State.receiveError_moves : s.Moves s.receiveError := by
  have hunts : s.Moves (s.mapBli fun b => { b with stage := RxStage.reset }) := .of_eq
  exact hunts.trans (State.lineError_moves _)

theorem State.heard_moves (f : RxFrame) : s.Moves (s.heard f) := .of_eq

theorem State.overrun_moves (f : RxFrame) (h : s.bli.hasBufferRoom = false) : s.Moves (s.bufferFrame f) := by
  have counted : s.Moves (s.mapBli fun b => { b with overruns := bump 65535 b.overruns }) := .of_eq
  simpa [State.bufferFrame, h] using counted.trans (State.raise_moves _ .rxOverrun)

/-! ### The record store (chapter 10) -/

theorem State.markRecord_acts (n q : Nat) : s.Acts (s.markRecord n q) := by
  simp only [State.markRecord]
  repeat' split
  · exact (s.refuse_moves _ _).acts
  · exact .single (.marks _ _ _)
  · exact (s.refuse_moves _ _).acts

theorem State.wipeStore_acts : s.Acts s.wipeStore := by
  simp only [State.wipeStore]
  split
  · exact (s.refuse_moves _ _).acts
  next hb =>
    split
    · exact (s.refuse_moves _ _).acts
    · split
      · exact (s.refuse_moves _ _).acts
      next hs => exact .single (.wipes _ (by simpa using hb) (by simpa using hs))

theorem State.reserveNow_acts : s.Acts s.reserveNow := by
  by_cases h : s.rst.reserveAsked = true
  · exact .single (.reserves s h)
  · simp only [State.reserveNow, h]
    exact .refl

/-! ### The seal unit (chapter 9) -/

theorem State.ite_mapSeu (c : Prop) [Decidable c] (t u : State) (f : Seu → Seu) :
    (if c then t else u).mapSeu f = if c then t.mapSeu f else u.mapSeu f := apply_ite (fun t : State => t.mapSeu f) c t u

theorem State.offerReport_mapSeu (f : Seu → Seu) (r : ReportFrame) : (s.mapSeu f).offerReport r = (s.offerReport r).mapSeu f := by
  simp only [State.offerReport, State.ite_mapSeu]
  rfl

theorem State.callStatus_mapSeu (f : Seu → Seu) : (s.mapSeu f).callStatus = s.callStatus.mapSeu f := by
  simp only [State.callStatus, State.ite_mapSeu, ← State.offerReport_mapSeu]
  rfl

/-- An event is raised beside the seal unit's items. -/
theorem State.raise_mapSeu (f : Seu → Seu) (e : Event) : (s.mapSeu f).raise e = (s.raise e).mapSeu f := by
  simp only [State.raise, State.ite_mapSeu, ← State.callStatus_mapSeu]
  rfl

theorem State.stroking_raise (e : Event) : (s.raise e).stroking = s.stroking := by simp [State.stroking]

theorem State.strokeFault_acts (h : s.stroking = true) : s.Acts s.strokeFault := by
  have raised := (s.raise_moves .pressFault).acts
  have ends := State.Act.strokeEnds (s.raise .pressFault) .pressFault ((s.stroking_raise _).trans h)
  simp only [State.strokeFault, State.raise_mapSeu, State.sealSlot, State.raise_frame] at ends ⊢
  exact raised.tail ends

theorem State.endSealing_forgets (confirm serial : Option Nat) (o : SealOutcome) :
    (s.mapSeu fun u => { u with claim := { u.claim with confirm := confirm, serial := serial } }).endSealing o = s.endSealing o := rfl

theorem joinVoid_length (l : List (Nat × Nat)) (p : Nat × Nat) (h : l.length ≤ 8) : (joinVoid l p).length ≤ 8 := by
  simp only [joinVoid]
  split <;> simp <;> omega

theorem State.takeSealClaim_acts (x : BitVec 6) (run : Half) (serial : Word) : s.Acts (s.takeSealClaim x run serial) := by
  have stale (x v : Nat) : s.Acts (s.answerStale x v run) := by
    have raised := s.raise_moves .sealConflict
    simp only [State.answerStale]
    repeat' split
    · exact raised.acts
    · exact ((raised.trans (State.offerCoord_moves _ _)).trans (.of_eq (voids := fun h => joinVoid_length _ _ h))).acts
    · exact raised.acts
  simp only [State.takeSealClaim, State.hearClaim]
  repeat' split
  next h => exact State.Moves.acts (.of_eq (watermark := h.le))
  · exact stale _ _
  · exact .refl

theorem State.claimVoided_acts (h : s.seu.claim.state = .claimOpen) : s.Acts s.claimVoided := by
  have held : s.seu.holds = true := by simp [Seu.holds, h]
  simp only [State.claimVoided]
  split
  · refine State.Acts.moves (.single ?_) (State.offerClaim_moves _)
    exact .claims s { s.seu.claim with confirm := none, serial := none, state := .claimWait, attempts := s.seu.claim.attempts + 1 } held
      (.inl rfl) rfl
  · rw [State.raise_mapSeu, State.endSealing_forgets]
    exact (s.raise_moves _).acts.tail (.endsSealing _ _ (by simpa using held))

theorem State.takeSealVoid_acts (run : Half) (claimer : Byte) (serial watermark : Word) :
    s.Acts (s.takeSealVoid run claimer serial watermark) := by
  have heard : s.Acts (s.mapSeu fun u => u.hearVoid claimer.toNat serial.toNat watermark.toNat) := by
    refine State.Moves.acts (.of_eq (voids := fun h => ?_) (watermark := le_max_left _ _) (claim := rfl) (press := id))
    simp only [State.mapSeu_seu, Seu.hearVoid]
    split
    · exact h
    · exact joinVoid_length _ _ h
  have own (t : State) (v : Nat) : t.Acts (t.voidOwn v) := by
    simp only [State.voidOwn]
    repeat' split
    next h _ => exact t.claimVoided_acts h
    all_goals first | exact .refl | exact (t.raise_moves _).acts
  simp only [State.takeSealVoid]
  repeat' split
  · exact heard.trans (own _ _)
  · exact heard
  · exact .refl

/-! ### HOLD SET (R168) -/

theorem State.setHolds_acts (new : Holds) : s.Acts (s.setHolds new) := by
  have hold (t : State) (ch : Channel) (c : Bool) : t.Acts (if c then t.holdChannel ch else t) := by
    split
    · exact t.holdChannel_acts ch
    · exact .refl
  have reporting (t : State) (old new : Bool) : t.Acts (t.holdReporting old new) := by
    simp only [State.holdReporting]
    repeat' split
    · exact (t.mapRrp_moves _ fun _ => Nat.zero_le _).acts
    · exact t.testResult_moves.acts
    · exact .refl
  have press (t : State) : t.Acts t.holdPress := by
    simp only [State.holdPress]
    split
    next h => exact t.strokeFault_acts (by simp [State.stroking, h])
    next => exact State.Moves.acts .of_eq
  have held : s.Acts (s.mapSys fun y => { y with holds := new }) := State.Moves.acts .of_eq
  have all := ((held.trans (hold _ .a (new.a && !s.sys.holds.a))).trans (hold _ .b (new.b && !s.sys.holds.b))).trans
    (reporting _ s.sys.holds.reporting new.reporting)
  simp only [State.setHolds]
  split
  · exact all.trans (press _)
  · exact all

/-! ### The own send (R91 to R93) -/

theorem State.begin_moves (a : Attempt) (h : s.bli.coord ≠ [] ∨ s.bli.report ≠ []) : s.Moves (s.mapBli fun b => b.begin a) := by
  refine .of_line (by simp [Bli.begin]) (by simp [Bli.begin]) (by simp [Bli.begin]) (fun ⟨_, hc, hr, _⟩ => ?_) (by simp)
    (by simp [Bli.begin])
  exact absurd h (by simp [hc, hr])

theorem State.formAttempt_acts (fuel : Nat) : s.Acts (s.formAttempt fuel) := by
  induction fuel generalizing s with
  | zero => exact .refl
  | succ fuel ih =>
    have sends (f : CoordFrame) (list : List Nat) (serial : Nat) (h : s.bli.coord ≠ []) : s.Acts (s.sendCoord f list serial) :=
      (s.begin_moves _ (.inl h)).acts
    have dropped := s.dropHead_moves.acts
    simp only [State.formAttempt]
    split
    next h =>
      split
      · exact dropped.trans (ih _)
      · exact sends _ _ _ (by simp [h])
    next h =>
      split
      · exact sends _ _ _ (by simp [h])
      · split
        next hc => exact (dropped.tail (.endsSealing _ _ (by simp [Seu.holds, State.dropHead, hc.2]))).trans (ih _)
        next => exact dropped.trans (ih _)
    next h => exact sends _ _ _ (by simp [h])
    next =>
      split
      next h => exact (s.begin_moves _ (.inr (by simp [h]))).acts
      next => exact .refl

theorem State.coordWasSent_acts (f : CoordFrame) (a : Attempt) : s.Acts (s.coordWasSent f a) := by
  cases f with
  | enrol run =>
    simp only [State.coordWasSent, State.enrolWasSent]
    split
    next h =>
      have sent : s.Acts (s.mapRsq fun q => { q with enrolSent := true }) := State.Moves.acts .of_eq
      split
      · exact sent.trans (State.enterWaitLoad_acts _ _ _ (by simp [h.2, RunState.takesRoster]) (.inl h.2))
      · exact sent
    next => exact .refl
  | done run n mask figure chans =>
    have marked : s.Acts (s.mapEntry s.sys.address fun e => if e.reached n then e else { e with lastDone := some n, figure := figure }) := by
      have same (e : RosterEntry) : (if e.reached n then e else { e with lastDone := some n, figure := figure }).status = e.status := by
        split <;> rfl
      exact s.mapEntry_acts _ _ (fun _ _ => same _) (fun _ h => .inr (by rw [same]; exact h)) fun _ _ h => by rw [same]; exact h
    simp only [State.coordWasSent, State.doneWasSent]
    repeat' split
    · exact (State.Acts.moves marked .of_eq).trans (State.testBarrier_acts _)
    · exact marked
    · exact .refl
  | lapse run n =>
    simp only [State.coordWasSent, State.lapseWasSent]
    split
    · exact s.applyLapse_acts _ _
    · exact .refl
  | claim run =>
    have raised : s.Acts (s.mapSeu fun u => { u with watermark := max u.watermark a.serial }) :=
      State.Moves.acts (.of_eq (watermark := le_max_left _ _))
    simp only [State.coordWasSent, State.claimWasSent]
    split
    next h =>
      exact raised.tail (.claims _ { s.seu.claim with state := .claimOpen, serial := some a.serial, confirm := some confirmTime }
        (by simp [Seu.holds, h.2]) (.inr ⟨rfl, rfl⟩) rfl)
    next => exact raised
  | withdraw => exact .refl
  | void => exact .refl

theorem State.sendEnds_acts (a : Attempt) : s.Acts (s.sendEnds a) := by
  have free (t : State) : t.Moves (t.mapBli fun b => { b with attempt := none, w := BitVec.ofNat 6 s.sys.address }) :=
    .of_line id le_rfl id (fun ⟨_, hc, hr, hw, _⟩ => ⟨hc, hr, hw, rfl⟩) id
  have left := ((s.charactersEnded_moves a.bytes 0).trans (free _)).acts
  simp only [State.sendEnds]
  repeat' split
  · exact (State.Acts.moves left (State.dropHead_moves _)).trans (State.coordWasSent_acts _ _ _)
  · exact left
  · exact left.tail (.reportLeaves _)

theorem State.attemptLost_acts (a : Attempt) (low : Bool) (quiet : Nat) : s.Acts (s.attemptLost a low quiet) := by
  have removes (t : State) : t.Acts (t.removeWithdrawn a) := by
    have dropped := t.dropHead_moves.acts
    simp only [State.removeWithdrawn]
    repeat' split
    next h _ => exact dropped.trans (State.dropEnrol_acts _ (by simpa [State.dropHead] using h.2))
    next h _ => exact dropped.trans (State.markOwn_joins _ _ (by simpa [State.dropHead] using h.2) (.inl rfl))
    all_goals first | exact dropped | exact .refl
  have free : s.Acts (s.mapBli fun b => { b with stage := RxStage.reset, low := low, unseen := 0, quiet := quiet, attempt := none }) :=
    State.Moves.acts (.of_line id le_rfl id (fun ⟨_, hc, hr, hw, _⟩ => ⟨hc, hr, hw, rfl⟩) id)
  exact free.trans (removes _)

/-! ### LOAD READY and RUN CLOSE (R112, R113, R128) -/

theorem State.loadInWait_acts (n d : Nat) (h : s.rsq.runState = .waitLoad) : s.Acts (s.loadInWait n d) := by
  simp only [State.loadInWait]
  repeat' split
  · exact .refl
  · exact s.withdrawRun_acts _ (by simp [h, RunState.takesRoster])
  · exact s.withdrawRun_acts _ (by simp [h, RunState.takesRoster])
  · exact s.enterSettling_acts (.inl (by simp [h, RunState.inPoints]))

theorem State.thenWait_acts (n d : Nat) : s.Acts (s.thenWait n d) := by
  simp only [State.thenWait]
  split
  next h => exact s.loadInWait_acts n d h
  next => exact .refl

theorem State.loadInPaused_acts (n d : Nat) (h : s.rsq.runState = .paused) : s.Acts (s.loadInPaused n d) := by
  have takes : s.rsq.runState.takesRoster = true := by rw [h]; rfl
  simp only [State.loadInPaused]
  repeat' split
  · have set : s.Acts (s.mapPlt fun p => { p with tail := d }) := State.Moves.acts .of_eq
    exact (set.trans (State.enterWaitLoad_acts _ _ _ takes (.inr (Nat.le_succ _)))).trans (State.thenWait_acts _ _ _)
  · exact .refl
  · exact s.withdrawRun_acts _ takes
  · exact s.withdrawRun_acts _ takes

theorem RosterEntry.unheardAt_status (e : RosterEntry) (own : Bool) (n : Nat) (h : e.status.left) :
    (e.unheardAt own n).status = e.status := by
  have : e.status ≠ .enrolled := by rcases h with h | h <;> simp [h]
  simp [RosterEntry.unheardAt, this]

theorem State.takeLoadReady_acts (run seq : Half) (desc : Byte) : s.Acts (s.takeLoadReady run seq desc) := by
  simp only [State.takeLoadReady, State.loadReady]
  split
  · split
    · split
      · exact s.closeWindow_acts.trans (State.thenWait_acts _ _ _)
      · exact .refl
    next h => exact s.loadInWait_acts _ _ h
    next h =>
      split
      · exact .refl
      · exact s.withdrawRun_acts _ (by simp [h, RunState.takesRoster])
    next h =>
      split
      · exact .refl
      · exact s.withdrawRun_acts _ (by simp [h, RunState.takesRoster])
    next h =>
      split
      · exact .refl
      · have counted : s.Acts s.countUnheard := s.mapRoster_acts _ (fun _ e => e.unheardAt_status _ _) (by simp [h])
        have closed := counted.trans (State.closeBarrier_acts _ (by simp [State.countUnheard, h, RunState.inPoints]))
        repeat' split
        next hp => exact closed.trans (State.loadInPaused_acts _ _ _ hp)
        · exact closed.trans (State.thenWait_acts _ _ _)
        · exact s.withdrawRun_acts _ (by simp [h, RunState.takesRoster])
    next h => exact s.loadInPaused_acts _ _ h
    next => exact .refl
  · exact .refl

theorem State.takeRunAbort_acts (run : Half) : s.Acts (s.takeRunAbort run) := by
  simp only [State.takeRunAbort]
  split
  · exact s.abortRun_acts
  · exact .refl

theorem State.takeRunClose_acts (run : Half) : s.Acts (s.takeRunClose run) := by
  simp only [State.takeRunClose, State.closeRun]
  repeat' split
  next h => exact State.Acts.moves s.abortRun_acts (State.enter_idle_moves _ (h.imp_right .inl))
  · exact State.Acts.moves s.abortRun_acts (State.refuse_moves _ _ _)
  · exact s.abortRun_acts
  · exact .refl

theorem State.meterRemoved_acts : s.Acts s.meterRemoved := by
  simp only [State.meterRemoved]
  split
  next h => exact s.withdrawRun_acts _ (s.unsettled_takesRoster h)
  next =>
    split
    next h =>
      have gone := (s.withdrawFrames_moves (isEnrolOf s.runNumber)).acts
      split
      · exact gone
      · exact gone.trans (State.markOwn_joins _ _ (by simpa using h) (.inl rfl))
    next => exact .refl

/-! ### Coordination frames heard (R110, R114, R120, R122) -/

theorem State.takeEnrol_acts (x : BitVec 6) (run : Half) : s.Acts (s.takeEnrol x run) := by
  simp only [State.takeEnrol, State.hearEnrol]
  repeat' split
  next h =>
    have absent : (rosterAt s.rsq.roster x.toNat).status = .absent := by simp at h; exact h.2
    refine s.mapEntry_acts _ _ (fun _ hl => ?_) (fun hx hl => ?_) fun _ _ _ => .inr rfl
    · rcases hl with hl | hl <;> simp [absent] at hl
    · rw [State.ownEntry, ← hx, absent] at hl
      rcases hl with hl | hl <;> simp at hl
  all_goals exact .refl

theorem State.rosterOpen_takesRoster {s : State} {run : Half} (h : s.rosterOpen run = true) : s.rsq.runState.takesRoster = true := by
  simp only [State.rosterOpen, Bool.and_eq_true] at h
  exact h.2

theorem State.takeDone_acts (x : BitVec 6) (run seq : Half) (figure : Option Word) : s.Acts (s.takeDone x run seq figure) := by
  simp only [State.takeDone, State.hearDone]
  split
  next ho =>
    have recorded (figure : Option Nat) : s.Acts (s.mapEntry x.toNat fun e =>
        { e with lastDone := some seq.toNat, figure := figure, unheard := 0 }) :=
      s.mapEntry_acts _ _ (fun _ _ => rfl) (fun _ h => .inr h) fun _ _ h => h
    have takes := State.rosterOpen_takesRoster ho
    repeat' split
    · exact s.stray_moves.acts
    · exact s.withdrawRun_acts _ takes
    · exact (recorded _).trans (State.withdrawRun_acts _ _ (by simpa using takes))
    · exact .refl
    · exact (recorded _).trans (State.testBarrier_acts _)
  next => exact .refl

theorem State.takeLapse_acts (run seq : Half) (addrs : BitVec 64) : s.Acts (s.takeLapse run seq addrs) := by
  simp only [State.takeLapse]
  split
  · exact s.applyLapse_acts _ _
  · exact .refl

theorem State.takeWithdraw_acts (x : BitVec 6) (run : Half) (h : x.toNat ≠ s.sys.address) : s.Acts (s.takeWithdraw x run) := by
  simp only [State.takeWithdraw, State.hearWithdraw]
  repeat' split
  next hs =>
    refine (s.mapEntry_acts _ _ (fun _ hl => ?_) (fun hx => absurd hx h) fun hx => absurd hx h).trans (State.testBarrier_acts _)
    rcases hs with hs | hs <;> rcases hl with hl | hl <;> simp [hs] at hl
  · exact s.testBarrier_acts
  · exact .refl

end

end Sys2Proof.Machine
end

section
/-! PROOFS. What a command can do: a number of acts, a RUN OPEN taken between them, an address clash or a reset after them; RESET_END ends
a reset. -/

set_option Elab.async false

namespace Sys2Proof.Machine

/-- What a command leads to, before the lamps follow. -/
inductive State.LeadsTo (s : State) : State → Prop
  | acts {u : State} (h : s.Acts u) : LeadsTo s u
  /-- A RUN OPEN of another run is taken (R106, R107). -/
  | opens {v u : State} (f : RunOpenFields) (before : s.Acts v) (takes : v.rsq.runState.takesOpen = true) (run : v.rsq.run ≠ some f.run)
      (after : (v.openBlocks f).Acts u) : LeadsTo s u
  /-- The station clashes (R167). -/
  | clashes {v : State} (before : s.Acts v) (h : v.rsq.runState ≠ .clashed) (on : v.sys.inReset = false) : LeadsTo s v.enterClashed
  /-- A reset (R164, R166). -/
  | resets {v : State} (before : s.Acts v) (cause : ResetCause) : LeadsTo s (v.resetWith cause)

/-- The end of an operation of the store, and the reservation that may follow. -/
def State.EndsOn (s u : State) : Prop := ∃ v, s.StoreEnds v ∧ (u = v ∨ u = v.reserveNow)

section
variable {s t u : State}

theorem State.reserveNow_follows (h : u = t ∨ u = t.reserveNow) : t.Acts u := by
  rcases h with rfl | rfl
  · exact .refl
  · exact t.reserveNow_acts

theorem State.Acts.leadsTo (h : s.Acts t) (h' : t.LeadsTo u) : s.LeadsTo u := by
  cases h' with
  | acts h' => exact .acts (h.trans h')
  | opens f before takes run after => exact .opens f (h.trans before) takes run after
  | clashes before hc on => exact .clashes (h.trans before) hc on
  | resets before cause => exact .resets (h.trans before) cause

end

variable (s : State)

theorem State.inReset_of_alive (h : s.alive = true) : s.sys.inReset = false := by
  simp only [State.alive, Bool.and_eq_true, Bool.not_eq_true'] at h
  exact h.1

theorem State.clash_leadsTo (on : s.sys.inReset = false) : s.LeadsTo s.clash := by
  have raised := (s.raise_moves .addressClash).acts
  simp only [State.clash]
  split
  · exact .acts raised
  next h => exact .clashes raised (by simpa using h) (by simpa using on)

theorem State.taken_leadsTo (form : Bool) (act : State → State) (h : s.takesFrames = true → s.LeadsTo (act s)) :
    s.LeadsTo (s.taken form act) := by
  simp only [State.taken]
  repeat' split
  · exact .acts .refl
  next ht _ => exact h (by simpa using ht)
  · exact .acts s.stray_moves.acts

theorem State.fromPeer_leadsTo (x : BitVec 6) (form : Bool) (act : State → State) (h : x.toNat ≠ s.sys.address → s.Acts (act s)) :
    s.LeadsTo (s.fromPeer x form act) := by
  simp only [State.fromPeer]
  repeat' split
  · exact .acts .refl
  next ht _ => exact s.clash_leadsTo (State.inReset_of_alive _ (by simp_all [State.takesFrames]))
  next hx _ => exact .acts (h hx)
  · exact .acts s.stray_moves.acts

/-- RUN OPEN acts first as RUN ABORT, and is then taken, refused or ignored (R106). -/
theorem State.takeRunOpen_leadsTo (f : RunOpenFields) (present : Bool) : s.LeadsTo (s.takeRunOpen f present) := by
  have shown : s.Acts (s.mapPins fun p => { p with mpres := present }) := State.Moves.acts .of_eq
  have aborted := shown.trans (State.abortRun_acts _)
  simp only [State.takeRunOpen, State.judgeOpen]
  split
  · exact .acts (State.Acts.moves shown (State.stray_moves _))
  split
  · exact .acts shown
  next hr =>
    split
    next ht =>
      refine .opens f aborted ht (by simpa [State.inRun] using hr) ?_
      simp only [State.openRun, State.enrolSelf]
      split
      next =>
        have enrolled := State.markOwn_joins ((State.abortRun (s.mapPins fun p => { p with mpres := present })).openBlocks f) .enrolled rfl (.inr rfl)
        exact State.Acts.moves (State.Acts.moves enrolled (State.offerCoord_moves _ (.enrol f.run))) (State.testResult_moves _)
      next => exact (State.testResult_moves _).acts
    next =>
      split
      · exact .acts (State.Acts.moves aborted (State.refuse_moves _ _ _))
      · exact .acts aborted

theorem State.takeRestart_leadsTo : s.LeadsTo s.takeRestart := .resets .refl _

/-- The owner of a frame acts, a frame of a peer not being under the own address (R95). -/
theorem State.owner_leadsTo (c : Instr) (h : ∀ x, c.sender = some x → x.toNat ≠ s.sys.address) : s.LeadsTo (s.owner c) := by
  cases c
  case planPut p => exact .acts (s.takePlanPut_acts p)
  case planTail run tail => exact .acts (s.takePlanTail_acts run tail)
  case planClear => exact .acts s.takePlanClear_acts
  case runOpen f present => exact s.takeRunOpen_leadsTo f present
  case loadReady run seq desc => exact .acts (s.takeLoadReady_acts run seq desc)
  case runAbort run => exact .acts (s.takeRunAbort_acts run)
  case runClose run => exact .acts (s.takeRunClose_acts run)
  case holdSet holds => exact .acts (s.setHolds_acts _)
  case eventClear clear mask => exact .acts (s.mapRrp_moves (fun r => { r with flags := r.flags &&& ~~~clear, mask := mask }) id).acts
  case recordMark slot number => exact .acts (s.markRecord_acts _ _)
  case storeWipe => exact .acts s.wipeStore_acts
  case enrol x run => exact .acts (s.takeEnrol_acts x run)
  case done x run seq mask figure => exact .acts (s.takeDone_acts x run seq figure)
  case lapse x run seq addrs => exact .acts (s.takeLapse_acts run seq addrs)
  case withdraw x run seq reason => exact .acts (s.takeWithdraw_acts x run (h x rfl))
  case sealClaim x run serial => exact .acts (s.takeSealClaim_acts x run serial)
  case sealVoid x run claimer serial watermark => exact .acts (s.takeSealVoid_acts run claimer serial watermark)
  all_goals exact .acts .refl

theorem frameCommand_sender (present : Bool) (f : RxFrame) (c : Instr) (x : BitVec 6) (h : frameCommand present f = some c)
    (hx : c.sender = some x) : x = f.sender := by
  simp only [frameCommand] at h
  split at h
  all_goals first | (obtain rfl := Option.some.inj h; simp [Instr.sender] at hx; done) | (obtain rfl := Option.some.inj h; simp only [Instr.sender, Option.some.injEq] at hx; exact hx.symm) | exact nomatch h

/-- FRAME_RECEIVED, by what became of the characters and the judgement of the frame (R94 to R96). -/
theorem State.acceptFrame_leadsTo (f : RxFrame) (present : Bool) (on : s.sys.inReset = false) : s.LeadsTo (s.acceptFrame f present) := by
  have heard := (s.heard_moves f).acts
  simp only [State.acceptFrame]
  split
  · exact State.Acts.leadsTo heard (State.clash_leadsTo _ (by simpa using on))
  next hx =>
    split
    · exact .acts heard
    · exact .acts (State.Acts.moves heard (State.stray_moves _))
    · simp only [State.enterBuffer]
      split
      · exact .resets heard _
      split
      next hb => exact .acts (State.Acts.moves heard (State.overrun_moves _ f (by simpa using hb)))
      split
      next hq => exact .acts (heard.trans (State.takeRequest_acts _ f hq))
      split
      next c hc =>
        refine State.Acts.leadsTo heard (State.owner_leadsTo _ c fun x h => ?_)
        rw [frameCommand_sender _ _ _ _ hc h]
        exact hx
      next => exact .acts heard

/-- The end of a reset leads out of the reset; every other command leads on from it. -/
theorem exec_leadsTo (c : Instr) : ∃ u, exec c s = u.finish ∧
    (s.LeadsTo u ∨ s.EndsOn u ∨ s.sys.inReset = true ∧ ∃ addr rate heard, u = s.endReset addr rate heard) := by
  have go (u : State) (h : s.LeadsTo u) : ∃ v, u.finish = v.finish ∧
      (s.LeadsTo v ∨ s.EndsOn v ∨ s.sys.inReset = true ∧ ∃ addr rate heard, v = s.endReset addr rate heard) := ⟨u, rfl, .inl h⟩
  have ends {u v : State} (first : s.StoreEnds v) (after : u = v ∨ u = v.reserveNow) : ∃ w, u.finish = w.finish ∧
      (s.LeadsTo w ∨ s.EndsOn w ∨ s.sys.inReset = true ∧ ∃ addr rate heard, w = s.endReset addr rate heard) :=
    ⟨u, rfl, .inr (.inl ⟨v, first, after⟩)⟩
  have still (u : State) (h : s.Moves u) (roster : u.rsq.roster = s.rsq.roster) := go u (.acts (h.acts roster))
  have choice (p : Prop) [Decidable p] (u : State) (h : p → s.LeadsTo u) : s.LeadsTo (if p then u else s) := by
    split
    next hp => exact h hp
    next => exact .acts .refl
  cases c
  case meterActiveEdge ch => exact go _ (choice _ _ fun _ => .acts (State.Moves.acts .of_eq))
  case glitch ch => exact go _ (choice _ _ fun _ => .acts ((State.Moves.acts .of_eq).trans (State.takeHeld_acts _ _)))
  case pulseAccepted ch =>
    rw [exec_pulseAccepted, execPulseAccepted]
    split
    · exact go _ (choice _ _ fun _ => .acts (s.acceptPulse_acts _ _))
    · exact go _ (.acts .refl)
  case meterInputReturn ch => exact go _ (choice _ _ fun _ => .acts (State.Moves.acts .of_eq))
  case referenceEdge input => exact go _ (choice _ _ fun _ => .acts (State.Moves.acts .of_eq))
  case zcEdge => exact go _ (choice _ _ fun _ => .acts (s.zcEdge_acts _))
  case silenceTimerExpiry =>
    refine go _ (choice _ _ fun _ => .acts ?_)
    have stopped : s.Acts (s.mapZc fun z => { z with silence := none }) := State.Moves.acts .of_eq
    split
    · exact stopped.trans (State.loseMains_acts _)
    · exact stopped
  case mpresFall =>
    have fallen : s.Acts (s.mapPins fun p => { p with mpres := false }) := State.Moves.acts .of_eq
    rw [exec_mpresFall, execMpresFall]
    refine go _ (.acts ?_)
    split
    · exact fallen.trans (State.meterRemoved_acts _)
    · exact fallen
  case strokeInactive =>
    have shown : s.Acts (s.mapPins fun p => { p with stroke := false }) := State.Moves.acts .of_eq
    rw [exec_strokeInactive, execStrokeInactive]
    refine go _ (.acts ?_)
    split
    · exact State.Acts.moves shown .of_eq
    · exact shown
  case strokeEnd =>
    have shown : s.Acts (s.mapPins fun p => { p with stroke := true }) := State.Moves.acts .of_eq
    rw [exec_strokeEnd, execStrokeEnd]
    refine go _ (.acts ?_)
    split
    next h =>
      simp only [Bool.and_eq_true] at h
      exact shown.tail (.strokeEnds (s.mapPins fun p => { p with stroke := true }) .pressed h.1)
    next => exact shown
  case powerOnReset => exact go _ (.resets .refl _)
  case supplyDipReset => exact go _ (.resets .refl _)
  case resetPin => exact go _ (.resets .refl _)
  case resetEnd addr rate heard =>
    rw [exec_resetEnd, execResetEnd]
    split
    next h => exact ⟨_, rfl, .inr (.inr ⟨h, addr, rate, heard, rfl⟩)⟩
    next => exact go _ (.acts .refl)
  case enrolWindowExpiry => exact go _ (choice _ _ fun _ => .acts s.closeWindow_acts)
  case lateEnrolAllowanceEnd => exact still _ .of_eq rfl
  case barrierTimerExpiry =>
    refine go _ (choice _ _ fun _ => .acts (State.Acts.moves ?_ (State.offerCoord_moves _ _)))
    exact State.Moves.acts .of_eq
  case delayTimerExpiry =>
    refine go _ (choice _ _ fun _ => .acts ?_)
    have stopped := (s.mapRrp_moves (fun r => { r with delay := none }) id).acts
    split
    · exact stopped
    · exact State.Acts.moves (State.Acts.moves stopped (State.mapRrp_moves _ _ id)) (State.testResult_moves _)
  case confirmTimerExpiry => exact go _ (choice _ _ fun h => .acts (.single (.confirms s h)))
  case strokeTimerExpiry =>
    rw [exec_strokeTimerExpiry, execStrokeTimerExpiry]
    refine go _ (.acts ?_)
    split
    next h =>
      simp only [Bool.and_eq_true] at h
      exact s.strokeFault_acts h.1
    next => exact State.Moves.acts .of_eq
  case rejectPulseEnd => exact still _ .of_eq rfl
  case lampFlashToggle => exact go _ (choice _ _ fun _ => .acts (State.Moves.acts .of_eq))
  case lineStuck since =>
    refine go _ (choice _ _ fun _ => .acts (State.Acts.moves ?_ (State.raise_moves _ _)))
    exact State.Moves.acts .of_eq
  case stuckLineReleased => exact go _ (choice _ _ fun _ => .acts (State.Moves.acts .of_eq))
  case sendAttemptStart line =>
    refine go _ (choice _ _ fun _ => .acts ?_)
    have seen := (s.see_moves line).acts
    simp only []
    split
    · exact seen.trans (State.formAttempt_acts _ _)
    · exact seen
  case frameSent =>
    rw [exec_frameSent, execFrameSent]
    split
    · exact go _ (.acts (s.sendEnds_acts _))
    · exact go _ (.acts .refl)
  case lineLost =>
    rw [exec_lineLost, execLineLost]
    split
    next a _ =>
      have lost : (s.attemptLost a true 0).Moves (s.lineLost a) := by
        unfold State.lineLost
        exact .of_eq
      exact go _ (.acts (State.Acts.moves (s.attemptLost_acts _ _ _) lost (by simp [State.lineLost])))
    · exact go _ (.acts .refl)
  case lineNotFollowing =>
    rw [exec_lineNotFollowing, execLineNotFollowing]
    split
    · exact go _ (.acts (State.Acts.moves (s.attemptLost_acts _ _ _) (State.lineError_moves _)))
    · exact go _ (.acts .refl)
  case frameReceiveError bad =>
    exact go _ (choice _ _ fun _ => .acts (State.Acts.moves (s.see_moves _).acts (State.receiveError_moves _)))
  case frameReceived r =>
    refine go _ (choice _ _ fun on => ?_)
    have seen := (s.see_moves r.line).acts
    split
    · exact .acts (State.Acts.moves seen (State.receiveError_moves _))
    · exact State.Acts.leadsTo (State.Acts.moves seen (State.charactersEnded_moves _ _ _)) (State.acceptFrame_leadsTo _ _ _
        (by simpa using s.inReset_of_alive (Bool.and_eq_true_iff.1 on).1))
  case planPut p => exact go _ (s.taken_leadsTo _ _ fun _ => .acts (s.takePlanPut_acts p))
  case planTail run tail => exact go _ (s.taken_leadsTo _ _ fun _ => .acts (s.takePlanTail_acts run tail))
  case planClear => exact go _ (s.taken_leadsTo _ _ fun _ => .acts s.takePlanClear_acts)
  case runOpen f present => exact go _ (s.taken_leadsTo _ _ fun _ => s.takeRunOpen_leadsTo f present)
  case loadReady run seq desc => exact go _ (s.taken_leadsTo _ _ fun _ => .acts (s.takeLoadReady_acts run seq desc))
  case runAbort run => exact go _ (s.taken_leadsTo _ _ fun _ => .acts (s.takeRunAbort_acts run))
  case runClose run => exact go _ (s.taken_leadsTo _ _ fun _ => .acts (s.takeRunClose_acts run))
  case holdSet holds => exact go _ (s.taken_leadsTo _ _ fun _ => .acts (s.setHolds_acts _))
  case eventClear clear mask => exact go _ (s.taken_leadsTo _ _ fun _ => s.owner_leadsTo (.eventClear clear mask) nofun)
  case statusAsk => exact go _ (s.taken_leadsTo _ _ fun _ => .acts (s.takeRequest_acts _ rfl))
  case recordAsk selector => exact go _ (s.taken_leadsTo _ _ fun _ => .acts (s.takeRequest_acts _ rfl))
  case recordMark slot number => exact go _ (s.taken_leadsTo _ _ fun _ => .acts (s.markRecord_acts _ _))
  case storeWipe => exact go _ (s.taken_leadsTo _ _ fun _ => .acts s.wipeStore_acts)
  case storeSumAsk count => exact go _ (s.taken_leadsTo _ _ fun _ => .acts (s.takeRequest_acts _ rfl))
  case restart => exact go _ (choice _ _ fun _ => .resets .refl _)
  case enrol x run => exact go _ (s.fromPeer_leadsTo _ _ _ fun _ => s.takeEnrol_acts x run)
  case done x run seq mask figure => exact go _ (s.fromPeer_leadsTo _ _ _ fun _ => s.takeDone_acts x run seq figure)
  case lapse x run seq addrs => exact go _ (s.fromPeer_leadsTo _ _ _ fun _ => s.takeLapse_acts run seq addrs)
  case withdraw x run seq reason => exact go _ (s.fromPeer_leadsTo _ _ _ fun h => s.takeWithdraw_acts x run h)
  case sealClaim x run serial => exact go _ (s.fromPeer_leadsTo _ _ _ fun _ => s.takeSealClaim_acts x run serial)
  case sealVoid x run claimer serial watermark =>
    exact go _ (s.fromPeer_leadsTo _ _ _ fun _ => s.takeSealVoid_acts run claimer serial watermark)
  case eraseEnd =>
    rw [exec_eraseEnd, execEraseEnd]
    split
    next h => exact ends (.erases s _ _ h) (.inr rfl)
    next => exact go _ (.acts .refl)
  case contentStepEnd =>
    rw [exec_contentStepEnd, execContentStepEnd]
    split
    next h => exact ends (.programs s _ _ _ h) (.inr rfl)
    next => exact go _ (.acts .refl)
  case levelStepEnd =>
    rw [exec_levelStepEnd, execLevelStepEnd]
    split
    next h => exact ends (.levels s _ _ h) (.inl rfl)
    next => exact go _ (.acts .refl)
  case markEnd =>
    rw [exec_markEnd, execMarkEnd]
    split
    next h => exact ends (.markEnds s _ _ _ h) (.inl rfl)
    next => exact go _ (.acts .refl)
  case wipeSlotErased =>
    rw [exec_wipeSlotErased, execWipeSlotErased]
    split
    next h =>
      split
      · exact ends (.wipesSlot s _ _ h) (.inl rfl)
      · exact go _ (.acts .refl)
    next => exact go _ (.acts .refl)
  case wipeEnd =>
    rw [exec_wipeEnd, execWipeEnd]
    split
    next h => exact ends (.wiped s _ h) (.inl rfl)
    next => exact go _ (.acts .refl)

end Sys2Proof.Machine
end

section
/-! PROOFS. O53 (R68, R96, R98, R109, R131, R141, R153, R156): every act keeps the sizes and bounds, and so does every step. -/

set_option Elab.async false

namespace Sys2Proof.Machine

/-! ### The operations of the store and of the seal unit -/

@[simp] theorem State.mapSlot_slots (s : State) (n : Nat) (f : Slot → Slot) :
    (s.mapSlot n f).rst.slots = s.rst.slots.set n (f (s.slot n)) := rfl

@[simp] theorem State.eraseSlot_slots (s : State) (n : Nat) : (s.eraseSlot n).rst.slots = s.rst.slots.set n Slot.erased := rfl

@[simp] theorem State.eraseSlot_damaged (s : State) (n : Nat) : (s.eraseSlot n).rst.damaged = s.rst.damaged.set n false := rfl

section
variable (s : State)

theorem State.enter_proceeds (st : RunState) (h : s.rsq.runState ≠ .clashed) (hc : st ≠ .clashed) (he : st ≠ .enrolling) :
    s.Proceeds (s.enter st) := by
  constructor <;> simp +contextual [State.Silent, State.ownEntry, h, hc, he]

theorem State.giveSeal_proceeds (o : SealOutcome) : s.Proceeds (s.giveSeal o) := by
  simp only [State.giveSeal]
  split
  next h =>
    have given : s.Proceeds (s.mapSeu fun u => { u with claim := { u.claim with state := .sealDone, confirm := none }, outcome := some o }) :=
      .of_eq
    exact given.trans (State.enter_proceeds _ .finished (by simp [h]) (by decide) (by decide))
  next => exact .of_eq

theorem State.markReported_proceeds (m : Mark) : s.Proceeds (s.markReported m) := by
  simp only [State.markReported]
  split
  · exact s.giveSeal_proceeds _
  · exact .refl s

theorem State.writeLost_proceeds (job : WriteJob) : s.Proceeds (s.writeLost job) := by
  have full := (s.raise_moves .storeFull).toProceeds
  simp only [State.writeLost]
  split
  · exact full
  next n _ =>
    have freed : s.Proceeds ((s.raise .storeFull).mapRst fun r => { r with reservation := if r.reservation = some n then none else r.reservation }) :=
      full.trans .of_eq
    split
    · exact freed.trans (State.giveSeal_proceeds _ _)
    · exact freed

theorem State.beginRequest_proceeds (q : StoreRequest) : s.Proceeds (s.beginRequest q).1 := by
  cases q with
  | write job =>
    have writes (n : Nat) : s.Proceeds (s.beginWrite n job) := .of_eq
    simp only [State.beginRequest]
    repeat' split
    · exact writes _
    · exact writes _
    · exact (s.raise_moves .storeFull).toProceeds
  | mark n m seu =>
    simp only [State.beginRequest]
    repeat' split
    · exact s.markReported_proceeds m
    · exact .refl s
    · exact .of_eq

/-- The list that begins is at most the one that waits, so that what is left of it keeps its bound. -/
theorem State.startList_proceeds (l : List StoreRequest) (h : l.length ≤ s.rst.waiting.length) : s.Proceeds (s.startList l) := by
  have shortened (rest : List StoreRequest) (hr : rest.length ≤ s.rst.waiting.length) :
      s.Proceeds (s.mapRst fun r => { r with waiting := rest }) := by
    constructor <;> simp +contextual [State.Silent, State.ownEntry, hr.trans]
  induction l generalizing s with
  | nil => exact shortened [] (by simp)
  | cons q rest ih =>
    rw [List.length_cons] at h
    have begun := (shortened rest (by omega)).trans (State.beginRequest_proceeds _ q)
    simp only [State.startList]
    split
    · exact begun
    · refine begun.trans (ih _ (by simp) fun rest' hr => ?_)
      constructor <;> simp +contextual [State.Silent, State.ownEntry, hr.trans]

theorem State.startNext_proceeds : s.Proceeds s.startNext := by
  simp only [State.startNext]
  split
  · exact .refl s
  · exact s.startList_proceeds _ le_rfl

theorem State.askStore_proceeds (q : StoreRequest) : s.Proceeds (s.askStore q) := by
  simp only [State.askStore]
  split
  · cases q with
    | write job => exact s.writeLost_proceeds job
    | mark n m seu =>
      simp only []
      split
      · exact s.markReported_proceeds m
      · exact .refl s
  next h =>
    have joined : s.Proceeds (s.mapRst fun r => { r with waiting := r.waiting ++ [q] }) := by
      constructor <;> simp +contextual [State.Silent, State.ownEntry]
      omega
    exact joined.trans (State.startNext_proceeds _)

theorem State.endSealing_proceeds (o : SealOutcome) : s.Proceeds (s.endSealing o) := by
  have given : s.Proceeds ((s.mapSeu fun u => { u with claim := { u.claim with serial := none, confirmed := false } }).giveSeal o) :=
    State.Proceeds.trans .of_eq (State.giveSeal_proceeds _ o)
  simp only [State.endSealing]
  split
  · exact given.trans (State.askStore_proceeds _ _)
  · exact given

theorem State.reserve_proceeds : s.Proceeds s.reserve := by
  simp only [State.reserve]
  split
  · exact (s.raise_moves .storeFull).toProceeds.trans (State.giveSeal_proceeds _ _)
  · split
    · exact State.Proceeds.trans .of_eq (State.endSealing_proceeds _ _)
    · exact State.Proceeds.trans .of_eq (State.offerClaim_moves _).toProceeds

theorem State.reserveNow_proceeds : s.Proceeds s.reserveNow := by
  simp only [State.reserveNow]
  split
  · exact State.Proceeds.trans .of_eq (State.reserve_proceeds _)
  · exact .refl s

theorem State.endOp_proceeds : s.Proceeds s.endOp := by
  have cleared : s.Proceeds (s.mapRst fun r => { r with op := none, opTimer := none, reserveAsked := false }) := .of_eq
  simp only [State.endOp]
  split
  · exact (cleared.trans (State.reserve_proceeds _)).trans (State.startNext_proceeds _)
  · exact cleared.trans (State.startNext_proceeds _)

theorem State.enterSealing_proceeds (h : s.rsq.runState ≠ .clashed) : s.Proceeds s.enterSealing := by
  have entered := s.enter_proceeds .sealing h (by decide) (by decide)
  simp only [State.enterSealing]
  split
  · exact entered.trans .of_eq
  · exact entered.trans (State.reserve_proceeds _)

theorem State.writeComplete_proceeds : s.Proceeds s.writeComplete := by
  simp only [State.writeComplete]
  repeat' split
  · exact .refl s
  · exact (s.raise_moves .pressFault).toProceeds.trans (State.askStore_proceeds _ _)
  · exact .of_eq

theorem State.levelDone_proceeds (n : Nat) (job : WriteJob) : s.Proceeds (s.levelDone n job) := by
  simp only [State.levelDone]
  split
  · exact (State.Proceeds.trans .of_eq (State.writeComplete_proceeds _)).trans (State.endOp_proceeds _)
  · exact State.Proceeds.trans .of_eq (State.endOp_proceeds _)

theorem State.confirmClaim_proceeds : s.Proceeds s.confirmClaim :=
  State.Proceeds.trans (t := s.mapSeu fun u => { u with claim := { u.claim with state := .recording, confirmed := true, confirm := none } })
    .of_eq (State.askStore_proceeds _ _)

end

/-! ### The acts -/

/-- Every act proceeds, but the waiting of a request and what follows when a frame leaves the reporting part. -/
theorem State.Act.proceeds {s t : State} (h : s.Act t) : s.Proceeds t ∨
    (∃ f, RxFrame.isRequest f = true ∧ s.reportRoom = false ∧ t = s.bufferFrame f) ∨
    t = (s.mapBli fun b => { b with report := b.report.drop 1 }).reportLeft := by
  cases h with
  | moves h => exact .inl h.toProceeds
  | files job => exact .inl (s.askStore_proceeds _)
  | leaves before _ _ after => exact .inl ((before.toProceeds.trans (State.askStore_proceeds _ _)).trans after.toProceeds)
  | marks n m => exact .inl (s.askStore_proceeds _)
  | strokeEnds m => exact .inl (State.Proceeds.trans .of_eq (State.askStore_proceeds _ _))
  | confirms => exact .inl s.confirmClaim_proceeds
  | claims c => exact .inl .of_eq
  | endsSealing o => exact .inl (s.endSealing_proceeds o)
  | reserves => exact .inl s.reserveNow_proceeds
  | abandons => exact .inl (State.Proceeds.trans .of_eq (State.giveSeal_proceeds _ _))
  | seals h => exact .inl (s.enterSealing_proceeds fun e => by simp [e, RunState.inPoints] at h)
  | wipes => exact .inl .of_eq
  | waits f h room => exact .inr (.inl ⟨f, h, room, rfl⟩)
  | reportLeaves => exact .inr (.inr rfl)

theorem State.StoreEnds.proceeds {s t : State} (h : s.StoreEnds t) : s.Proceeds t := by
  cases h with
  | erases n job => exact .of_eq
  | programs n job cells => exact .of_eq
  | levels n job => exact s.levelDone_proceeds n job
  | markEnds n m seu =>
    refine State.Proceeds.trans (t := if seu then (s.mapSlot n fun c => c.withMark m).markReported m else s.mapSlot n fun c => c.withMark m)
      ?_ (State.endOp_proceeds _)
    split
    · exact State.Proceeds.trans .of_eq (State.markReported_proceeds _ m)
    · exact .of_eq
  | wipesSlot n time => exact .of_eq
  | wiped n => exact State.Proceeds.trans .of_eq (State.endOp_proceeds _)

/-! ### Sizes -/

/-- The sizes of the tables and the bounds of the queues, the receive buffer apart. -/
structure State.Fits (s : State) : Prop where
  plan : s.plt.plan.length = 48
  roster : s.rsq.roster.length = 60
  slots : s.rst.slots.length = 32
  damaged : s.rst.damaged.length = 32
  coordination : s.bli.coord.length ≤ 6
  reporting : s.bli.report.length ≤ 4
  results : s.rrp.queue.length ≤ 16
  requests : s.rst.waiting.length ≤ 8
  voids : s.seu.voids.length ≤ 8

/-- The receive buffer holds at most 4 frames, requests all. -/
def Bli.HoldsRequests (b : Bli) : Prop := b.buffer.length ≤ 4 ∧ ∀ f ∈ b.buffer, f.isRequest = true

section
variable {s t : State}

theorem State.Sized.fits (h : s.Sized) : s.Fits :=
  ⟨h.plan, h.roster, h.slots, h.damaged, h.coordination, h.reporting, h.results, h.requests, h.voids⟩

theorem State.Sized.holdsRequests (h : s.Sized) : s.bli.HoldsRequests := ⟨h.buffer, fun f hf => (h.requestsWait f hf).1⟩

theorem State.Fits.sized (h : s.Fits) (hb : s.bli.HoldsRequests) (full : s.bli.buffer ≠ [] → s.bli.report.length = 4) : s.Sized where
  plan := h.plan
  roster := h.roster
  slots := h.slots
  damaged := h.damaged
  coordination := h.coordination
  reporting := h.reporting
  buffer := hb.1
  results := h.results
  requests := h.requests
  voids := h.voids
  requestsWait f hf := ⟨hb.2 f hf, full (List.ne_nil_of_mem hf)⟩

theorem State.Fits.proceeds (h : s.Fits) (p : s.Proceeds t) : t.Fits :=
  ⟨p.plan h.plan, p.roster.trans h.roster, p.slots.trans h.slots, p.damaged.trans h.damaged, p.coordination h.coordination,
    p.reporting h.reporting, p.results h.results, p.requests h.requests, p.voids h.voids⟩

theorem State.Sized.proceeds (h : s.Sized) (p : s.Proceeds t) : t.Sized := by
  have fits := h.fits.proceeds p
  refine fits.sized ?_ fun hb => ?_
  · simpa only [Bli.HoldsRequests, p.buffer] using h.holdsRequests
  · rw [p.buffer] at hb
    obtain ⟨f, hf⟩ := List.exists_mem_of_ne_nil _ hb
    have := (h.requestsWait f hf).2
    have := p.reports
    have := fits.reporting
    omega

theorem State.takeRequests_full (hs : s.reportRoom = false) (l : List RxFrame) : s.takeRequests l = s := by
  induction l with
  | nil => rfl
  | cons f rest ih => simp [State.takeRequests, hs, ih]

theorem State.reportRoom_eq_false (h : s.bli.report.length ≤ 4) : s.reportRoom = false ↔ s.bli.report.length = 4 := by
  simp only [State.reportRoom, decide_eq_false_iff_not]
  omega

/-- The requests that wait are taken until none is left or the reporting part is full (R96). -/
theorem State.Fits.takeRequests (h : s.Fits) (hb : s.bli.HoldsRequests) : (s.takeRequests s.bli.buffer).Sized := by
  generalize hl : s.bli.buffer = l
  induction l generalizing s with
  | nil => exact h.sized hb fun hne => absurd hl hne
  | cons f rest ih =>
    cases hroom : s.reportRoom with
    | false =>
      rw [State.takeRequests_full hroom]
      exact h.sized hb fun _ => (State.reportRoom_eq_false h.reporting).1 hroom
    | true =>
      obtain ⟨hlen, hreq⟩ := hb
      rw [hl] at hlen hreq
      simp only [State.takeRequests, hroom, hreq f List.mem_cons_self, Bool.and_self, if_true]
      have taken : (s.mapBli fun b => { b with buffer := b.buffer.erase f }).Fits :=
        ⟨h.plan, h.roster, h.slots, h.damaged, h.coordination, h.reporting, h.results, h.requests, h.voids⟩
      have left : ((s.mapBli fun b => { b with buffer := b.buffer.erase f }).answer f).bli.buffer = rest := by
        rw [(State.answer_moves _ f).buffer]
        simp [hl]
      refine ih (taken.proceeds (State.answer_moves _ f).toProceeds) ⟨?_, ?_⟩ left
      · rw [left]
        exact (Nat.le_succ _).trans hlen
      · rw [left]
        exact fun g hg => hreq g (List.mem_cons_of_mem f hg)

variable (s) in
theorem State.queueDueStatus_proceeds : s.Proceeds s.queueDueStatus := by
  simp only [State.queueDueStatus]
  split
  · exact ((s.offerReport_moves .status).trans (State.mapRrp_moves _ _ id)).toProceeds
  · exact .refl s

theorem State.Fits.reportLeft (h : s.Fits) (hb : s.bli.HoldsRequests) : s.reportLeft.Sized := by
  have due := s.queueDueStatus_proceeds
  have taken := (h.proceeds due).takeRequests (by simpa only [Bli.HoldsRequests, due.buffer] using hb)
  exact taken.proceeds (State.testResult_moves _).toProceeds

theorem State.Sized.bufferFrame (h : s.Sized) (f : RxFrame) (hf : f.isRequest = true) (room : s.reportRoom = false) :
    (s.bufferFrame f).Sized := by
  have full := (State.reportRoom_eq_false h.reporting).1 room
  simp only [State.bufferFrame]
  split
  next hroom =>
    have short : s.bli.buffer.length < 4 := by simpa [Bli.hasBufferRoom] using hroom
    refine State.Fits.sized ⟨h.plan, h.roster, h.slots, h.damaged, h.coordination, h.reporting, h.results, h.requests, h.voids⟩ ⟨?_, ?_⟩
      fun _ => full
    · simpa using short
    · intro g hg
      simp only [State.mapBli_bli, List.mem_append, List.mem_singleton] at hg
      exact hg.elim (fun hg => (h.requestsWait g hg).1) fun e => e ▸ hf
  next => exact h.proceeds (State.Proceeds.trans .of_eq (State.raise_moves _ .rxOverrun).toProceeds)

theorem State.Sized.act (h : s.Sized) (a : s.Act t) : t.Sized := by
  rcases a.proceeds with p | ⟨f, hf, room, rfl⟩ | rfl
  · exact h.proceeds p
  · exact h.bufferFrame f hf room
  · refine State.Fits.reportLeft ⟨h.plan, h.roster, h.slots, h.damaged, h.coordination, ?_, h.results, h.requests, h.voids⟩ h.holdsRequests
    simpa using h.reporting.trans (by omega)

theorem State.Sized.acts (h : s.Sized) (a : s.Acts t) : t.Sized := by
  induction a with
  | refl => exact h
  | tail _ a ih => exact ih.act a

end

/-! ### The address clash -/

/-- What a clash stops: the point, the run's timers, and the frames to send (R167). -/
def State.clashStops (s : State) : State :=
  ((s.leavePoint.stopRunTimers.mapBli fun b => { b with coord := [], report := [], waiting := [], attempt := none }).mapRrp fun r =>
    { r with statusDue := false }).enter .clashed

/-- A run without a verdict takes INCOMPLETE, and a sealing ends as RUN ABORT ends it (R167). -/
def State.clashSettles (s : State) : State :=
  let t := if s.unsettled then s.clashStops.takeIncomplete else s.clashStops
  if s.rsq.runState = .sealing then t.abortSeal s.runNumber else t

section
variable (s : State)

theorem State.enterClashed_eq : s.enterClashed = if s.bli.report.isEmpty then s.clashSettles else s.clashSettles.reportLeft := rfl

theorem State.abortSeal_proceeds (run : Half) : s.Proceeds (s.abortSeal run) := by
  have gone := (s.withdrawFrames_moves (isSealOf run)).toProceeds
  simp only [State.abortSeal]
  repeat' split
  · exact gone.trans (State.Proceeds.trans .of_eq (State.giveSeal_proceeds _ _))
  · exact gone
  · exact gone.trans (State.endSealing_proceeds _ _)
  · exact gone.trans (State.endSealing_proceeds _ _)
  all_goals exact gone

theorem State.clashSettles_proceeds : s.clashStops.Proceeds s.clashSettles := by
  have settled : s.clashStops.Proceeds (if s.unsettled then s.clashStops.takeIncomplete else s.clashStops) := by
    split
    · exact State.Proceeds.trans .of_eq (State.askStore_proceeds _ _)
    · exact .refl _
  simp only [State.clashSettles]
  split
  · exact settled.trans (State.abortSeal_proceeds _ _)
  · exact settled

theorem State.clashStops_buffer : s.clashStops.bli.buffer = s.bli.buffer := by simp [State.clashStops]

/-- The reporting part is emptied, so that the requests that wait are taken; with it empty none waits (R96). -/
theorem State.Sized.enterClashed {s : State} (h : s.Sized) : s.enterClashed.Sized := by
  have stopped : s.clashStops.Fits := by
    constructor <;> simp [State.clashStops, h.plan, h.roster, h.slots, h.damaged, h.results, h.requests, h.voids]
  have settles := s.clashSettles_proceeds
  have buffer : s.clashSettles.bli.buffer = s.bli.buffer := settles.buffer.trans s.clashStops_buffer
  have held : s.clashSettles.bli.HoldsRequests := by
    simpa only [Bli.HoldsRequests, buffer] using h.holdsRequests
  rw [State.enterClashed_eq]
  split
  next empty =>
    refine (stopped.proceeds settles).sized held fun hb => ?_
    obtain ⟨f, hf⟩ := List.exists_mem_of_ne_nil _ (buffer ▸ hb)
    have full := (h.requestsWait f hf).2
    simp [List.isEmpty_iff.1 empty] at full
  next => exact (stopped.proceeds settles).reportLeft held

/-! ### RUN OPEN, resets and start-up -/

theorem State.Sized.openBlocks {s : State} (h : s.Sized) (f : RunOpenFields) : (s.openBlocks f).Sized where
  plan := h.plan
  roster := by simp [State.openBlocks, Rsq.openRun]
  slots := h.slots
  damaged := h.damaged
  coordination := h.coordination
  reporting := h.reporting
  buffer := h.buffer
  results := h.results
  requests := h.requests
  voids := by simp [State.openBlocks, Seu.openRun]
  requestsWait := h.requestsWait

theorem cutSlots_length (slots : List Slot) (op : Option StoreOp) (bits : BitVec 240) (phase : BitVec 2) :
    (cutSlots slots op bits phase).length = slots.length := by
  unfold cutSlots
  split <;> simp

theorem State.Sized.resetWith {s : State} (h : s.Sized) (cause : ResetCause) : (s.resetWith cause).Sized := by
  constructor <;> simp [State.resetWith, State.inReset, Plt.reset, Rsq.reset, Bli.reset, Rrp.reset, Seu.reset, Rst.afterReset, cutSlots_length,
    h.slots]

theorem State.startingHears_moves (h : Heard) : s.Moves (s.startingHears h) := by
  cases h with
  | error bad => exact (s.see_moves _).trans (State.receiveError_moves _)
  | frame bytes line ago =>
    have seen := s.see_moves line
    simp only [State.startingHears]
    split
    · exact seen.trans (State.receiveError_moves _)
    · refine (seen.trans (State.charactersEnded_moves _ bytes ago)).trans ?_
      simp only [State.startingFrame]
      repeat' split
      · exact State.heard_moves _ _
      · exact (State.heard_moves _ _).trans (State.stray_moves _)
      · exact State.heard_moves _ _

theorem State.startingHears_foldl_moves (l : List Heard) : s.Moves (l.foldl State.startingHears s) := by
  induction l generalizing s with
  | nil => exact .refl s
  | cons h rest ih => exact (s.startingHears_moves h).trans (ih _)

theorem State.Sized.scanStore {s : State} (h : s.Sized) : s.scanStore.Sized := by
  have scanned : (s.mapRst fun r => { r with damaged := r.slots.map Slot.scanDamaged }).Sized :=
    ⟨h.plan, h.roster, h.slots, by simp [h.slots], h.coordination, h.reporting, h.buffer, h.results, h.requests, h.voids, h.requestsWait⟩
  simp only [State.scanStore]
  split
  · exact scanned.proceeds (State.raise_moves _ _).toProceeds
  · exact scanned

theorem State.Sized.enter {s : State} (h : s.Sized) (st : RunState) : (s.enter st).Sized :=
  ⟨h.plan, h.roster, h.slots, h.damaged, h.coordination, h.reporting, h.buffer, h.results, h.requests, h.voids, h.requestsWait⟩

theorem State.Sized.mapSys {s : State} (h : s.Sized) (f : Station → Station) : (s.mapSys f).Sized :=
  ⟨h.plan, h.roster, h.slots, h.damaged, h.coordination, h.reporting, h.buffer, h.results, h.requests, h.voids, h.requestsWait⟩

theorem State.Sized.endReset {s : State} (h : s.Sized) (addr : BitVec 6) (rate : BitVec 2) (heard : List Heard) :
    (s.endReset addr rate heard).Sized := by
  simp only [State.endReset]
  split
  next a r _ _ =>
    have scanned := ((h.mapSys fun y => { y with inReset := false, address := a, rate := r }).proceeds
      (State.startingHears_foldl_moves _ heard).toProceeds).scanStore
    simp only [State.startUp]
    split
    · exact (((scanned.proceeds (State.raise_moves _ _).toProceeds).proceeds (State.offerReport_moves _ _).toProceeds).enter _).proceeds
        (State.queueDueStatus_proceeds _)
    · exact ((scanned.proceeds (State.offerReport_moves _ _).toProceeds).enter _).proceeds (State.queueDueStatus_proceeds _)
  next => exact (h.mapSys _).enter _

/-! ### Every step -/

theorem State.Sized.leadsTo {s t : State} (h : s.Sized) (l : s.LeadsTo t) : t.Sized := by
  cases l with
  | acts a => exact h.acts a
  | opens f before _ _ after => exact ((h.acts before).openBlocks f).acts after
  | clashes before _ _ => exact (h.acts before).enterClashed
  | resets before cause => exact (h.acts before).resetWith cause

/-- An idle step leaves the claim and the lamps but for their timers. -/
theorem State.idle_seu : ∃ confirm flash, s.idle.seu.claim = { s.seu.claim with confirm := confirm } ∧
    s.idle.seu.lamps = { s.seu.lamps with flashTimer := flash } := by
  simp only [State.idle, State.post, State.tick, State.micro, State.microTimers, State.tenMs]
  repeat' split
  all_goals exact ⟨_, _, rfl, rfl⟩

/-- An idle step leaves the run, the claim and the queues as they are. -/
theorem State.idle_moves : s.Moves s.idle := by
  obtain ⟨confirm, flash, hclaim, -⟩ := s.idle_seu
  constructor
  · exact .of_eq
  · simp [hclaim]
  · simp
  · simp
  · simp
  · simp
  · exact fun h => .inr ⟨by simpa using h, .inl (by simp)⟩

theorem step_eq_idle {s : State} (h : s.pending = []) : step s = .next s.idle := by simp [step, h]

theorem step_eq_exec {s : State} {c : Instr} {rest : List Instr} (h : s.pending = c :: rest) :
    step s = exec c { s with pending := rest } := by simp [step, h]

/-- What a step does: an idle step, or what its command leads to, with the lamps following. -/
theorem step_cases {s t : State} (h : step s = .next t) : t = s.idle ∨ ∃ rest u, t = u.relamp ∧
    (({ s with pending := rest } : State).LeadsTo u ∨ ({ s with pending := rest } : State).EndsOn u ∨
      s.sys.inReset = true ∧ ∃ addr rate heard, u = ({ s with pending := rest } : State).endReset addr rate heard) := by
  rcases hp : s.pending with _ | ⟨c, rest⟩
  · rw [step_eq_idle hp] at h
    exact .inl (Host.Outcome.next.inj h).symm
  · obtain ⟨u, hu, led⟩ := exec_leadsTo { s with pending := rest } c
    rw [step_eq_exec hp, hu] at h
    exact .inr ⟨rest, u, (Host.Outcome.next.inj h).symm, led⟩

theorem State.Sized.pending {s : State} (h : s.Sized) (l : List Instr) : ({ s with pending := l } : State).Sized :=
  ⟨h.plan, h.roster, h.slots, h.damaged, h.coordination, h.reporting, h.buffer, h.results, h.requests, h.voids, h.requestsWait⟩

end

/-- Settles O53: what a command leads to is a number of acts, a clash, a reset or its end, and each keeps the sizes. -/
theorem tablesAndQueuesKeepTheirBounds : Obligations.TablesAndQueuesKeepTheirBounds := by
  unfold Obligations.TablesAndQueuesKeepTheirBounds
  intro s t h hst
  obtain rfl | ⟨rest, u, rfl, led | ⟨v, first, follows⟩ | ⟨-, addr, rate, heard, rfl⟩⟩ := step_cases hst
  · exact h.proceeds s.idle_moves.toProceeds
  · exact ((h.pending rest).leadsTo led).proceeds u.relamp_moves.toProceeds
  · exact (((h.pending rest).proceeds first.proceeds).acts (State.reserveNow_follows follows)).proceeds u.relamp_moves.toProceeds
  · exact ((h.pending rest).endReset addr rate heard).proceeds (State.relamp_moves _).toProceeds

end Sys2Proof.Machine
end

section
/-! PROOFS. O57 and O58 (R65, R99, R105, R109, R111, R116, R140, R167): a run only goes forward, and a clashed station stays silent. -/

set_option Elab.async false

namespace Sys2Proof.Machine

/-! ### The course of a run -/

/-- From `s` to `t` the run, if it is the same, has only gone forward. -/
structure State.GoesOn (s t : State) : Prop where
  run : t.rsq.run = s.rsq.run
  address : t.sys.address = s.sys.address
  watermark : s.seu.watermark ≤ t.seu.watermark
  seq : s.rsq.runState = .enrolling ∨ s.rsq.seq ≤ t.rsq.seq
  starts : t.rsq.runState = .enrolling → s.rsq.runState = .enrolling ∧ t.rsq.seq = s.rsq.seq ∧ (s.OwnOpen → t.OwnOpen)
  peers : ∀ x, (rosterAt s.rsq.roster x).status.left → x ≠ s.sys.address →
    (rosterAt t.rsq.roster x).status = (rosterAt s.rsq.roster x).status
  own : s.ownEntry.status.left → s.rsq.runState = .enrolling ∨ t.ownEntry.status.left

section
variable {s t u : State}

theorem State.Proceeds.goesOn (p : s.Proceeds t) (joins : t.rsq.runState = .enrolling → s.OwnOpen → t.OwnOpen) : s.GoesOn t :=
  ⟨p.run, p.address, p.watermark, p.seq, fun h => ⟨(p.starts h).1, (p.starts h).2, joins h⟩, p.peers, p.own⟩

theorem State.Proceeds.goesOn_of_roster (p : s.Proceeds t) (roster : t.rsq.roster = s.rsq.roster) : s.GoesOn t :=
  p.goesOn fun _ => by simp [State.OwnOpen, State.ownEntry, roster, p.address]

theorem State.GoesOn.of_eq (rsq : t.rsq = s.rsq := by simp) (address : t.sys.address = s.sys.address := by simp)
    (watermark : t.seu.watermark = s.seu.watermark := by simp) : s.GoesOn t := by
  constructor <;> simp +contextual [State.OwnOpen, State.ownEntry, *]

theorem State.GoesOn.refl (s : State) : s.GoesOn s := .of_eq

theorem State.GoesOn.trans (h1 : s.GoesOn t) (h2 : t.GoesOn u) : s.GoesOn u where
  run := h2.run.trans h1.run
  address := h2.address.trans h1.address
  watermark := h1.watermark.trans h2.watermark
  seq := by
    rcases h1.seq with h | h
    · exact .inl h
    · exact h2.seq.imp (fun e => (h1.starts e).1) h.trans
  starts h := by
    obtain ⟨ht, hseq, hjoin⟩ := h2.starts h
    obtain ⟨hs, hseq', hjoin'⟩ := h1.starts ht
    exact ⟨hs, hseq.trans hseq', fun ho => hjoin (hjoin' ho)⟩
  peers x h hx := by
    have ht := h1.peers x h hx
    exact (h2.peers x (ht ▸ h) (h1.address ▸ hx)).trans ht
  own h := (h1.own h).elim .inl fun ht => (h2.own ht).imp (fun e => (h1.starts e).1) id

/-- The acts that are no moves leave the roster alone, but the one that takes the station out of the run. -/
theorem State.Act.goesOn (a : s.Act t) : s.GoesOn t := by
  rcases a.proceeds with p | ⟨f, -, -, rfl⟩ | rfl
  · cases a
    case moves h own => exact p.goesOn own
    case leaves before filed slot after out => exact p.goesOn fun e => absurd e out
    all_goals exact p.goesOn_of_roster (by simp)
  · exact .of_eq
  · exact .of_eq

theorem State.StoreEnds.goesOn (a : s.StoreEnds t) : s.GoesOn t := by
  refine a.proceeds.goesOn_of_roster ?_
  cases a
  case markEnds n m seu h => cases seu <;> simp
  all_goals simp

theorem State.Acts.goesOn (a : s.Acts t) : s.GoesOn t := by
  induction a with
  | refl => exact .refl _
  | tail _ a ih => exact ih.trans a.goesOn

theorem State.GoesOn.seqStarts (h : s.GoesOn t) (hs : s.SeqStarts) : t.SeqStarts := fun ht =>
  (h.starts ht).2.1.trans (hs (h.starts ht).1)

theorem State.GoesOn.ownEntryJoins (h : s.GoesOn t) (hs : s.OwnEntryJoins) : t.OwnEntryJoins := fun ht =>
  (h.starts ht).2.2 (hs (h.starts ht).1)

theorem State.OwnOpen.not_left (h : s.OwnOpen) : ¬ s.ownEntry.status.left := by
  rcases h with h | h <;> simp [PeerStatus.left, h]

/-- A run that goes on from its invariants: neither H nor s falls, and no entry comes back. -/
theorem State.GoesOn.forward (h : s.GoesOn t) (hs : s.SeqStarts) (ho : s.OwnEntryJoins) :
    s.seu.watermark ≤ t.seu.watermark ∧ s.rsq.seq ≤ t.rsq.seq ∧
      ∀ x, (rosterAt s.rsq.roster x).status.left → (rosterAt t.rsq.roster x).status.left ∧
        (x ≠ s.sys.address → (rosterAt t.rsq.roster x).status = (rosterAt s.rsq.roster x).status) := by
  refine ⟨h.watermark, h.seq.elim (fun e => (hs e).trans_le (Nat.zero_le _)) id, fun x hx => ⟨?_, h.peers x hx⟩⟩
  by_cases he : x = s.sys.address
  · rw [he] at hx ⊢
    rw [← h.address]
    exact (h.own hx).resolve_left fun e => State.OwnOpen.not_left (ho e) hx
  · rw [h.peers x hx he]
    exact hx

end

/-! ### The silence of a clashed station -/

section
variable {s t : State}

theorem State.takeRequests_silent (l : List RxFrame) (h : s.Silent) : (s.takeRequests l).Silent := by
  induction l generalizing s with
  | nil => exact h
  | cons f rest ih =>
    simp only [State.takeRequests]
    split
    · exact ih ((State.answer_moves _ f).silent h)
    · exact ih h

theorem State.reportLeft_silent (h : s.Silent) : s.reportLeft.Silent :=
  (State.testResult_moves _).silent (State.takeRequests_silent _ (s.queueDueStatus_proceeds.silent h))

theorem State.bufferFrame_silent (f : RxFrame) (h : s.Silent) : (s.bufferFrame f).Silent := by
  simp only [State.bufferFrame]
  split
  · exact h
  · exact (State.raise_moves _ .rxOverrun).silent h

theorem State.Act.silent (a : s.Act t) (h : s.Silent) : t.Silent := by
  rcases a.proceeds with p | ⟨f, -, -, rfl⟩ | rfl
  · exact p.silent h
  · exact State.bufferFrame_silent f h
  · refine State.reportLeft_silent ?_
    obtain ⟨hs, hc, hr, hw, ha, hp⟩ := h
    exact ⟨hs, hc, by simp [hr], hw, ha, hp⟩

theorem State.Act.clashed (a : s.Act t) (h : t.rsq.runState = .clashed) : s.rsq.runState = .clashed := by
  rcases a.proceeds with p | ⟨f, -, -, rfl⟩ | rfl
  · exact p.clashed h
  · simpa using h
  · simpa using h

theorem State.Acts.silent (a : s.Acts t) (h : s.Silent) : t.Silent := by
  induction a with
  | refl => exact h
  | tail _ a ih => exact a.silent ih

theorem State.Acts.clashed (a : s.Acts t) (h : t.rsq.runState = .clashed) : s.rsq.runState = .clashed := by
  induction a with
  | refl => exact h
  | tail _ a ih => exact ih (a.clashed h)

variable (s) in
theorem State.clashStops_silent : s.clashStops.Silent := by
  refine ⟨rfl, ?_, ?_, ?_, ?_, ?_⟩ <;> simp [State.clashStops, State.leavePoint_phase, State.stopRunTimers]

variable (s) in
theorem State.enterClashed_silent : s.enterClashed.Silent := by
  have settled := s.clashSettles_proceeds.silent s.clashStops_silent
  rw [State.enterClashed_eq]
  split
  · exact settled
  · exact State.reportLeft_silent settled

/-- Silence, as a station that has not clashed has it too. -/
theorem State.silenced_iff : s.Silenced ↔ (s.rsq.runState = .clashed → s.Silent) :=
  ⟨fun h e => ⟨e, h e⟩, fun h e => (h e).2⟩

theorem State.Silenced.of_proceeds (h : s.Silenced) (p : s.Proceeds t) : t.Silenced :=
  State.silenced_iff.2 fun e => p.silent (State.silenced_iff.1 h (p.clashed e))

theorem State.Silenced.leadsTo (h : s.Silenced) (l : s.LeadsTo t) : t.Silenced := by
  rw [State.silenced_iff] at h ⊢
  cases l with
  | acts a => exact fun e => a.silent (h (a.clashed e))
  | opens f before takes run after => exact fun e => absurd (after.clashed e) (by simp [State.openBlocks, Rsq.openRun])
  | clashes before hc on => exact fun _ => State.enterClashed_silent _
  | resets before cause => exact fun e => absurd e (by simp [State.resetWith, State.inReset, Rsq.reset])

/-- Only a reset ends it. -/
theorem State.Silent.leadsTo (h : s.Silent) (l : s.LeadsTo t) : t.rsq.runState = .clashed ∨ t.sys.inReset = true := by
  cases l with
  | acts a => exact .inl (a.silent h).1
  | opens f before takes run after => exact absurd takes (by simp [(before.silent h).1, RunState.takesOpen])
  | clashes before hc on => exact absurd (before.silent h).1 hc
  | resets before cause => exact .inr rfl

end

/-! ### Runs and resets -/

theorem rosterAt_replicate_reset (n x : Nat) : rosterAt (List.replicate n RosterEntry.reset) x = RosterEntry.reset := by
  cases x with
  | zero => rfl
  | succ x => simp [rosterAt, List.getD_eq_getElem?_getD, List.getElem?_replicate, apply_ite (Option.getD · RosterEntry.reset)]

section
variable {s t : State}

theorem State.endReset_runState (s : State) (addr : BitVec 6) (rate : BitVec 2) (heard : List Heard) :
    (s.endReset addr rate heard).rsq.runState = .idle ∨ (s.endReset addr rate heard).rsq.runState = .strapError := by
  simp only [State.endReset]
  split
  · exact .inl (by simp [State.startUp])
  · exact .inr rfl

/-- The invariants of a run, and what a step keeps while the run is the same. -/
theorem State.LeadsTo.forward (l : s.LeadsTo t) (hs : s.SeqStarts) (ho : s.OwnEntryJoins) :
    t.SeqStarts ∧ t.OwnEntryJoins ∧ (t.rsq.run = s.rsq.run → t.sys.inReset = false → s.GoesOn t) := by
  cases l with
  | acts a => exact ⟨a.goesOn.seqStarts hs, a.goesOn.ownEntryJoins ho, fun _ _ => a.goesOn⟩
  | @opens v _ f before takes run after =>
    have goes := after.goesOn
    refine ⟨goes.seqStarts fun _ => rfl, goes.ownEntryJoins fun _ => .inl ?_, fun e => absurd ?_ run⟩
    · exact congrArg RosterEntry.status (rosterAt_replicate_reset 60 v.sys.address)
    · exact before.goesOn.run.trans (e.symm.trans goes.run)
  | @clashes v before hc on =>
    have clashed := v.enterClashed_silent.1
    have still : v.GoesOn v.enterClashed := by
      constructor <;> simp +contextual [State.ownEntry, clashed]
    have goes := before.goesOn.trans still
    exact ⟨goes.seqStarts hs, goes.ownEntryJoins ho, fun _ _ => goes⟩
  | resets before cause => exact ⟨nofun, nofun, fun _ h => nomatch h⟩

end

/-- Settles O57: every step but RUN OPEN and a reset goes on with the run. -/
theorem runsOnlyGoForward : Obligations.RunsOnlyGoForward := by
  unfold Obligations.RunsOnlyGoForward
  intro s t hs ho hst
  obtain rfl | ⟨rest, u, rfl, led | ⟨v, first, follows⟩ | ⟨-, addr, rate, heard, rfl⟩⟩ := step_cases hst
  · have goes : s.GoesOn s.idle := s.idle_moves.toProceeds.goesOn_of_roster (by simp)
    exact ⟨goes.seqStarts hs, goes.ownEntryJoins ho, fun _ _ => goes.forward hs ho⟩
  · obtain ⟨seq, own, goes⟩ := led.forward hs ho
    have lamps : u.GoesOn u.relamp := .of_eq
    exact ⟨lamps.seqStarts seq, lamps.ownEntryJoins own, fun hr hi =>
      ((goes (lamps.run.symm.trans hr) (by simpa using hi)).trans lamps).forward hs ho⟩
  · have goes := (first.goesOn.trans (State.reserveNow_follows follows).goesOn).trans (State.GoesOn.of_eq (t := u.relamp))
    exact ⟨goes.seqStarts hs, goes.ownEntryJoins ho, fun _ _ => goes.forward hs ho⟩
  · have state := State.endReset_runState { s with pending := rest } addr rate heard
    refine ⟨fun e => ?_, fun e => ?_, fun _ _ => ?_⟩
    · simp at e; simp [e] at state
    · simp at e; simp [e] at state
    · simp

/-- Settles O58: the lamps follow at the end of every command, and from its entry into CLASHED a station is silent until a reset. -/
theorem lampsFollowAndClashesStaySilent : Obligations.LampsFollowAndClashesStaySilent := by
  unfold Obligations.LampsFollowAndClashesStaySilent
  intro s t hst
  obtain rfl | ⟨rest, u, rfl, led | ⟨v, first, follows⟩ | ⟨inReset, addr, rate, heard, rfl⟩⟩ := step_cases hst
  · have idle := s.idle_moves.toProceeds
    refine ⟨fun h => ?_, fun h => h.of_proceeds idle, fun h e => .inl (idle.silent (State.silenced_iff.1 h e)).1⟩
    obtain ⟨confirm, flash, -, hlamps⟩ := s.idle_seu
    have drives : s.idle.lampDrives = s.lampDrives := State.lampDrives_congr s s.idle (by simp) (by simp) (by simp) (by simp)
    rw [State.LampsFollow, drives, hlamps]
    exact h
  · refine ⟨fun _ => u.relamp_follows, fun h => ?_, fun h e => ?_⟩
    · exact (State.Silenced.leadsTo (s := { s with pending := rest }) h led).of_proceeds u.relamp_moves.toProceeds
    · have silent : State.Silent { s with pending := rest } := State.silenced_iff.1 h e
      rcases silent.leadsTo led with h | h <;> simp [h]
  · refine ⟨fun _ => u.relamp_follows, fun h => ?_, fun h e => .inl ?_⟩
    · have ended : v.Silenced := State.Silenced.of_proceeds (s := { s with pending := rest }) h first.proceeds
      exact (ended.leadsTo (.acts (State.reserveNow_follows follows))).of_proceeds u.relamp_moves.toProceeds
    · have silent : State.Silent { s with pending := rest } := State.silenced_iff.1 h e
      simpa using ((State.reserveNow_follows follows).silent (first.proceeds.silent silent)).1
  · refine ⟨fun _ => State.relamp_follows _, fun _ e => ?_, fun _ _ => .inr (.inr inReset)⟩
    have state := State.endReset_runState { s with pending := rest } addr rate heard
    simp at e
    simp [e] at state

end Sys2Proof.Machine
end

section
/-! PROOFS. O55 (R153, R155): the slots set aside for the seal unit's records, and the invariant that keeps a SEALED record. -/

set_option Elab.async false

namespace Sys2Proof.Machine

/-! ### The slot that a write may take (R155) -/

section
variable (s : State)

theorem Rst.mem_waitingSlots {r : Rst} {n : Nat} : n ∈ r.waitingSlots ↔ ∃ job, .write job ∈ r.waiting ∧ job.slot = some n := by
  simp only [Rst.waitingSlots, List.mem_filterMap]
  constructor
  · rintro ⟨q, hq, h⟩
    cases q with
    | write job => exact ⟨job, hq, h⟩
    | mark m k seu => exact nomatch h
  · rintro ⟨job, hq, h⟩
    exact ⟨_, hq, h⟩

/-- The slots that a write or a reservation chooses among, in their order. -/
def State.freeSlots : List Nat := (List.range 32).filter fun n => s.slotFree n && !s.rst.writing n

theorem Rst.holdsSlot_iff {r : Rst} {n : Nat} : r.holdsSlot n = true ↔
    r.reservation = some n ∨ (∃ m job, r.write = some (m, job) ∧ job.slot = some n) ∨ ∃ job, .write job ∈ r.waiting ∧ job.slot = some n := by
  simp only [Rst.holdsSlot, Bool.or_eq_true, List.any_eq_true, decide_eq_true_eq, or_assoc]
  refine or_congr_right (or_congr ?_ ⟨?_, ?_⟩)
  · cases r.write with
    | none => simp
    | some w => exact ⟨fun h => ⟨w.1, w.2, rfl, by simpa using h⟩, fun ⟨m, job, hw, h⟩ => by cases hw; simpa using h⟩
  · rintro ⟨q, hq, h⟩
    cases q with
    | write job => exact ⟨job, hq, by simpa using h⟩
    | mark m k seu => exact nomatch h
  · rintro ⟨job, hq, h⟩
    exact ⟨_, hq, by simpa using h⟩

theorem Rst.writing_iff {r : Rst} {n : Nat} : r.writing n = true ↔ ∃ job, r.write = some (n, job) := by
  rw [Rst.writing]
  cases r.write with
  | none => simp
  | some w => simp [Prod.ext_iff]

theorem State.mem_freeSlots {n : Nat} : n ∈ s.freeSlots ↔ s.MayTake n := by
  have held := Rst.holdsSlot_iff (r := s.rst) (n := n)
  have written := Rst.writing_iff (r := s.rst) (n := n)
  simp only [State.freeSlots, List.mem_filter, List.mem_range, State.MayTake, State.slotFree, Bool.and_eq_true, Bool.or_eq_true,
    Bool.not_eq_true', ← Bool.not_eq_true, held, written]
  constructor
  · rintro ⟨hn, ⟨hfree, hheld⟩, hwriting⟩
    exact ⟨hn, hfree, fun h => hheld (.inl h), fun m job hw => ⟨fun e => hwriting ⟨job, e ▸ hw⟩, fun e => hheld (.inr (.inl ⟨m, job, hw, e⟩))⟩,
      fun job hq e => hheld (.inr (.inr ⟨job, hq, e⟩))⟩
  · rintro ⟨hn, hfree, hres, hwrite, hwait⟩
    refine ⟨hn, ⟨hfree, ?_⟩, fun ⟨job, hw⟩ => (hwrite n job hw).1 rfl⟩
    rintro (h | ⟨m, job, hw, e⟩ | ⟨job, hq, e⟩)
    · exact hres h
    · exact (hwrite m job hw).2 e
    · exact hwait job hq e

theorem State.oldest_mem {l : List Nat} {n : Nat} (h : s.oldest l = some n) : n ∈ l := by
  simp only [State.oldest] at h
  have kept (l' : List Nat) (best : Option Nat) : l'.foldl (fun best n => match best with
      | none => some n
      | some m => if behind s.rst.lastRecord (s.slot m).number < behind s.rst.lastRecord (s.slot n).number then some n else some m) best =
      some n → best = some n ∨ n ∈ l' := by
    induction l' generalizing best with
    | nil => exact .inl
    | cons k rest ih =>
      intro h
      rcases ih _ h with h | h
      · cases best with
        | none => exact .inr (by simp_all)
        | some m =>
          simp only at h
          split at h <;> simp_all
      · exact .inr (List.mem_cons_of_mem k h)
  exact (kept l none h).resolve_left nofun

theorem State.chooseSlot_mayTake {n : Nat} (h : s.chooseSlot = some n) : s.MayTake n := by
  rw [← State.mem_freeSlots]
  simp only [State.chooseSlot] at h
  split at h
  next m hm => exact Option.some.inj h ▸ List.mem_of_find?_eq_some hm
  next =>
    split at h
    next m hm => exact Option.some.inj h ▸ List.mem_of_find?_eq_some hm
    next => exact s.oldest_mem h

end

/-! ### The invariant through the operations of the store -/

section
variable {s t : State}

theorem Seu.holds_iff {u : Seu} : u.holds = true ↔ u.claim.state = .claimWait ∨ u.claim.state = .claimOpen := by simp [Seu.holds]

/-- The invariant speaks of the slots, the operation, the writes that wait, the reservation and the claim's hold of its slot. -/
theorem State.StoreSound.of_eq (h : s.StoreSound) (slots : t.rst.slots = s.rst.slots := by simp) (op : t.rst.op = s.rst.op := by simp)
    (waiting : t.rst.waitingSlots = s.rst.waitingSlots := by simp [Rst.waitingSlots])
    (reservation : t.rst.reservation = s.rst.reservation := by simp) (holds : t.seu.holds = true → s.seu.holds = true := by simp [Seu.holds_iff])
    (slot : t.seu.holds = true → t.seu.claim.slot = s.seu.claim.slot := by simp) : t.StoreSound := by
  have hslot (n : Nat) : t.slot n = s.slot n := by rw [State.slot, slots]; rfl
  have hwrite : t.rst.write = s.rst.write := by simp only [Rst.write, op]
  have hwriteSlot : t.rst.writeSlot = s.rst.writeSlot := by simp only [Rst.writeSlot, hwrite]
  constructor
  · have sound := h.op
    simp only [State.OpSound] at sound ⊢
    simpa only [op, slots, hslot] using sound
  · simpa only [reservation, hslot] using h.reserved
  · simpa only [waiting, hslot] using h.waiting
  · simpa only [waiting] using h.apart
  · simpa only [waiting, hwriteSlot] using h.writing
  · simpa only [hwrite, reservation] using h.placed
  · intro hh
    simpa only [slot hh, reservation, waiting, hwriteSlot] using h.claimed (holds hh)

theorem State.StoreSound.moves (h : s.StoreSound) (m : s.Moves t) : t.StoreSound :=
  h.of_eq m.cells m.store.1 (by simp only [Rst.waitingSlots, m.store.2.1]) m.store.2.2.1 (by simp [Seu.holds, m.claim.1]) fun _ => m.claim.2.2.2

theorem State.StoreSound.giveSeal (h : s.StoreSound) (o : SealOutcome) : (s.giveSeal o).StoreSound := by
  simp only [State.giveSeal]
  split <;> exact h.of_eq

theorem State.StoreSound.markReported (h : s.StoreSound) (m : Mark) : (s.markReported m).StoreSound := by
  simp only [State.markReported]
  split
  · exact h.giveSeal _
  · exact h

/-- Fewer writes wait. -/
theorem State.StoreSound.waiting_sub (h : s.StoreSound) {l : List StoreRequest}
    (sub : (Rst.waitingSlots { s.rst with waiting := l }).Sublist s.rst.waitingSlots) : (s.mapRst fun r => { r with waiting := l }).StoreSound where
  op := h.op
  reserved := h.reserved
  waiting n hn := h.waiting n (sub.subset hn)
  apart := h.apart.sublist sub
  writing n hn hm := h.writing n hn (sub.subset hm)
  placed := h.placed
  claimed hh := by
    obtain ⟨n, hs, hr, hw, ho⟩ := h.claimed hh
    exact ⟨n, hs, hr, fun hm => hw (sub.subset hm), ho⟩

/-- A slot that a write of the job may take, apart from what is set aside for other records. -/
structure State.Allots (s : State) (job : WriteJob) (n : Nat) : Prop where
  free : (s.slot n).open
  unwaited : n ∉ s.rst.waitingSlots
  placed : (∀ m, job.slot = some m → m = n) ∧ (s.rst.reservation = some n → job.slot = some n)
  unclaimed : s.seu.holds → s.seu.claim.slot ≠ some n

theorem State.StoreSound.beginWrite (h : s.StoreSound) {n : Nat} {job : WriteJob} (a : s.Allots job n) : (s.beginWrite n job).StoreSound := by
  have begins (t : State) (slots : t.rst.slots = s.rst.slots) (op : t.OpSound) (write : t.rst.write = some (n, job))
      (waiting : t.rst.waiting = s.rst.waiting) (reservation : t.rst.reservation = s.rst.reservation) (seu : t.seu = s.seu) : t.StoreSound := by
    have hslot (n : Nat) : t.slot n = s.slot n := by rw [State.slot, slots]; rfl
    have hwaits : t.rst.waitingSlots = s.rst.waitingSlots := by simp only [Rst.waitingSlots, waiting]
    have hwriteSlot : t.rst.writeSlot = some n := by simp [Rst.writeSlot, write]
    refine ⟨op, ?_, ?_, ?_, ?_, ?_, ?_⟩
    · simpa only [reservation, hslot] using h.reserved
    · simpa only [hwaits, hslot] using h.waiting
    · simpa only [hwaits] using h.apart
    · rintro m hm
      rw [hwriteSlot] at hm
      cases hm
      rw [hwaits]
      exact a.unwaited
    · rintro m j hm
      rw [write] at hm
      cases hm
      rw [reservation]
      exact a.placed
    · intro hh
      rw [seu] at hh ⊢
      obtain ⟨m, hs, hr, hw, -⟩ := h.claimed hh
      refine ⟨m, hs, reservation.trans hr, hwaits ▸ hw, ?_⟩
      rw [hwriteSlot]
      exact fun e => a.unclaimed hh (hs.trans e.symm)
  simp only [State.beginWrite]
  split
  next hempty =>
    simp only [Bool.and_eq_true] at hempty
    exact begins _ (by simp) hempty.1 rfl (by simp) (by simp) (by simp)
  next => exact begins _ rfl a.free rfl rfl rfl rfl

/-- A slot that is chosen is set aside for no other record. -/
theorem State.StoreSound.allots (h : s.StoreSound) {n : Nat} {job : WriteJob} (hj : job.slot = none) (hn : s.chooseSlot = some n) :
    s.Allots job n := by
  obtain ⟨-, hfree, hres, -, hwait⟩ := s.chooseSlot_mayTake hn
  refine ⟨by simpa [Slot.open] using hfree, fun hm => ?_, ⟨by simp [hj], fun e => absurd e hres⟩, fun hh e => ?_⟩
  · obtain ⟨job, hq, e⟩ := Rst.mem_waitingSlots.1 hm
    exact hwait job hq e
  · obtain ⟨m, hs, hr, -, -⟩ := h.claimed hh
    rw [hs] at e
    cases e
    exact hres hr

theorem Rst.waitingSlots_cons_write {r : Rst} {job : WriteJob} {rest : List StoreRequest} {n : Nat} (h : job.slot = some n) :
    Rst.waitingSlots { r with waiting := .write job :: rest } = n :: Rst.waitingSlots { r with waiting := rest } := by
  simp [Rst.waitingSlots, h]

theorem Rst.waitingSlots_tail (r : Rst) (q : StoreRequest) (rest : List StoreRequest) :
    (Rst.waitingSlots { r with waiting := rest }).Sublist (Rst.waitingSlots { r with waiting := q :: rest }) := by
  simp only [Rst.waitingSlots]
  exact (List.sublist_cons_self q rest).filterMap _

/-- The requests that wait begin in an idle store, each apart from the slots of the others. -/
theorem State.StoreSound.startList (l : List StoreRequest) (h : (s.mapRst fun r => { r with waiting := l }).StoreSound)
    (hop : s.rst.op = none) : (s.startList l).StoreSound := by
  induction l generalizing s with
  | nil => exact h
  | cons q rest ih =>
    have left : (s.mapRst fun r => { r with waiting := rest }).StoreSound := h.waiting_sub (Rst.waitingSlots_tail s.rst q rest)
    have goesOn (t : State) (ht : t.StoreSound) (waiting : t.rst.waiting = rest) (op : t.rst.op = none) : (t.startList rest).StoreSound :=
      ih (ht.of_eq (waiting := by simp [Rst.waitingSlots, waiting])) op
    simp only [State.startList]
    cases q with
    | write job =>
      rcases hslot : job.slot with _ | n
      · rcases hchosen : (s.mapRst fun r => { r with waiting := rest }).chooseSlot with _ | n
        · rw [State.beginRequest_full _ hslot hchosen, if_neg Bool.false_ne_true]
          exact goesOn _ (left.moves (State.raise_moves _ _)) (by simp) (by simpa using hop)
        · rw [State.beginRequest_writes _ (.inr ⟨hslot, hchosen⟩), if_pos rfl]
          exact left.beginWrite (left.allots hslot hchosen)
      · rw [State.beginRequest_writes _ (.inl hslot), if_pos rfl]
        refine State.StoreSound.beginWrite left ⟨h.waiting n ?_, ?_, ⟨fun m hm => ?_, fun _ => hslot⟩, fun hh e => ?_⟩
        · exact Rst.mem_waitingSlots.2 ⟨job, List.mem_cons_self, hslot⟩
        · have apart := h.apart
          simp only [State.mapRst_rst] at apart
          rw [Rst.waitingSlots_cons_write hslot, List.nodup_cons] at apart
          exact apart.1
        · exact Option.some.inj (hm.symm.trans hslot)
        · obtain ⟨m, hs, -, hw, -⟩ := h.claimed hh
          have hm : m = n := Option.some.inj (hs.symm.trans e)
          exact hw (Rst.mem_waitingSlots.2 ⟨job, List.mem_cons_self, hm ▸ hslot⟩)
    | mark n m seu =>
      rw [State.beginRequest_mark]
      by_cases hm : (State.slot (s.mapRst fun r => { r with waiting := rest }) n).hasMark m = true
      · rw [if_pos hm, if_neg Bool.false_ne_true]
        split
        · exact goesOn _ (left.markReported m) (by simp) (by simpa using hop)
        · exact goesOn _ left rfl hop
      · rw [if_neg hm, if_pos rfl]
        exact ⟨trivial, left.reserved, left.waiting, left.apart, nofun, nofun, fun hh =>
          (left.claimed hh).imp fun k hk => ⟨hk.1, hk.2.1, hk.2.2.1, nofun⟩⟩

theorem State.StoreSound.startNext (h : s.StoreSound) : s.startNext.StoreSound := by
  simp only [State.startNext]
  split
  · exact h
  next hop => exact State.StoreSound.startList s.rst.waiting h (by simpa using hop)

/-- A request joins those that wait: a write with a slot of its own, which is set aside for nothing else. -/
theorem State.StoreSound.joins (h : s.StoreSound) (q : StoreRequest)
    (hq : ∀ job n, q = .write job → job.slot = some n → (s.slot n).open ∧ n ∉ s.rst.waitingSlots ∧ s.rst.writeSlot ≠ some n ∧
      (s.seu.holds → s.seu.claim.slot ≠ some n)) : (s.mapRst fun r => { r with waiting := r.waiting ++ [q] }).StoreSound := by
  have same (hw : Rst.waitingSlots { s.rst with waiting := s.rst.waiting ++ [q] } = s.rst.waitingSlots) :
      (s.mapRst fun r => { r with waiting := r.waiting ++ [q] }).StoreSound := h.of_eq (waiting := hw)
  cases q with
  | mark n m seu => exact same (by simp [Rst.waitingSlots])
  | write job =>
    rcases hslot : job.slot with _ | n
    · exact same (by simp [Rst.waitingSlots, hslot])
    · obtain ⟨free, unwaited, unwritten, unclaimed⟩ := hq job n rfl hslot
      have joined : Rst.waitingSlots { s.rst with waiting := s.rst.waiting ++ [.write job] } = s.rst.waitingSlots ++ [n] := by
        simp [Rst.waitingSlots, hslot]
      constructor
      · exact h.op
      · exact h.reserved
      · intro m hm
        rw [State.mapRst_rst, joined, List.mem_append, List.mem_singleton] at hm
        exact hm.elim (h.waiting m) fun e => e ▸ free
      · rw [State.mapRst_rst, joined]
        exact h.apart.append (List.nodup_singleton n) (by simpa using unwaited)
      · intro m hm
        rw [State.mapRst_rst, joined, List.mem_append, List.mem_singleton]
        rintro (hw | rfl)
        · exact h.writing m hm hw
        · exact unwritten hm
      · exact h.placed
      · intro hh
        obtain ⟨m, hs, hr, hw, ho⟩ := h.claimed hh
        refine ⟨m, hs, hr, ?_, ho⟩
        rw [State.mapRst_rst, joined, List.mem_append, List.mem_singleton]
        rintro (hm | rfl)
        · exact hw hm
        · exact unclaimed hh hs

theorem State.StoreSound.writeLost (h : s.StoreSound) (job : WriteJob) (hj : job.slot ≠ none → s.seu.holds = false) :
    (s.writeLost job).StoreSound := by
  have raised := h.moves (s.raise_moves .storeFull)
  simp only [State.writeLost]
  split
  · exact raised
  next n hslot =>
    have freed : ((s.raise .storeFull).mapRst fun r =>
        { r with reservation := if r.reservation = some n then none else r.reservation }).StoreSound := by
      refine ⟨raised.op, fun m hm => raised.reserved m ?_, raised.waiting, raised.apart, raised.writing, fun m j hw =>
        ⟨(raised.placed m j hw).1, fun hr => (raised.placed m j hw).2 ?_⟩, fun hh => absurd hh ?_⟩
      · simp only [State.mapRst_rst] at hm
        split at hm
        · exact nomatch hm
        · exact hm
      · simp only [State.mapRst_rst] at hr
        split at hr
        · exact nomatch hr
        · exact hr
      · simpa using hj (by simp [hslot])
    split
    · exact freed.giveSeal _
    · exact freed

theorem State.StoreSound.askStore (h : s.StoreSound) (q : StoreRequest)
    (hq : ∀ job n, q = .write job → job.slot = some n → s.seu.holds = false ∧ (s.slot n).open ∧ n ∉ s.rst.waitingSlots ∧
      s.rst.writeSlot ≠ some n) : (s.askStore q).StoreSound := by
  simp only [State.askStore]
  split
  · cases q with
    | write job =>
      refine h.writeLost job fun hj => ?_
      obtain ⟨n, hn⟩ := Option.ne_none_iff_exists'.1 hj
      exact (hq job n rfl hn).1
    | mark n m seu =>
      simp only []
      split
      · exact h.markReported m
      · exact h
  · refine (h.joins q fun job n hw hn => ?_).startNext
    obtain ⟨hh, free, unwaited, unwritten⟩ := hq job n hw hn
    exact ⟨free, unwaited, unwritten, fun e => by simp [hh] at e⟩

theorem State.StoreSound.askFiled (h : s.StoreSound) {job : WriteJob} (hj : job.slot = none) : (s.askStore (.write job)).StoreSound :=
  h.askStore _ fun job' n hw hn => by cases hw; simp [hj] at hn

theorem State.StoreSound.askMark (h : s.StoreSound) (n : Nat) (m : Mark) (seu : Bool) : (s.askStore (.mark n m seu)).StoreSound :=
  h.askStore _ fun _ _ hw => nomatch hw

/-! ### The seal unit -/

/-- A claim under way hands its record over for the slot reserved for it, which it then no longer holds. -/
theorem State.StoreSound.askClaimed (h : s.StoreSound) (hh : s.seu.holds = true) (ht : t.StoreSound) (hu : t.seu.holds = false)
    (rst : t.rst = s.rst) {job : WriteJob} (hj : job.slot = s.seu.claim.slot) : (t.askStore (.write job)).StoreSound := by
  refine ht.askStore _ fun job' n hw hn => ⟨hu, ?_⟩
  cases hw
  obtain ⟨m, hs, hr, hwait, hwrite⟩ := h.claimed hh
  obtain rfl : m = n := Option.some.inj (hs.symm.trans (hj.symm.trans hn))
  rw [State.slot_congr rst, rst]
  exact ⟨h.reserved m hr, hwait, hwrite⟩

theorem State.giveSeal_holds (o : SealOutcome) : (s.giveSeal o).seu.holds = false := by
  simp only [State.giveSeal]
  split <;> rfl

theorem State.giveSeal_slot (o : SealOutcome) : (s.giveSeal o).seu.claim.slot = s.seu.claim.slot := by
  simp only [State.giveSeal]
  split <;> rfl

theorem State.StoreSound.endSealing (h : s.StoreSound) (o : SealOutcome)
    (hs : ∀ n, s.seu.claim.slot = some n → (s.slot n).open ∧ n ∉ s.rst.waitingSlots ∧ s.rst.writeSlot ≠ some n) :
    (s.endSealing o).StoreSound := by
  have dropped : (s.mapSeu fun u => { u with claim := { u.claim with serial := none, confirmed := false } }).StoreSound := h.of_eq
  have given := dropped.giveSeal o
  simp only [State.endSealing]
  split
  next n hn =>
    refine given.askStore _ fun job m hw hm => ⟨State.giveSeal_holds o, ?_⟩
    cases hw
    cases hm
    simpa [State.slot] using hs n hn
  next => exact given

theorem State.StoreSound.endSealing_holds (h : s.StoreSound) (o : SealOutcome) (hh : s.seu.holds = true) : (s.endSealing o).StoreSound := by
  refine h.endSealing o fun n hn => ?_
  obtain ⟨m, hs, hr, hwait, hwrite⟩ := h.claimed hh
  obtain rfl : m = n := Option.some.inj (hs.symm.trans hn)
  exact ⟨h.reserved m hr, hwait, hwrite⟩

theorem State.StoreSound.confirmClaim (h : s.StoreSound) (hc : s.seu.claim.state = .claimOpen) : s.confirmClaim.StoreSound :=
  h.askClaimed (t := s.mapSeu fun u => { u with claim := { u.claim with state := .recording, confirmed := true, confirm := none } })
    (by simp [Seu.holds, hc]) (h.of_eq (holds := nofun)) rfl rfl rfl

theorem State.StoreSound.reserve (h : s.StoreSound) : s.reserve.StoreSound := by
  simp only [State.reserve]
  split
  · exact (h.moves (s.raise_moves .storeFull)).giveSeal _
  next n hn =>
    obtain ⟨-, hfree, hres, hwrite, hwait⟩ := s.chooseSlot_mayTake hn
    have free : (s.slot n).open := by simpa [Slot.open] using hfree
    have unwaited : n ∉ s.rst.waitingSlots := fun hm => by
      obtain ⟨job, hq, e⟩ := Rst.mem_waitingSlots.1 hm
      exact hwait job hq e
    have unwritten : s.rst.writeSlot ≠ some n := fun e => by
      obtain ⟨⟨m, job⟩, hw, rfl⟩ := Option.map_eq_some_iff.1 e
      exact (hwrite m job hw).1 rfl
    have reserved : ((s.mapRst fun r => { r with reservation := some n }).mapSeu fun u =>
        { u with claim := { u.claim with slot := some n } }).StoreSound :=
      ⟨h.op, fun m hm => by cases hm; exact free, h.waiting, h.apart, h.writing, fun m j hw => ⟨(h.placed m j hw).1, fun hr => by
        cases hr
        exact absurd rfl (hwrite n j hw).1⟩, fun _ => ⟨n, rfl, rfl, unwaited, unwritten⟩⟩
    split
    · refine reserved.endSealing .exhausted fun m hm => ?_
      cases hm
      exact ⟨free, unwaited, unwritten⟩
    · refine State.StoreSound.moves ?_ (State.offerClaim_moves _)
      exact ⟨reserved.op, reserved.reserved, reserved.waiting, reserved.apart, reserved.writing, reserved.placed, fun _ =>
        ⟨n, rfl, rfl, unwaited, unwritten⟩⟩

theorem State.StoreSound.reserveNow (h : s.StoreSound) : s.reserveNow.StoreSound := by
  simp only [State.reserveNow]
  split
  · exact State.StoreSound.reserve h.of_eq
  · exact h

theorem State.StoreSound.enterSealing (h : s.StoreSound) : s.enterSealing.StoreSound := by
  have entered : (s.enter .sealing).StoreSound := h.of_eq
  simp only [State.enterSealing]
  split
  · exact entered.of_eq
  · exact entered.reserve

/-! ### The acts -/

theorem State.Act.slots (a : s.Act t) : t.rst.slots = s.rst.slots := by
  cases a
  case moves h own => exact h.cells
  case leaves before filed slot after out => rw [after.cells, ← before.cells]; simp
  all_goals simp

theorem State.StoreSound.act (h : s.StoreSound) (a : s.Act t) : t.StoreSound := by
  cases a with
  | moves m => exact h.moves m
  | files job filed slot => exact h.askFiled slot
  | leaves before filed slot after => exact ((h.moves before).askFiled slot).moves after
  | marks n m => exact h.askMark _ _ _
  | strokeEnds m =>
    have released : (s.mapSeu fun u => { u with press := false, strokeTimer := none }).StoreSound := h.of_eq
    exact released.askMark _ _ _
  | confirms hc => exact h.confirmClaim hc
  | claims c hh held slot => exact h.of_eq (holds := fun _ => hh) (slot := fun _ => slot)
  | endsSealing o hh => exact h.endSealing_holds o hh
  | reserves => exact h.reserveNow
  | abandons =>
    have given : (s.mapRst fun r => { r with reserveAsked := false }).StoreSound := h.of_eq
    exact given.giveSeal _
  | seals => exact h.enterSealing
  | wipes hb hs =>
    refine ⟨?_, h.reserved, h.waiting, h.apart, nofun, nofun, fun hh => (h.claimed hh).imp fun k hk => ⟨hk.1, hk.2.1, hk.2.2.1, nofun⟩⟩
    simpa [State.OpSound, State.beginOp, State.holdsSealed, Slot.guarded] using hs
  | waits f => exact h.of_eq
  | reportLeaves => exact h.of_eq

theorem State.Acts.slots (a : s.Acts t) : t.rst.slots = s.rst.slots := by
  induction a with
  | refl => rfl
  | tail _ a ih => exact a.slots.trans ih

theorem State.StoreSound.acts (h : s.StoreSound) (a : s.Acts t) : t.StoreSound := by
  induction a with
  | refl => exact h
  | tail _ a ih => exact ih.act a

/-! ### The ends of the store's operations, where the cells change -/

theorem State.slot_of_set {n : Nat} {c : Slot} (h : t.rst.slots = s.rst.slots.set n c) (m : Nat) :
    t.slot m = s.slot m ∨ m = n ∧ t.slot m = c := by
  simp only [State.slot, h, List.getD_eq_getElem?_getD, List.getElem?_set]
  split
  next e =>
    subst e
    split
    next => exact .inr ⟨rfl, rfl⟩
    next hn => exact .inl (by rw [List.getElem?_eq_none (Nat.le_of_not_lt hn)])
  next => exact .inl rfl

/-- A slot past the table is EMPTY, as what is set there is lost. -/
theorem State.slot_set_self {n : Nat} {c : Slot} (h : t.rst.slots = s.rst.slots.set n c) : t.slot n = c ∨ s.slot n = Slot.erased ∧ t.slot n = Slot.erased := by
  simp only [State.slot, h, List.getD_eq_getElem?_getD, List.getElem?_set, if_true]
  split
  next => exact .inl rfl
  next hn => exact .inr ⟨by rw [List.getElem?_eq_none (Nat.le_of_not_lt hn)]; rfl, rfl⟩

/-- The store with its operation ended, before what follows. -/
def State.cleared (s : State) : State := s.mapRst fun r => { r with op := none, opTimer := none, reserveAsked := false }

theorem State.StoreSound.endOp (h : s.cleared.StoreSound) : s.endOp.StoreSound := by
  simp only [State.endOp]
  split
  · exact (State.StoreSound.reserve h).startNext
  · exact State.StoreSound.startNext h

/-- The operation over, the slots that are set aside stay so if what it did leaves them open. -/
theorem State.StoreSound.cleared (h : s.StoreSound) (waiting : t.rst.waitingSlots = s.rst.waitingSlots)
    (opens : ∀ n, n ∈ s.rst.waitingSlots ∨ t.rst.reservation = some n → (t.slot n).open)
    (claimed : t.seu.holds → s.seu.holds = true ∧ t.seu.claim.slot = s.seu.claim.slot ∧ (s.rst.reservation = s.seu.claim.slot →
      t.rst.reservation = s.rst.reservation)) : t.cleared.StoreSound where
  op := trivial
  reserved n hn := opens n (.inr hn)
  waiting n hn := opens n (.inl (waiting ▸ hn))
  apart := by
    have apart := h.apart
    rw [← waiting] at apart
    exact apart
  writing := nofun
  placed := nofun
  claimed hh := by
    obtain ⟨hs, slot, res⟩ := claimed hh
    obtain ⟨n, hslot, hres, hwait, -⟩ := h.claimed hs
    exact ⟨n, slot.trans hslot, (res (hres.trans hslot.symm)).trans hres, fun hm => hwait (waiting ▸ hm), nofun⟩

/-- With an operation in flight the mark of a sealed write only joins the requests that wait. -/
theorem State.writeComplete_store (hop : s.rst.op ≠ none) : s.writeComplete.rst.waitingSlots = s.rst.waitingSlots ∧
    s.writeComplete.rst.reservation = s.rst.reservation ∧ s.writeComplete.seu.claim.slot = s.seu.claim.slot ∧
    (s.writeComplete.seu.holds = true → s.seu.holds = true) := by
  simp only [State.writeComplete]
  split
  · exact ⟨rfl, rfl, rfl, id⟩
  next hc =>
    split
    · by_cases hl : 8 ≤ s.rst.waiting.length
      · rw [State.askStore_loses _ _ _ (by simpa using hl)]
        simp only [State.markReported, State.giveSeal]
        repeat' split
        all_goals simp [Rst.waitingSlots, Seu.holds]
      · rw [State.askStore_waits _ _ (by simpa using hl) (by simpa using hop)]
        simp [Rst.waitingSlots, Seu.holds]
    · exact ⟨rfl, rfl, rfl, nofun⟩

theorem Slot.open_withMark {c : Slot} (m : Mark) (h : c.open) : (c.withMark m).open := by
  cases m <;> simp_all [Slot.open, Slot.withMark, Slot.isEmpty]

theorem Slot.not_guarded_of_open {c : Slot} (h : c.open) : c.guarded = false := by
  simp only [Slot.open, Slot.isEmpty, Slot.guarded, Slot.isSealed, Bool.or_eq_true, Bool.and_eq_true, Bool.not_eq_true'] at h ⊢
  rcases h with ⟨h, -⟩ | h <;> simp [h]

theorem Slot.open_of_isEmpty {c : Slot} (h : c.isEmpty) : c.open := by simp [Slot.open, h]

/-- The level stands, and the reservation of a seal unit's write has ended (R157). -/
def State.leveled (s : State) (n : Nat) (job : WriteJob) : State :=
  (s.mapSlot n fun c => { c with level1 := true, level2 := c.level2 || job.sealed }).mapRst fun r =>
    { r with reservation := if r.reservation = job.slot then none else r.reservation }

theorem State.levelDone_eq (s : State) (n : Nat) (job : WriteJob) :
    s.levelDone n job = (if job.sealed then (s.leveled n job).writeComplete else s.leveled n job).endOp := rfl

theorem State.leveled_reservation (s : State) (n : Nat) (job : WriteJob) :
    (s.leveled n job).rst.reservation = if s.rst.reservation = job.slot then none else s.rst.reservation := rfl

theorem State.leveled_slot (s : State) (n : Nat) (job : WriteJob) (m : Nat) : (s.leveled n job).slot m = s.slot m ∨
    m = n ∧ (s.leveled n job).slot m = { s.slot n with level1 := true, level2 := (s.slot n).level2 || job.sealed } :=
  State.slot_of_set rfl m

theorem State.StoreSound.levelDone (h : s.StoreSound) {n : Nat} {job : WriteJob} (hop : s.rst.op = some (.level n job)) :
    (s.levelDone n job).StoreSound := by
  have hwrite : s.rst.write = some (n, job) := by simp [Rst.write, hop]
  obtain ⟨hslot, hres⟩ := h.placed n job hwrite
  have written : s.rst.writeSlot = some n := by simp [Rst.writeSlot, hwrite]
  have others (m : Nat) (hm : m ∈ s.rst.waitingSlots ∨ (s.leveled n job).rst.reservation = some m) : ((s.leveled n job).slot m).open := by
    have apart : m ≠ n ∧ (s.slot m).open := by
      rcases hm with hm | hm
      · exact ⟨fun e => h.writing n written (e ▸ hm), h.waiting m hm⟩
      · rw [State.leveled_reservation] at hm
        split at hm
        · exact nomatch hm
        next hne => exact ⟨fun e => hne (hm.trans (e ▸ (hres (e ▸ hm)).symm)), h.reserved m hm⟩
    exact (s.leveled_slot n job m).elim (fun e => e ▸ apart.2) fun e => absurd e.1 apart.1
  have kept (hh : s.seu.holds = true) (e : s.rst.reservation = s.seu.claim.slot) :
      (s.leveled n job).rst.reservation = s.rst.reservation := by
    obtain ⟨m, hs, hr, -, hw⟩ := h.claimed hh
    rw [State.leveled_reservation, if_neg]
    intro e'
    exact hw (written.trans (congrArg some (hslot m (e'.symm.trans hr)).symm))
  rw [State.levelDone_eq]
  refine State.StoreSound.endOp ?_
  split
  · obtain ⟨waiting, reservation, slot, holds⟩ := (s.leveled n job).writeComplete_store (by simp [State.leveled, hop])
    refine h.cleared (waiting.trans rfl) (fun m hm => ?_) fun hh => ⟨holds hh, slot, fun e => reservation.trans (kept (holds hh) e)⟩
    have := others m (reservation ▸ hm)
    simpa [State.slot] using this
  · exact h.cleared rfl others fun hh => ⟨hh, rfl, kept hh⟩

/-- A change of one slot, with an operation of no write then in flight or none, keeps what is set aside. -/
theorem State.StoreSound.markEnds (h : s.StoreSound) (n : Nat) (m : Mark) (seu : Bool) :
    (if seu then (s.mapSlot n fun c => c.withMark m).markReported m else s.mapSlot n fun c => c.withMark m).endOp.StoreSound := by
  have opens (k : Nat) (hk : (s.slot k).open) : ((s.mapSlot n fun c => c.withMark m).slot k).open := by
    rcases State.slot_of_set (s := s) (t := s.mapSlot n fun c => c.withMark m) rfl k with e | ⟨rfl, e⟩
    · rwa [e]
    · rw [e]
      exact Slot.open_withMark m hk
  have others (k : Nat) (hk : k ∈ s.rst.waitingSlots ∨ s.rst.reservation = some k) : ((s.mapSlot n fun c => c.withMark m).slot k).open :=
    opens k (hk.elim (h.waiting k) (h.reserved k))
  refine State.StoreSound.endOp ?_
  split
  · refine h.cleared (by simp [Rst.waitingSlots]) (fun k hk => ?_) fun hh => ?_
    · have := others k (by simpa using hk)
      simpa [State.slot] using this
    · simp only [State.markReported] at hh ⊢
      split at hh
      · rw [State.giveSeal_holds] at hh
        exact nomatch hh
      next hc => exact ⟨hh, by rw [if_neg hc]; rfl, fun _ => by rw [if_neg hc]; rfl⟩
  · exact h.cleared rfl others fun hh => ⟨hh, rfl, fun _ => rfl⟩

/-- What is done to the cells under the operation in flight leaves open slots open. -/
theorem State.StoreSound.after (h : s.StoreSound) (op : t.OpSound) (write : t.rst.write = s.rst.write)
    (opens : ∀ k, (s.slot k).open → (t.slot k).open) (waiting : t.rst.waiting = s.rst.waiting := by simp)
    (reservation : t.rst.reservation = s.rst.reservation := by simp) (seu : t.seu = s.seu := by simp) : t.StoreSound := by
  have hwaits : t.rst.waitingSlots = s.rst.waitingSlots := by simp only [Rst.waitingSlots, waiting]
  have hwrites : t.rst.writeSlot = s.rst.writeSlot := by simp only [Rst.writeSlot, write]
  constructor
  · exact op
  · exact fun n hn => opens n (h.reserved n (reservation ▸ hn))
  · exact fun n hn => opens n (h.waiting n (hwaits ▸ hn))
  · simpa only [hwaits] using h.apart
  · simpa only [hwaits, hwrites] using h.writing
  · simpa only [write, reservation] using h.placed
  · simpa only [seu, hwaits, hwrites, reservation] using h.claimed

theorem State.opens_of_set {n : Nat} {c : Slot} (slots : t.rst.slots = s.rst.slots.set n c) (hc : c.open) (k : Nat) (hk : (s.slot k).open) :
    (t.slot k).open := by
  rcases State.slot_of_set slots k with e | ⟨-, e⟩
  · rwa [e]
  · rwa [e]

/-- While a wipe is in flight no slot is SEALED without EXPORTED. -/
theorem State.StoreSound.wiping (h : s.StoreSound) {n : Nat} (hop : s.rst.op = some (.wipe n)) (k : Nat) : (s.slot k).guarded = false := by
  have all : ∀ c ∈ s.rst.slots, c.guarded = false := by simpa [State.OpSound, hop] using h.op
  rw [State.slot, List.getD_eq_getElem?_getD]
  rcases hk : s.rst.slots[k]? with _ | c
  · rfl
  · exact all c (List.mem_of_getElem? hk)

/-- What the end of an operation does to a SEALED slot without EXPORTED: nothing but a mark. -/
theorem State.StoreEnds.storeSound (h : s.StoreSound) (a : s.StoreEnds t) : t.StoreSound ∧
    ∀ n, (s.slot n).guarded = true → (t.slot n).isSealed = true ∧ (t.slot n).cells = (s.slot n).cells := by
  have guarded (n : Nat) (hn : (s.slot n).guarded = true) : (s.slot n).isSealed = true := (Bool.and_eq_true_iff.1 hn).1
  have spares {n : Nat} {c : Slot} (slots : t.rst.slots = s.rst.slots.set n c) (hn : (s.slot n).guarded = false) (k : Nat)
      (hk : (s.slot k).guarded = true) : (t.slot k).isSealed = true ∧ (t.slot k).cells = (s.slot k).cells := by
    rcases State.slot_of_set slots k with e | ⟨rfl, -⟩
    · rw [e]
      exact ⟨guarded k hk, rfl⟩
    · rw [hn] at hk
      exact nomatch hk
  cases a with
  | erases n job hop =>
    have free : (s.slot n).open := by simpa [State.OpSound, hop] using h.op
    refine ⟨h.after ?_ (by simp [Rst.write, hop, State.beginContent, State.beginOp])
      (State.opens_of_set (n := n) (c := Slot.erased) rfl rfl), spares rfl (Slot.not_guarded_of_open free)⟩
    rcases State.slot_set_self (s := s) (t := (s.eraseSlot n).beginContent n job) (n := n) (c := Slot.erased) rfl with e | ⟨-, e⟩
    · exact congrArg Slot.isEmpty e
    · exact congrArg Slot.isEmpty e
  | programs n job cells hop =>
    have empty : (s.slot n).isEmpty := by simpa [State.OpSound, hop] using h.op
    have filled : Slot.isEmpty { s.slot n with cells := cells } = true := empty
    refine ⟨h.after ?_ (by simp [Rst.write, hop, State.beginOp]) (State.opens_of_set (n := n) rfl (Slot.open_of_isEmpty filled)),
      spares rfl (Slot.not_guarded_of_open (Slot.open_of_isEmpty empty))⟩
    rcases State.slot_set_self (s := s) (t := (s.mapSlot n fun c => { c with cells := cells }).beginOp (.level n job) levelTime) (n := n)
      rfl with e | ⟨-, e⟩
    · exact (congrArg Slot.isEmpty e).trans filled
    · exact congrArg Slot.isEmpty e
  | levels n job hop =>
    have empty : (s.slot n).isEmpty := by simpa [State.OpSound, hop] using h.op
    refine ⟨h.levelDone hop, spares (c := { s.slot n with level1 := true, level2 := (s.slot n).level2 || job.sealed }) ?_
      (Slot.not_guarded_of_open (Slot.open_of_isEmpty empty))⟩
    rw [State.levelDone_eq]
    split <;> simp [State.leveled]
  | markEnds n m seu hop =>
    refine ⟨h.markEnds n m seu, fun k hk => ?_⟩
    have slots : (if seu then (s.mapSlot n fun c => c.withMark m).markReported m else s.mapSlot n fun c => c.withMark m).endOp.rst.slots =
        s.rst.slots.set n ((s.slot n).withMark m) := by split <;> simp
    rcases State.slot_of_set slots k with e | ⟨rfl, e⟩
    · rw [e]
      exact ⟨guarded k hk, rfl⟩
    · rw [e]
      have sealed := guarded k hk
      cases m <;> exact ⟨sealed, rfl⟩
  | wipesSlot n time hop =>
    refine ⟨h.after ?_ (by simp [Rst.write, hop, State.beginOp]) (State.opens_of_set (n := n) (c := Slot.erased) rfl rfl),
      spares rfl (h.wiping hop n)⟩
    have all : ∀ c ∈ s.rst.slots, c.guarded = false := by simpa [State.OpSound, hop] using h.op
    intro c hc
    exact (List.mem_or_eq_of_mem_set hc).elim (all c) fun e => e ▸ rfl
  | wiped n hop =>
    refine ⟨State.StoreSound.endOp (h.cleared rfl (fun k _ => ?_) fun hh => ⟨hh, rfl, fun _ => rfl⟩), fun k hk => ?_⟩
    · simp only [State.slot, State.mapRst_rst, List.getD_eq_getElem?_getD, List.getElem?_map]
      cases s.rst.slots[k]? <;> rfl
    · rw [h.wiping hop] at hk
      exact nomatch hk

/-! ### Resets -/

theorem Slot.erased_not_guarded : Slot.erased.guarded = false := rfl

/-- What a reset leaves of a SEALED slot without EXPORTED, with an operation in flight that the invariant allows. -/
theorem State.StoreSound.resetWith (h : s.StoreSound) (cause : ResetCause) : (s.resetWith cause).StoreSound ∧
    ∀ n, (s.slot n).guarded = true → ((s.resetWith cause).slot n).isSealed = true ∧ ((s.resetWith cause).slot n).cells = (s.slot n).cells := by
  refine ⟨⟨trivial, nofun, nofun, List.nodup_nil, nofun, nofun, nofun⟩, fun k hk => ?_⟩
  have guarded : (s.slot k).isSealed = true := (Bool.and_eq_true_iff.1 hk).1
  have spares {n : Nat} {c : Slot} (slots : (s.resetWith cause).rst.slots = s.rst.slots.set n c) (hn : (s.slot n).guarded = false) :
      ((s.resetWith cause).slot k).isSealed = true ∧ ((s.resetWith cause).slot k).cells = (s.slot k).cells := by
    rcases State.slot_of_set slots k with e | ⟨rfl, -⟩
    · rw [e]
      exact ⟨guarded, rfl⟩
    · rw [hn] at hk
      exact nomatch hk
  have slots : (s.resetWith cause).rst.slots = cutSlots s.rst.slots s.rst.op (Config.cutCells s.freeIndex) (Config.cutPhase s.freeIndex) := rfl
  have sound := h.op
  rcases hop : s.rst.op with _ | op
  · rw [hop] at slots
    have same : (s.resetWith cause).slot k = s.slot k := congrArg (List.getD · k Slot.erased) slots
    rw [same]
    exact ⟨guarded, rfl⟩
  simp only [State.OpSound, hop] at sound
  rw [hop] at slots
  cases op with
  | erase n job => exact spares slots (Slot.not_guarded_of_open sound)
  | content n job cells => exact spares slots (Slot.not_guarded_of_open (Slot.open_of_isEmpty sound))
  | level n job => exact spares slots (Slot.not_guarded_of_open (Slot.open_of_isEmpty sound))
  | wipe n => exact spares slots (h.wiping hop n)
  | mark n m seu =>
    rcases State.slot_of_set slots k with e | ⟨rfl, e⟩
    · rw [e]
      exact ⟨guarded, rfl⟩
    · rw [e]
      split
      · cases m <;> exact ⟨guarded, rfl⟩
      · exact ⟨guarded, rfl⟩

/-! ### Every command -/

theorem State.clashStops_moves_store (h : s.StoreSound) : s.clashStops.StoreSound :=
  h.of_eq (by simp [State.clashStops]) (by simp [State.clashStops]) (by simp [State.clashStops, Rst.waitingSlots]) (by simp [State.clashStops])
    (by simp [State.clashStops]) (by simp [State.clashStops])

variable (s) in
/-- What follows the entry to CLASHED are acts. -/
theorem State.enterClashed_acts : s.clashStops.Acts s.enterClashed := by
  have settled : s.clashStops.Acts s.clashSettles := by
    have first : s.clashStops.Acts (if s.unsettled then s.clashStops.takeIncomplete else s.clashStops) := by
      split
      · exact State.takeIncomplete_acts _
      · exact .refl
    simp only [State.clashSettles]
    split
    · exact first.trans (State.abortSeal_acts _ _)
    · exact first
  rw [State.enterClashed_eq]
  split
  · exact settled
  · have left := State.Act.reportLeaves s.clashSettles
    have empty : (s.clashSettles.mapBli fun b => { b with report := b.report.drop 1 }) = s.clashSettles := by
      obtain ⟨-, -, hr, -⟩ := settled.silent s.clashStops_silent
      simp only [State.mapBli, hr, List.drop_nil]
      rw [← hr]
    rw [empty] at left
    exact settled.tail left

theorem State.LeadsTo.storeSound (h : s.StoreSound) (l : s.LeadsTo t) : t.StoreSound ∧
    ∀ n, (s.slot n).guarded = true → (t.slot n).isSealed = true ∧ (t.slot n).cells = (s.slot n).cells := by
  have keeps (slots : t.rst.slots = s.rst.slots) (n : Nat) (hn : (s.slot n).guarded = true) :
      (t.slot n).isSealed = true ∧ (t.slot n).cells = (s.slot n).cells := by
    have same : t.slot n = s.slot n := by rw [State.slot, slots]; rfl
    rw [same]
    exact ⟨(Bool.and_eq_true_iff.1 hn).1, rfl⟩
  cases l with
  | acts a => exact ⟨h.acts a, keeps a.slots⟩
  | opens f before takes run after =>
    have opened : (State.openBlocks _ f).StoreSound := (h.acts before).of_eq rfl rfl rfl rfl nofun nofun
    exact ⟨opened.acts after, keeps (after.slots.trans before.slots)⟩
  | @clashes v before hc on =>
    have after := v.enterClashed_acts
    exact ⟨(State.clashStops_moves_store (h.acts before)).acts after, keeps (after.slots.trans (by simpa [State.clashStops] using before.slots))⟩
  | resets before cause =>
    obtain ⟨sound, spared⟩ := (h.acts before).resetWith cause
    refine ⟨sound, fun n hn => ?_⟩
    have same : _ = s.slot n := congrArg (List.getD · n Slot.erased) before.slots
    rw [← same] at hn ⊢
    exact spared n hn

end

/-- Settles O55: a slot that is SEALED without EXPORTED is neither reserved, nor named by a write that waits, nor under one in flight. -/
theorem sealedRecordsAreNeverErased : Obligations.SealedRecordsAreNeverErased := by
  unfold Obligations.SealedRecordsAreNeverErased
  intro s t h _ hst
  have guarded (n : Nat) (hn : (s.slot n).guarded = true) : (s.slot n).isSealed = true := (Bool.and_eq_true_iff.1 hn).1
  have h' {rest : List Instr} : State.StoreSound { s with pending := rest } := h.of_eq rfl rfl rfl rfl id fun _ => rfl
  obtain rfl | ⟨rest, u, rfl, led | ⟨v, first, follows⟩ | ⟨-, addr, rate, heard, rfl⟩⟩ := step_cases hst
  · refine ⟨h.moves s.idle_moves, fun n hn => ?_⟩
    have same : s.idle.slot n = s.slot n := congrArg (List.getD · n Slot.erased) s.idle_moves.cells
    rw [same]
    exact ⟨guarded n hn, rfl⟩
  · obtain ⟨sound, spared⟩ := State.LeadsTo.storeSound h' led
    refine ⟨sound.moves u.relamp_moves, fun n hn => ?_⟩
    have same : u.relamp.slot n = u.slot n := congrArg (List.getD · n Slot.erased) u.relamp_moves.cells
    rw [same]
    exact spared n hn
  · obtain ⟨sound, spared⟩ := State.StoreEnds.storeSound h' first
    have after := State.reserveNow_follows follows
    refine ⟨(sound.acts after).moves u.relamp_moves, fun n hn => ?_⟩
    have same : u.relamp.slot n = v.slot n := congrArg (List.getD · n Slot.erased) (u.relamp_moves.cells.trans after.slots)
    rw [same]
    exact spared n hn
  · have frame := State.endReset_frame { s with pending := rest } addr rate heard
    refine ⟨h.of_eq, fun n hn => ?_⟩
    have same : (State.endReset { s with pending := rest } addr rate heard).relamp.slot n = s.slot n :=
      congrArg (List.getD · n Slot.erased) (by simp)
    rw [same]
    exact ⟨guarded n hn, rfl⟩

end Sys2Proof.Machine
end

section
/-! PROOFS. The bytes of numbers (R88), and the fields read back from them. -/

namespace Sys2Proof.Machine

@[simp] theorem leBytes_length (n v : Nat) : (leBytes n v).length = n := by
  induction n generalizing v with
  | zero => rfl
  | succ n ih => rw [leBytes, List.length_cons, ih]

@[simp] theorem leSigned_length (n : Nat) (v : Int) : (leSigned n v).length = n := leBytes_length ..

theorem fromLe_leBytes (n v : Nat) : fromLe (leBytes n v) = v % 256 ^ n := by
  induction n generalizing v with
  | zero => rw [leBytes, fromLe, pow_zero, Nat.mod_one]
  | succ n ih => rw [leBytes, fromLe, ih, BitVec.toNat_ofNat, pow_succ' 256 n, ← Nat.mod_mul]

/-- The field that the payload begins with. -/
theorem field_head (n v : Nat) (p : List Byte) : field (leBytes n v ++ p) 0 n = v % 256 ^ n := by
  rw [field, List.drop_zero, List.take_left' (leBytes_length n v), fromLe_leBytes]

/-- A field past what the payload begins with. -/
theorem field_past (a p : List Byte) (off len : Nat) (h : a.length ≤ off) : field (a ++ p) off len = field p (off - a.length) len := by
  rw [field, List.drop_append, List.drop_of_length_le h, List.nil_append]; rfl

theorem serialIn_recordCells (r : RunRecord) (q : Nat) : serialIn (recordCells r q) = (r.serial.getD 0) % 2 ^ 32 := by
  simp only [serialIn, recordCells, recordContent, List.append_assoc]
  simp [field_past, field_head]

end Sys2Proof.Machine
end

section
/-! PROOFS. O56 (R143, R145, R148, R149, R167): the chain from the claim to the press. -/

set_option Elab.async false

namespace Sys2Proof.Machine

section
variable {s t : State}

/-! ### The requests of the store -/

theorem Rst.mem_jobs {r : Rst} {j : WriteJob} : j ∈ r.jobs ↔ (∃ n, r.write = some (n, j)) ∨ .write j ∈ r.waiting := by
  rw [Rst.jobs, List.mem_append, Option.mem_toList, List.mem_filterMap]
  refine or_congr ⟨fun h => ?_, fun ⟨n, h⟩ => by rw [h]; rfl⟩ ⟨?_, fun h => ⟨_, h, rfl⟩⟩
  · obtain ⟨⟨n, j'⟩, hw, e⟩ := Option.map_eq_some_iff.1 h
    obtain rfl : j' = j := e
    exact ⟨n, hw⟩
  · rintro ⟨q, hq, h⟩
    cases q with
    | write job => exact Option.some.inj h ▸ hq
    | mark n m seu => exact nomatch h

/-- No write is SEALED, no mark of the seal unit waits or is in flight, and PRESS is not driven. -/
structure State.Quiet (s : State) : Prop where
  jobs : ∀ j ∈ s.rst.jobs, j.sealed = false
  marks : s.rst.sealMarks = []
  press : s.seu.press = false

/-- With no claim in RECORDING or STROKE nothing of it is under way. -/
theorem State.PressSound.quiet (h : s.PressSound) (hc : s.seu.claim.state ≠ .recording ∧ s.seu.claim.state ≠ .stroke) : s.Quiet where
  jobs j hj := by
    by_contra hs
    exact hc.1 (h.backed j hj (by simpa using hs)).1
  marks := by
    by_contra hm
    exact (h.marked hm).1.elim hc.1 hc.2
  press := by
    by_contra hp
    exact hc.2 (h.driven (by simpa using hp)).1

/-- The invariant speaks of the cells under a write, the requests of the store, the claim, PRESS and the run state. -/
theorem State.PressSound.of_eq (h : s.PressSound) (carries : t.OpCarries) (jobs : t.rst.jobs = s.rst.jobs := by simp [Rst.jobs, Rst.write])
    (marks : t.rst.sealMarks = s.rst.sealMarks := by simp [Rst.sealMarks])
    (claim : t.seu.claim.state = s.seu.claim.state ∧ t.seu.claim.serial = s.seu.claim.serial ∧
      t.seu.claim.confirmed = s.seu.claim.confirmed ∧ t.seu.claim.slot = s.seu.claim.slot := by simp)
    (press : t.seu.press = s.seu.press := by simp) (asked : t.rst.reserveAsked = s.rst.reserveAsked := by simp)
    (state : t.rsq.runState = s.rsq.runState := by simp) (phase : t.rsq.phase = s.rsq.phase := by simp)
    (reset : t.sys.inReset = s.sys.inReset := by simp) : t.PressSound := by
  obtain ⟨hs, hser, hcon, hslot⟩ := claim
  have holds : t.seu.holds = s.seu.holds := by simp only [Seu.holds, hs]
  refine ⟨?_, ?_, carries, ?_, ?_, ?_, ?_, ?_, ?_, ?_, ?_, ?_, ?_, ?_⟩
  · simpa only [State.Backs, jobs, hs, hser, hcon, hslot] using h.backed
  · simpa only [jobs] using h.single
  · simpa only [hs, hser] using h.opened
  · simpa only [holds, hslot] using h.slotted
  · simpa only [hslot] using h.ranged
  · simpa only [press, hs, hcon] using h.driven
  · simpa only [marks, jobs, hs, press] using h.marked
  · simpa only [marks] using h.once
  · simpa only [hs, state, holds] using h.engaged
  · simpa only [state, hs] using h.fresh
  · simpa only [asked, state, hs] using h.asked
  · simpa only [phase, state] using h.phased
  · simpa only [reset, state] using h.starting

theorem State.OpCarries.of_eq (h : s.OpCarries) (op : t.rst.op = s.rst.op := by simp) (slots : t.rst.slots = s.rst.slots := by simp) :
    t.OpCarries := by
  have hslot (n : Nat) : t.slot n = s.slot n := by rw [State.slot, slots]; rfl
  simp only [State.OpCarries, op, hslot] at h ⊢
  exact h

/-- A sealing that is over, or none, with nothing of it under way. -/
theorem State.PressSound.of_quiet (q : s.Quiet) (carries : s.OpCarries) (state : s.seu.claim.state = .none ∨ s.seu.claim.state = .sealDone)
    (ranged : ∀ n, s.seu.claim.slot = some n → n < 32) (asked : s.rst.reserveAsked = false)
    (fresh : s.rsq.runState.inPoints ∨ s.rsq.runState = .enrolling → s.seu.claim.state = .none)
    (phased : s.rsq.phase = .settling ∨ s.rsq.phase = .measuring → s.rsq.runState = .settling ∨ s.rsq.runState = .measuring)
    (starting : s.sys.inReset → s.rsq.runState = .starting) : s.PressSound where
  backed j hj hs := by simp [q.jobs j hj] at hs
  single := by
    have none : s.rst.jobs.filter (fun j => j.sealed) = [] := List.filter_eq_nil_iff.2 fun j hj => by simp [q.jobs j hj]
    simp [none]
  carries := carries
  opened h := by rcases state with e | e <;> simp [e] at h
  slotted h := by rcases state with e | e <;> simp [Seu.holds, e] at h
  ranged := ranged
  driven h := by simp [q.press] at h
  marked h := absurd q.marks h
  once := by simp [q.marks]
  engaged h := by rcases state with e | e <;> simp [e, ClaimState.underWay] at h
  fresh := fresh
  asked h := by simp [asked] at h
  phased := phased
  starting := starting

/-! ### The run and the claim -/

theorem RunState.ne_of_inPoints {r : RunState} (h : r.inPoints = true) : r ≠ .sealing ∧ r ≠ .clashed ∧ r ≠ .starting := by
  cases r <;> simp_all [RunState.inPoints]

/-- The run is at a point, or enrolling: no claim is under way, and no reservation waits. -/
theorem State.PressSound.inCourse (h : s.PressSound) (hc : s.InCourse) : s.seu.claim.state = .none ∧ s.rst.reserveAsked = false ∧
    s.rsq.runState ≠ .starting := by
  have course : s.rsq.runState.inPoints = true ∨ s.rsq.runState = .enrolling := by
    rcases hc with hc | hc | hc | hc
    · exact .inl hc
    · exact .inr hc
    · rcases h.phased (.inl hc) with e | e <;> simp [e, RunState.inPoints]
    · rcases h.phased (.inr hc) with e | e <;> simp [e, RunState.inPoints]
  refine ⟨h.fresh course, ?_, ?_⟩
  · by_contra ha
    have sealing := (h.asked (by simpa using ha)).1
    rcases course with e | e <;> simp [sealing, RunState.inPoints] at e
  · rintro e
    rcases course with e' | e' <;> simp [e, RunState.inPoints] at e'

theorem State.PressSound.moves (h : s.PressSound) (m : s.Moves t) : t.PressSound := by
  obtain ⟨hs, hser, hcon, hslot⟩ := m.claim
  obtain ⟨hop, hwait, hres, hask⟩ := m.store
  have holds : t.seu.holds = s.seu.holds := by simp only [Seu.holds, hs]
  have jobs : t.rst.jobs = s.rst.jobs := by simp only [Rst.jobs, Rst.write, hop, hwait]
  have marks : t.rst.sealMarks = s.rst.sealMarks := by simp only [Rst.sealMarks, hop, hwait]
  have idle (hr : s.rsq.runState = .finished ∨ s.rsq.runState = .withdrawn ∨ s.rsq.runState = .faulted) : s.rsq.runState ≠ .sealing ∧
      s.rsq.runState ≠ .clashed ∧ s.rsq.runState ≠ .starting ∧ s.rsq.runState ≠ .settling ∧ s.rsq.runState ≠ .measuring := by
    rcases hr with e | e | e <;> simp [e]
  refine ⟨?_, ?_, h.carries.of_eq hop m.cells, ?_, ?_, ?_, ?_, ?_, ?_, ?_, ?_, ?_, ?_, ?_⟩
  · simpa only [State.Backs, jobs, hs, hser, hcon, hslot] using h.backed
  · simpa only [jobs] using h.single
  · simpa only [hs, hser] using h.opened
  · simpa only [holds, hslot] using h.slotted
  · simpa only [hslot] using h.ranged
  · rw [hs, hcon]
    exact fun hp => h.driven (m.press hp)
  · rw [marks, hs, jobs]
    intro hm
    obtain ⟨hc, hp, hj⟩ := h.marked hm
    exact ⟨hc, Bool.eq_false_iff.2 fun e => Bool.eq_false_iff.1 hp (m.press e), hj⟩
  · simpa only [marks] using h.once
  · rw [hs, holds]
    intro hu
    rcases m.course with e | ⟨hc, -⟩ | ⟨-, hr⟩
    · rw [e]
      exact h.engaged hu
    · simp [(h.inCourse hc).1, ClaimState.underWay] at hu
    · exact (h.engaged hu).elim (fun e => absurd e (idle hr).1) fun e => absurd e.1 (idle hr).2.1
  · rw [hs]
    intro ht
    rcases m.course with e | ⟨hc, -⟩ | ⟨e, -⟩
    · exact h.fresh (e ▸ ht)
    · exact (h.inCourse hc).1
    · simp [e, RunState.inPoints] at ht
  · rw [hask, hs]
    intro ha
    rcases m.course with e | ⟨hc, -⟩ | ⟨-, hr⟩
    · rw [e]
      exact h.asked ha
    · simp [(h.inCourse hc).2.1] at ha
    · exact absurd (h.asked ha).1 (idle hr).1
  · intro hp
    rcases m.phase hp with e | ⟨hp', e | e⟩
    · exact e
    · rw [e]
      exact h.phased hp'
    · exact absurd (h.phased hp') e
  · rw [m.reset]
    intro hr
    rcases m.course with e | ⟨hc, -⟩ | ⟨-, hr'⟩
    · rw [e]
      exact h.starting hr
    · exact absurd (h.starting hr) (h.inCourse hc).2.2
    · exact absurd (h.starting hr) (idle hr').2.2.1

/-- A sealing gives its outcome, with nothing of it under way. -/
theorem State.PressSound.giveSeal_of (h : s.PressSound) (q : t.Quiet) (carries : t.OpCarries) (slot : t.seu.claim.slot = s.seu.claim.slot)
    (hr : s.rsq.runState = .sealing ∨ s.rsq.runState = .clashed) (ha : t.rst.reserveAsked = false) (rsq : t.rsq = s.rsq) (sys : t.sys = s.sys)
    (o : SealOutcome) : (t.giveSeal o).PressSound := by
  have gives (u : State) (rst : u.rst = t.rst) (state : u.seu.claim.state = .sealDone) (slot' : u.seu.claim.slot = t.seu.claim.slot)
      (press : u.seu.press = t.seu.press) (phase : u.rsq.phase = t.rsq.phase) (sys' : u.sys = t.sys)
      (run : u.rsq.runState = .finished ∨ u.rsq.runState = .clashed) : u.PressSound := by
    have notIn : ¬ (u.rsq.runState.inPoints = true ∨ u.rsq.runState = .enrolling) := by
      rcases run with e | e <;> simp [e, RunState.inPoints]
    refine .of_quiet ⟨by rw [rst]; exact q.jobs, by rw [rst]; exact q.marks, press.trans q.press⟩
      (carries.of_eq (by rw [rst]) (by rw [rst])) (.inr state) (by rw [slot', slot]; exact h.ranged) (by rw [rst]; exact ha)
      (fun e => absurd e notIn) (fun hp => ?_) (fun hi => ?_)
    · rw [phase, rsq] at hp
      rcases h.phased hp with e | e <;> simp [e] at hr
    · rw [sys', sys] at hi
      simp [h.starting hi] at hr
  simp only [State.giveSeal]
  split
  next hs => exact gives _ rfl rfl rfl rfl rfl rfl (.inl rfl)
  next hs => exact gives _ rfl rfl rfl rfl rfl rfl (.inr ((congrArg Rsq.runState rsq).trans (hr.resolve_left (rsq ▸ hs))))

theorem State.PressSound.giveSeal (h : s.PressSound) (q : s.Quiet) (o : SealOutcome)
    (hr : s.rsq.runState = .sealing ∨ s.rsq.runState = .clashed) (ha : s.rst.reserveAsked = false) : (s.giveSeal o).PressSound :=
  h.giveSeal_of q h.carries rfl hr ha rfl rfl o

/-- The run state of a claim that is under way, and the reservation that then does not wait. -/
theorem State.PressSound.underWay (h : s.PressSound) (hc : s.seu.claim.state.underWay = true) :
    (s.rsq.runState = .sealing ∨ s.rsq.runState = .clashed) ∧ s.rst.reserveAsked = false := by
  refine ⟨(h.engaged hc).imp_right And.left, ?_⟩
  by_contra ha
  simp [(h.asked (by simpa using ha)).2, ClaimState.underWay] at hc

/-- The seal unit's own mark is complete: no other waits. -/
theorem State.PressSound.markReported (h : s.PressSound) (m : Mark) (hp : s.seu.press = false) (hm : s.rst.sealMarks = [])
    (hj : ∀ j ∈ s.rst.jobs, j.sealed = false) : (s.markReported m).PressSound := by
  simp only [State.markReported]
  split
  next hc =>
    obtain ⟨run, asked⟩ := h.underWay (by rcases hc with e | e <;> simp [e, ClaimState.underWay])
    exact h.giveSeal ⟨hj, hm, hp⟩ _ run asked
  next => exact h

/-! ### The waiting requests -/

theorem Rst.jobs_sub {r : Rst} {l : List StoreRequest} (sub : l.Sublist r.waiting) : (Rst.jobs { r with waiting := l }).Sublist r.jobs :=
  List.Sublist.append (List.Sublist.refl _) (sub.filterMap _)

theorem Rst.sealMarks_sub {r : Rst} {l : List StoreRequest} (sub : l.Sublist r.waiting) :
    (Rst.sealMarks { r with waiting := l }).Sublist r.sealMarks :=
  List.Sublist.append (List.Sublist.refl _) (sub.filterMap _)

/-- Fewer requests are under way. -/
theorem State.PressSound.sub (h : s.PressSound) (carries : t.OpCarries) (jobs : t.rst.jobs.Sublist s.rst.jobs)
    (marks : t.rst.sealMarks.Sublist s.rst.sealMarks)
    (claim : t.seu.claim = s.seu.claim := by simp) (press : t.seu.press = s.seu.press := by simp)
    (asked : t.rst.reserveAsked = true → s.rst.reserveAsked = true := by simp)
    (rsq : t.rsq = s.rsq := by simp) (sys : t.sys = s.sys := by simp) : t.PressSound := by
  have holds : t.seu.holds = s.seu.holds := by simp only [Seu.holds, claim]
  refine ⟨fun j hj hs => ?_, (jobs.filter _).length_le.trans h.single, carries, ?_, ?_, ?_, ?_, fun hm => ?_, marks.length_le.trans h.once, ?_, ?_,
    ?_, ?_, ?_⟩
  · simpa only [State.Backs, claim] using h.backed j (jobs.subset hj) hs
  · simpa only [claim] using h.opened
  · simpa only [holds, claim] using h.slotted
  · simpa only [claim] using h.ranged
  · simpa only [press, claim] using h.driven
  · obtain ⟨hc, hp, hj⟩ := h.marked fun e => hm (List.sublist_nil.1 (e ▸ marks))
    exact ⟨by simpa only [claim] using hc, press.trans hp, fun j hj' => hj j (jobs.subset hj')⟩
  · simpa only [claim, rsq, holds] using h.engaged
  · simpa only [claim, rsq] using h.fresh
  · intro ha
    simpa only [claim, rsq] using h.asked (asked ha)
  · simpa only [rsq] using h.phased
  · simpa only [rsq, sys] using h.starting

theorem State.PressSound.waiting_sub (h : s.PressSound) {l : List StoreRequest} (sub : l.Sublist s.rst.waiting) :
    (s.mapRst fun r => { r with waiting := l }).PressSound :=
  h.sub (h.carries.of_eq rfl rfl) (Rst.jobs_sub sub) (Rst.sealMarks_sub sub) rfl rfl id rfl rfl

/-- The erase of a SEALED write is on the slot its job names. -/
theorem State.beginWrite_carries {n : Nat} {job : WriteJob} (hslot : job.sealed = true → job.slot = some n) : (s.beginWrite n job).OpCarries := by
  simp only [State.beginWrite]
  split
  · exact fun hs => ⟨hslot hs, serialIn_recordCells _ _⟩
  · exact hslot

/-- The head of the list that waits is the write that then is in flight. -/
theorem State.PressSound.beginWrite {n : Nat} {job : WriteJob} {rest : List StoreRequest}
    (h : (s.mapRst fun r => { r with waiting := .write job :: rest }).PressSound) (hop : s.rst.op = none)
    (hslot : job.slot = some n ∨ job.slot = none) : ((s.mapRst fun r => { r with waiting := rest }).beginWrite n job).PressSound := by
  have carries : ((s.mapRst fun r => { r with waiting := rest }).beginWrite n job).OpCarries := by
    refine State.beginWrite_carries fun hs => hslot.resolve_right fun e => ?_
    obtain ⟨-, -, -, hsome, hj, -⟩ := h.backed job (Rst.mem_jobs.2 (.inr List.mem_cons_self)) hs
    rw [← hj, e] at hsome
    exact nomatch hsome
  refine h.of_eq carries ?_ ?_
  · simp only [State.beginWrite]
    split <;> simp [Rst.jobs, Rst.write, hop, State.beginContent, State.beginOp]
  · simp only [State.beginWrite]
    split <;> simp [Rst.sealMarks, hop, State.beginContent, State.beginOp]

/-- The requests that wait begin in an idle store. -/
theorem State.PressSound.startList (l : List StoreRequest) (h : (s.mapRst fun r => { r with waiting := l }).PressSound)
    (hop : s.rst.op = none) : (s.startList l).PressSound := by
  induction l generalizing s with
  | nil => exact h
  | cons q rest ih =>
    have left : (s.mapRst fun r => { r with waiting := rest }).PressSound := h.waiting_sub (List.sublist_cons_self q rest)
    have goesOn (t : State) (ht : t.PressSound) (waiting : t.rst.waiting = rest) (op : t.rst.op = none) : (t.startList rest).PressSound :=
      ih (ht.of_eq ht.carries (by simp [Rst.jobs, Rst.write, waiting]) (by simp [Rst.sealMarks, waiting])) op
    simp only [State.startList]
    cases q with
    | write job =>
      rcases hslot : job.slot with _ | n
      · rcases hchosen : (s.mapRst fun r => { r with waiting := rest }).chooseSlot with _ | n
        · rw [State.beginRequest_full _ hslot hchosen, if_neg Bool.false_ne_true]
          exact goesOn _ (left.moves (State.raise_moves _ _)) (by simp) (by simpa using hop)
        · rw [State.beginRequest_writes _ (.inr ⟨hslot, hchosen⟩), if_pos rfl]
          exact h.beginWrite hop (.inr hslot)
      · rw [State.beginRequest_writes _ (.inl hslot), if_pos rfl]
        exact h.beginWrite hop (.inl hslot)
    | mark n m seu =>
      rw [State.beginRequest_mark]
      by_cases hm : (State.slot (s.mapRst fun r => { r with waiting := rest }) n).hasMark m = true
      · rw [if_pos hm, if_neg Bool.false_ne_true]
        split
        next hseu =>
          subst hseu
          have marks : Rst.sealMarks { s.rst with waiting := .mark n m true :: rest } = m :: Rst.sealMarks { s.rst with waiting := rest } := by
            simp [Rst.sealMarks, hop]
          obtain ⟨-, press, jobs⟩ := h.marked (by rw [State.mapRst_rst, marks]; exact List.cons_ne_nil _ _)
          have once := h.once
          rw [State.mapRst_rst, marks, List.length_cons] at once
          exact goesOn _ (left.markReported m press (List.eq_nil_of_length_eq_zero (by simpa using once)) fun j hj =>
            jobs j ((Rst.jobs_sub (r := { s.rst with waiting := .mark n m true :: rest }) (List.sublist_cons_self _ rest)).subset hj))
            (by simp) (by simpa using hop)
        next => exact goesOn _ left rfl hop
      · rw [if_neg hm, if_pos rfl]
        refine h.of_eq trivial ?_ ?_
        · simp [Rst.jobs, Rst.write, hop, State.beginOp]
        · cases seu <;> simp [Rst.sealMarks, hop, State.beginOp]

theorem State.PressSound.startNext (h : s.PressSound) : s.startNext.PressSound := by
  simp only [State.startNext]
  split
  · exact h
  next hop => exact State.PressSound.startList s.rst.waiting h (by simpa using hop)

/-! ### Requests join -/

theorem Rst.jobs_join (r : Rst) (q : StoreRequest) : Rst.jobs { r with waiting := r.waiting ++ [q] } = r.jobs ++ (match q with
    | .write j => [j]
    | .mark _ _ _ => []) := by
  cases q <;> simp [Rst.jobs, Rst.write]

theorem Rst.sealMarks_join (r : Rst) (q : StoreRequest) : Rst.sealMarks { r with waiting := r.waiting ++ [q] } = r.sealMarks ++ (match q with
    | .write _ => []
    | .mark _ m seu => if seu then [m] else []) := by
  cases q with
  | write j => simp [Rst.sealMarks]
  | mark n m seu => cases seu <;> simp [Rst.sealMarks]

/-- What the run sequencer and the bench controller ask of the store is none of the seal unit's. -/
theorem State.PressSound.askFiled (h : s.PressSound) {job : WriteJob} (hj : job.sealed = false)
    (hslot : job.slot = none ∨ s.seu.claim.state ≠ .recording) : (s.askStore (.write job)).PressSound := by
  simp only [State.askStore]
  split
  · simp only [State.writeLost]
    have raised := h.moves (s.raise_moves .storeFull)
    split
    · exact raised
    next n hn =>
      have hc : s.seu.claim.state ≠ .recording := hslot.resolve_left (by simp [hn])
      rw [if_neg (by simpa using hc)]
      exact raised.of_eq (raised.carries.of_eq rfl rfl) rfl rfl ⟨rfl, rfl, rfl, rfl⟩ rfl rfl rfl rfl rfl
  · refine State.PressSound.startNext ?_
    have jobs := s.rst.jobs_join (.write job)
    have marks : Rst.sealMarks { s.rst with waiting := s.rst.waiting ++ [.write job] } = s.rst.sealMarks := by
      simpa using s.rst.sealMarks_join (.write job)
    have mem {j : WriteJob} (hj' : j ∈ Rst.jobs { s.rst with waiting := s.rst.waiting ++ [.write job] }) : j ∈ s.rst.jobs ∨ j = job := by
      simpa [jobs] using hj'
    refine ⟨fun j hj' hs => ?_, ?_, h.carries.of_eq rfl rfl, h.opened, h.slotted, h.ranged, h.driven, fun hm => ?_, ?_, h.engaged, h.fresh, h.asked,
      h.phased, h.starting⟩
    · refine h.backed j ((mem hj').resolve_right fun e => ?_) hs
      rw [e, hj] at hs
      exact nomatch hs
    · rw [State.mapRst_rst, jobs, List.filter_append]
      simpa [hj] using h.single
    · rw [State.mapRst_rst, marks] at hm
      obtain ⟨hc, hp, hall⟩ := h.marked hm
      exact ⟨hc, hp, fun j hj' => (mem hj').elim (hall j) fun e => e ▸ hj⟩
    · rw [State.mapRst_rst, marks]
      exact h.once

theorem State.PressSound.askMark (h : s.PressSound) (n : Nat) (m : Mark) : (s.askStore (.mark n m false)).PressSound := by
  simp only [State.askStore]
  split
  · exact h
  · refine State.PressSound.startNext (h.of_eq (h.carries.of_eq rfl rfl) ?_ ?_)
    · simpa using s.rst.jobs_join (.mark n m false)
    · simpa using s.rst.sealMarks_join (.mark n m false)

/-- The seal unit's mark joins, with PRESS released and nothing else of it under way. -/
theorem State.PressSound.joinSealMark (h : s.PressSound) (n : Nat) (m : Mark) (hc : s.seu.claim.state = .recording ∨ s.seu.claim.state = .stroke)
    (q : s.Quiet) : (s.mapRst fun r => { r with waiting := r.waiting ++ [.mark n m true] }).PressSound := by
  have jobs : Rst.jobs { s.rst with waiting := s.rst.waiting ++ [.mark n m true] } = s.rst.jobs := by
    simpa using s.rst.jobs_join (.mark n m true)
  have marks : Rst.sealMarks { s.rst with waiting := s.rst.waiting ++ [.mark n m true] } = [m] := by
    simpa [q.marks] using s.rst.sealMarks_join (.mark n m true)
  refine ⟨?_, ?_, h.carries.of_eq rfl rfl, h.opened, h.slotted, h.ranged, h.driven, fun _ => ⟨hc, q.press, ?_⟩, ?_, h.engaged, h.fresh, h.asked,
    h.phased, h.starting⟩
  · rw [State.mapRst_rst, jobs]
    exact h.backed
  · rw [State.mapRst_rst, jobs]
    exact h.single
  · rw [State.mapRst_rst, jobs]
    exact q.jobs
  · rw [State.mapRst_rst, marks]
    exact le_rfl

theorem State.PressSound.askSealMark (h : s.PressSound) (n : Nat) (m : Mark) (hc : s.seu.claim.state = .recording ∨ s.seu.claim.state = .stroke)
    (q : s.Quiet) : (s.askStore (.mark n m true)).PressSound := by
  simp only [State.askStore]
  split
  · exact h.markReported m q.press q.marks q.jobs
  · exact (h.joinSealMark n m hc q).startNext

/-! ### The seal unit -/

/-- A claim that holds its slot ends: nothing of it is under way, and its record is a FILED one. -/
theorem State.PressSound.endSealing_of (q : s.Quiet) (carries : s.OpCarries) (ranged : ∀ n, s.seu.claim.slot = some n → n < 32)
    (hr : s.rsq.runState = .sealing ∨ s.rsq.runState = .clashed) (ha : s.rst.reserveAsked = false)
    (phased : ¬ (s.rsq.phase = .settling ∨ s.rsq.phase = .measuring)) (starting : s.sys.inReset = false) (o : SealOutcome) :
    (s.endSealing o).PressSound := by
  have given : ((s.mapSeu fun u => { u with claim := { u.claim with serial := none, confirmed := false } }).giveSeal o).PressSound := by
    have run : ¬ (((s.mapSeu fun u => { u with claim := { u.claim with serial := none, confirmed := false } }).giveSeal o).rsq.runState.inPoints ∨
        ((s.mapSeu fun u => { u with claim := { u.claim with serial := none, confirmed := false } }).giveSeal o).rsq.runState = .enrolling) := by
      simp only [State.giveSeal]
      split
      · simp [RunState.inPoints]
      next hs => simp [hr.resolve_left hs, RunState.inPoints]
    refine .of_quiet ⟨by simpa using q.jobs, by simpa using q.marks, by simpa using q.press⟩ (carries.of_eq) (.inr ?_) ?_ (by simpa using ha)
      (fun e => absurd e run) (fun hp => absurd (by simpa using hp) phased) (fun hi => by simp [starting] at hi)
    · simp only [State.giveSeal]
      split <;> rfl
    · rw [State.giveSeal_slot]
      exact ranged
  simp only [State.endSealing]
  split
  · refine given.askFiled rfl (.inr ?_)
    simp only [State.giveSeal]
    split <;> simp
  · exact given

theorem Seu.holds_underWay {u : Seu} (h : u.holds = true) : u.claim.state.underWay = true ∧ u.claim.state ≠ .recording ∧ u.claim.state ≠ .stroke := by
  rcases Seu.holds_iff.1 h with e | e <;> simp [e, ClaimState.underWay]

/-- No point is in progress, and no reset, where the station is in SEALING or CLASHED. -/
theorem State.PressSound.settled (h : s.PressSound) (hr : s.rsq.runState = .sealing ∨ s.rsq.runState = .clashed) :
    ¬ (s.rsq.phase = .settling ∨ s.rsq.phase = .measuring) ∧ s.sys.inReset = false := by
  constructor
  · intro hp
    rcases h.phased hp with e | e <;> simp [e] at hr
  · by_contra hi
    simp [h.starting (by simpa using hi)] at hr

theorem State.PressSound.endSealing (h : s.PressSound) (hh : s.seu.holds = true) (o : SealOutcome) : (s.endSealing o).PressSound := by
  obtain ⟨under, other⟩ := Seu.holds_underWay hh
  obtain ⟨run, asked⟩ := h.underWay under
  obtain ⟨phase, reset⟩ := h.settled run
  exact .endSealing_of (h.quiet other) h.carries h.ranged run asked phase reset o

/-- The SEALED record of a claim that has been confirmed is handed over. -/
theorem State.PressSound.askSealed (h : s.PressSound) (q : s.Quiet) {job : WriteJob} (hb : s.Backs job) :
    (s.askStore (.write job)).PressSound := by
  have ⟨hc, _, _, hsome, hslot, _⟩ := hb
  obtain ⟨n, hn⟩ := Option.isSome_iff_exists.1 hsome
  obtain ⟨run, asked⟩ := h.underWay (by rw [hc]; rfl)
  simp only [State.askStore]
  split
  · have raised := h.moves (s.raise_moves .storeFull)
    have freed : ((s.raise .storeFull).mapRst fun r =>
        { r with reservation := if r.reservation = some n then none else r.reservation }).PressSound :=
      raised.of_eq (raised.carries.of_eq rfl rfl) rfl rfl ⟨rfl, rfl, rfl, rfl⟩ rfl rfl rfl rfl rfl
    have lost := freed.giveSeal ⟨by simpa [Rst.jobs, Rst.write] using q.jobs, by simpa [Rst.sealMarks] using q.marks, by simpa using q.press⟩
      .storeFull (by simpa using run) (by simpa using asked)
    simp only [State.writeLost, hslot, hn]
    rw [if_pos (by simpa using hc)]
    exact lost
  · refine State.PressSound.startNext ?_
    have jobs := s.rst.jobs_join (.write job)
    have marks : Rst.sealMarks { s.rst with waiting := s.rst.waiting ++ [.write job] } = [] := by
      simpa [q.marks] using s.rst.sealMarks_join (.write job)
    have none : s.rst.jobs.filter (fun j => j.sealed) = [] := List.filter_eq_nil_iff.2 fun j hj => by simp [q.jobs j hj]
    refine ⟨fun j hj hs => ?_, ?_, h.carries.of_eq rfl rfl, h.opened, h.slotted, h.ranged, h.driven, fun hm => absurd marks hm, ?_, h.engaged,
      h.fresh, h.asked, h.phased, h.starting⟩
    · rw [State.mapRst_rst, jobs, List.mem_append, List.mem_singleton] at hj
      rcases hj with hj | rfl
      · exact h.backed j hj hs
      · exact hb
    · rw [State.mapRst_rst, jobs, List.filter_append, none]
      exact List.length_filter_le _ [job]
    · rw [State.mapRst_rst, marks]
      exact Nat.zero_le 1

/-- The claim as its confirmation leaves it (R145). -/
def State.claimConfirmed (s : State) : State :=
  s.mapSeu fun u => { u with claim := { u.claim with state := .recording, confirmed := true, confirm := none } }

theorem State.PressSound.confirmClaim (h : s.PressSound) (hc : s.seu.claim.state = .claimOpen) : s.confirmClaim.PressSound := by
  have hh : s.seu.holds = true := by simp [Seu.holds, hc]
  obtain ⟨under, other⟩ := Seu.holds_underWay hh
  have q := h.quiet other
  have run := (h.engaged under).resolve_right fun e => by simp [hh] at e
  have asked := (h.underWay under).2
  have fixed : s.claimConfirmed.PressSound := by
    refine ⟨fun j hj hs => ?_, h.single, h.carries.of_eq rfl rfl, nofun, nofun, h.ranged, fun hp => ?_, fun hm => absurd q.marks hm, h.once,
      fun _ => .inl run, fun e => ?_, fun e => ?_, h.phased, h.starting⟩
    · simp [q.jobs j hj] at hs
    · exact absurd hp (by simpa [State.claimConfirmed] using q.press)
    · rcases e with e | e <;> simp [State.claimConfirmed, run, RunState.inPoints] at e
    · exact absurd e (by simpa [State.claimConfirmed] using asked)
  exact fixed.askSealed ⟨q.jobs, q.marks, q.press⟩ ⟨rfl, rfl, h.opened hc, h.slotted hh, rfl, rfl⟩

/-- A slot is reserved for the claim (R143). -/
def State.reservedAt (s : State) (n : Nat) : State :=
  (s.mapRst fun r => { r with reservation := some n }).mapSeu fun u => { u with claim := { u.claim with slot := some n } }

theorem State.PressSound.reserve (h : s.PressSound) (hs : s.rsq.runState = .sealing) (hc : s.seu.claim.state = .none)
    (ha : s.rst.reserveAsked = false) : s.reserve.PressSound := by
  have q := h.quiet (by simp [hc])
  obtain ⟨phase, reset⟩ := h.settled (.inl hs)
  simp only [State.reserve]
  split
  · have raised := h.moves (s.raise_moves .storeFull)
    exact raised.giveSeal (raised.quiet (by simp [hc])) _ (.inl (by simpa using hs)) (by simpa using ha)
  next n hn =>
    have hlt : n < 32 := (s.chooseSlot_mayTake hn).1
    have carries : (s.reservedAt n).OpCarries := h.carries.of_eq rfl rfl
    have ranged : ∀ m, (s.reservedAt n).seu.claim.slot = some m → m < 32 := fun m hm => Option.some.inj hm ▸ hlt
    have quiet : (s.reservedAt n).Quiet := ⟨q.jobs, q.marks, q.press⟩
    split
    · exact .endSealing_of quiet carries ranged (.inl hs) ha phase reset _
    · refine State.PressSound.moves ?_ (State.offerClaim_moves _)
      refine ⟨fun j hj hs => ?_, h.single, carries.of_eq rfl rfl, nofun, fun _ => rfl, ranged, fun hp => ?_,
        fun hm => absurd q.marks hm, h.once, fun _ => .inl hs, fun e => ?_, fun e => ?_, h.phased, h.starting⟩
      · exact absurd hs (by simpa using q.jobs j hj)
      · exact absurd hp (by simpa using q.press)
      · rcases e with e | e <;> simp [hs, RunState.inPoints] at e
      · exact absurd e (by simpa using ha)

theorem State.PressSound.reserveNow (h : s.PressSound) : s.reserveNow.PressSound := by
  simp only [State.reserveNow]
  split
  next ha =>
    obtain ⟨run, claim⟩ := h.asked ha
    exact State.PressSound.reserve (h.sub (h.carries.of_eq rfl rfl) (.refl _) (.refl _) rfl rfl nofun rfl rfl) run claim rfl
  next => exact h

theorem State.PressSound.enterSealing (h : s.PressSound) (hs : s.rsq.runState.inPoints = true) (hp : s.rsq.phase = .none) :
    s.enterSealing.PressSound := by
  obtain ⟨claim, asked, -⟩ := h.inCourse (.inl hs)
  have q := h.quiet (by simp [claim])
  have reset : s.sys.inReset = false := by
    by_contra hi
    exact (RunState.ne_of_inPoints hs).2.2 (h.starting (by simpa using hi))
  have entered (u : State) (rst : u.rst.jobs = s.rst.jobs ∧ u.rst.sealMarks = s.rst.sealMarks ∧ u.rst.op = s.rst.op ∧ u.rst.slots = s.rst.slots)
      (seu : u.seu = s.seu) (phase : u.rsq.phase = s.rsq.phase) (state : u.rsq.runState = .sealing) (sys : u.sys = s.sys) : u.PressSound := by
    obtain ⟨jobs, marks, op, slots⟩ := rst
    refine ⟨fun j hj hs => ?_, ?_, h.carries.of_eq op slots, ?_, ?_, ?_, ?_, fun hm => ?_, ?_, fun _ => .inl state, fun e => ?_, fun _ =>
      ⟨state, seu ▸ claim⟩, fun e => ?_, fun e => ?_⟩
    · exact absurd hs (by simpa using q.jobs j (jobs ▸ hj))
    · exact jobs ▸ h.single
    · exact seu ▸ h.opened
    · exact seu ▸ h.slotted
    · exact seu ▸ h.ranged
    · exact seu ▸ h.driven
    · exact absurd (marks.trans q.marks) hm
    · exact marks ▸ h.once
    · rcases e with e | e <;> simp [state, RunState.inPoints] at e
    · simp [phase, hp] at e
    · simp [sys, reset] at e
  simp only [State.enterSealing]
  split
  · exact entered _ ⟨rfl, rfl, rfl, rfl⟩ rfl rfl rfl rfl
  · exact State.PressSound.reserve (entered _ ⟨rfl, rfl, rfl, rfl⟩ rfl rfl rfl rfl) rfl claim asked

/-! ### The acts -/

theorem State.PressSound.act (h : s.PressSound) (a : s.Act t) : t.PressSound := by
  cases a with
  | moves m => exact h.moves m
  | files job filed slot => exact h.askFiled filed (.inl slot)
  | leaves before filed slot after => exact ((h.moves before).askFiled filed (.inl slot)).moves after
  | marks n m => exact h.askMark n m
  | strokeEnds m hs =>
    simp only [State.stroking, Bool.and_eq_true, decide_eq_true_eq] at hs
    obtain ⟨hc, hp⟩ := hs
    have jobs (j : WriteJob) (hj : j ∈ s.rst.jobs) : j.sealed = false := by
      by_contra hs
      simp [(h.backed j hj (by simpa using hs)).1] at hc
    have marks : s.rst.sealMarks = [] := by
      by_contra hm
      simp [(h.marked hm).2.1] at hp
    have released : (s.mapSeu fun u => { u with press := false, strokeTimer := none }).PressSound :=
      ⟨h.backed, h.single, h.carries.of_eq rfl rfl, h.opened, h.slotted, h.ranged, nofun, fun hm => absurd marks hm, h.once, h.engaged, h.fresh,
        h.asked, h.phased, h.starting⟩
    exact released.askSealMark _ _ (.inr hc) ⟨jobs, marks, rfl⟩
  | confirms hc => exact h.confirmClaim hc
  | claims c hh held slot =>
    obtain ⟨under, other⟩ := Seu.holds_underWay hh
    have q := h.quiet other
    have run := (h.engaged under).resolve_right fun e => by simp [hh] at e
    have asked := (h.underWay under).2
    refine ⟨fun j hj hs => ?_, h.single, h.carries.of_eq rfl rfl, fun e => ?_, fun _ => ?_, ?_, fun hp => ?_, fun hm => absurd q.marks hm, h.once,
      fun _ => .inl run, fun e => ?_, fun e => ?_, h.phased, h.starting⟩
    · exact absurd hs (by simpa using q.jobs j hj)
    · rcases held with e' | ⟨-, hser⟩
      · simp [e'] at e
      · exact hser
    · exact (congrArg Option.isSome slot).trans (h.slotted hh)
    · intro n hn
      exact h.ranged n (slot.symm.trans hn)
    · exact absurd hp (by simpa using q.press)
    · rcases e with e | e <;> simp [run, RunState.inPoints] at e
    · exact absurd e (by simpa using asked)
  | endsSealing o hh => exact h.endSealing hh o
  | reserves => exact h.reserveNow
  | abandons ha hc =>
    have dropped : (s.mapRst fun r => { r with reserveAsked := false }).PressSound :=
      h.sub (h.carries.of_eq rfl rfl) (.refl _) (.refl _) rfl rfl nofun rfl rfl
    exact dropped.giveSeal (dropped.quiet (by simp [hc])) _ (.inl (h.asked ha).1) rfl
  | seals hs hp => exact h.enterSealing hs hp
  | wipes hb =>
    have hop : s.rst.op = none := by
      by_contra hop
      exact Bool.eq_false_iff.1 hb (s.storeBusy_iff.2 (.inl hop))
    exact h.of_eq trivial (by simp [Rst.jobs, Rst.write, State.beginOp, hop]) (by simp [Rst.sealMarks, State.beginOp, hop])
  | waits f => exact h.of_eq (h.carries.of_eq)
  | reportLeaves => exact h.of_eq (h.carries.of_eq)

theorem State.PressSound.acts (h : s.PressSound) (a : s.Acts t) : t.PressSound := by
  induction a with
  | refl => exact h
  | tail _ a ih => exact ih.act a

/-! ### The ends of the store's operations -/

/-- With its operation over, what waits goes on. -/
theorem State.PressSound.endOp (h : s.cleared.PressSound) (asked : s.rst.reserveAsked = true → s.rsq.runState = .sealing ∧ s.seu.claim.state = .none) :
    s.endOp.PressSound := by
  simp only [State.endOp]
  split
  next ha => exact (State.PressSound.reserve h (asked ha).1 (asked ha).2 rfl).startNext
  next => exact State.PressSound.startNext h

theorem Rst.jobs_cleared (r : Rst) : (Rst.jobs { r with op := none, opTimer := none, reserveAsked := false }).Sublist r.jobs :=
  List.Sublist.append (List.nil_sublist _) (List.Sublist.refl _)

theorem Rst.sealMarks_cleared (r : Rst) : (Rst.sealMarks { r with op := none, opTimer := none, reserveAsked := false }).Sublist r.sealMarks :=
  List.Sublist.append (List.nil_sublist _) (List.Sublist.refl _)

theorem State.PressSound.cleared (h : s.PressSound) : s.cleared.PressSound :=
  h.sub trivial (Rst.jobs_cleared _) (Rst.sealMarks_cleared _) rfl rfl nofun rfl rfl

/-- What PRESS is driven on: the confirmed serial stands in the SEALED slot reserved for it (R148, R149). -/
def State.Pressable (t : State) : Prop :=
  t.seu.claim.confirmed = true ∧ ∃ n v, t.seu.claim.slot = some n ∧ t.seu.claim.serial = some v ∧ (t.slot n).isSealed = true ∧
    serialIn (t.slot n).cells = v % 2 ^ 32

/-- The SEALED write in flight is the claim's, and no other record or mark of it is under way. -/
theorem State.PressSound.sealing (h : s.PressSound) {n : Nat} {job : WriteJob} (hop : s.rst.op = some (.level n job)) (hs : job.sealed = true) :
    s.Backs job ∧ job.slot = some n ∧ (∀ j ∈ s.cleared.rst.jobs, j.sealed = false) ∧ s.rst.sealMarks = [] ∧ s.seu.press = false := by
  have hwrite : s.rst.write = some (n, job) := by simp [Rst.write, hop]
  have mem : job ∈ s.rst.jobs := Rst.mem_jobs.2 (.inl ⟨n, hwrite⟩)
  have backs := h.backed job mem hs
  have carries := h.carries
  simp only [State.OpCarries, hop] at carries
  have split : s.rst.jobs = job :: s.cleared.rst.jobs := by simp [Rst.jobs, State.cleared, Rst.write, hop]
  refine ⟨backs, (carries hs).1, fun j hj => ?_, ?_, ?_⟩
  · by_contra hj'
    have single := h.single
    rw [split, List.filter_cons_of_pos hs, List.length_cons] at single
    have none : s.cleared.rst.jobs.filter (fun j => j.sealed) = [] := List.eq_nil_of_length_eq_zero (Nat.le_zero.1 (Nat.le_of_succ_le_succ single))
    exact List.filter_eq_nil_iff.1 none j hj (by simpa using hj')
  · by_contra hm
    exact absurd ((h.marked hm).2.2 job mem) (by simp [hs])
  · by_contra hp
    have stroke := (h.driven (by simpa using hp)).1
    rw [backs.1] at stroke
    exact nomatch stroke

/-- The claim's serial, slot and confirmation, and the cells, stand through what the store does. -/
structure State.SameClaim (s t : State) : Prop where
  confirmed : t.seu.claim.confirmed = s.seu.claim.confirmed
  slot : t.seu.claim.slot = s.seu.claim.slot
  serial : t.seu.claim.serial = s.seu.claim.serial

theorem State.SameClaim.trans {u : State} (h1 : s.SameClaim t) (h2 : t.SameClaim u) : s.SameClaim u :=
  ⟨h2.confirmed.trans h1.confirmed, h2.slot.trans h1.slot, h2.serial.trans h1.serial⟩

theorem State.SameClaim.of_eq (h : t.seu.claim = s.seu.claim) : s.SameClaim t := by constructor <;> rw [h]

theorem State.giveSeal_sameClaim (s : State) (o : SealOutcome) : s.SameClaim (s.giveSeal o) := by
  simp only [State.giveSeal]
  split <;> exact ⟨rfl, rfl, rfl⟩

theorem State.beginRequest_sameClaim (s : State) (q : StoreRequest) : s.SameClaim (s.beginRequest q).1 := by
  cases q with
  | write job =>
    simp only [State.beginRequest]
    repeat' split
    all_goals exact .of_eq (by simp)
  | mark n m seu =>
    rw [State.beginRequest_mark]
    repeat' split
    · simp only [State.markReported]
      split
      · exact s.giveSeal_sameClaim _
      · exact .of_eq rfl
    all_goals exact .of_eq rfl

theorem State.startList_sameClaim (s : State) (l : List StoreRequest) : s.SameClaim (s.startList l) := by
  induction l generalizing s with
  | nil => exact .of_eq rfl
  | cons q rest ih =>
    have begun : s.SameClaim ((s.mapRst fun r => { r with waiting := rest }).beginRequest q).1 :=
      (State.SameClaim.of_eq (s := s) (t := s.mapRst fun r => { r with waiting := rest }) rfl).trans (State.beginRequest_sameClaim _ q)
    simp only [State.startList]
    split
    · exact begun
    · exact begun.trans (ih _)

theorem State.startNext_sameClaim (s : State) : s.SameClaim s.startNext := by
  simp only [State.startNext]
  split
  · exact .of_eq rfl
  · exact s.startList_sameClaim _

theorem State.giveSeal_cleared (s : State) (o : SealOutcome) : (s.giveSeal o).cleared = s.cleared.giveSeal o := by
  by_cases hs : s.rsq.runState = .sealing
  · have hs' : s.cleared.rsq.runState = .sealing := hs
    simp only [State.giveSeal, if_pos hs, if_pos hs']
    rfl
  · have hs' : ¬ s.cleared.rsq.runState = .sealing := hs
    simp only [State.giveSeal, if_neg hs, if_neg hs']
    rfl

/-- The level step stands, and the write is no longer in flight. -/
theorem State.PressSound.leveled (h : s.PressSound) (n : Nat) (job : WriteJob) : (s.leveled n job).cleared.PressSound :=
  h.sub trivial (Rst.jobs_cleared _) (Rst.sealMarks_cleared _) rfl rfl nofun rfl rfl

theorem State.leveled_same {n : Nat} (job : WriteJob) (hn : n < s.rst.slots.length) :
    (s.leveled n job).slot n = { s.slot n with level1 := true, level2 := (s.slot n).level2 || job.sealed } := by
  simp [State.slot, State.leveled, List.getD_eq_getElem?_getD, hn]

/-- The completion of the SEALED write: with the press held its mark is asked for, else PRESS is driven (R148, R149). -/
theorem State.PressSound.writeComplete (h : s.PressSound) (sized : s.rst.slots.length = 32) {n : Nat} {job : WriteJob}
    (hop : s.rst.op = some (.level n job)) (hs : job.sealed = true) :
    (s.leveled n job).writeComplete.cleared.PressSound ∧
      ((s.leveled n job).writeComplete.seu.press = true → (s.leveled n job).writeComplete.Pressable) := by
  obtain ⟨⟨hc, confirmed, serial, -, hslot, hserial⟩, hn, jobs, marks, press⟩ := h.sealing hop hs
  obtain ⟨run, asked⟩ := h.underWay (by rw [hc]; rfl)
  have level := h.leveled n job
  have marks' : (s.leveled n job).cleared.rst.sealMarks = [] :=
    List.sublist_nil.1 (marks ▸ Rst.sealMarks_cleared (s.leveled n job).rst)
  simp only [State.writeComplete]
  rw [if_neg (by simpa [State.leveled] using hc)]
  split
  · have raised : ((s.leveled n job).raise .pressFault).cleared.PressSound :=
      level.of_eq trivial (by simp [State.cleared, Rst.jobs, Rst.write]) (by simp [State.cleared, Rst.sealMarks]) (by simp [State.cleared])
        (by simp [State.cleared]) rfl (by simp [State.cleared]) (by simp [State.cleared]) (by simp [State.cleared])
    have quiet : ((s.leveled n job).raise .pressFault).cleared.Quiet := by
      refine ⟨fun j hj => jobs j ?_, ?_, by simpa [State.cleared, State.leveled] using press⟩
      · simpa [State.cleared, State.leveled, Rst.jobs, Rst.write] using hj
      · simpa [State.cleared, Rst.sealMarks] using marks'
    have recording : ((s.leveled n job).raise .pressFault).seu.claim.state = .recording := by simpa [State.leveled] using hc
    refine ⟨?_, fun hp => absurd hp (by simpa [State.leveled] using press)⟩
    by_cases hl : 8 ≤ ((s.leveled n job).raise .pressFault).rst.waiting.length
    · rw [State.askStore_loses _ _ _ hl, State.markReported, if_pos (.inl recording), State.giveSeal_cleared]
      exact raised.giveSeal quiet _ (by simpa [State.cleared, State.leveled] using run) rfl
    · rw [State.askStore_waits _ _ (by omega) (by simp [State.leveled, hop])]
      exact raised.joinSealMark _ _ (.inl recording) quiet
  · have hlt : n < s.rst.slots.length := sized ▸ h.ranged n (hslot.symm.trans hn)
    have none : (s.leveled n job).cleared.rst.jobs.filter (fun j => j.sealed) = [] := List.filter_eq_nil_iff.2 fun j hj => by
      simp [jobs j hj]
    refine ⟨⟨fun j hj hs => absurd hs (by simpa using jobs j hj), ?_, trivial, nofun, nofun, h.ranged, fun _ => ⟨rfl, confirmed⟩,
      fun hm => absurd marks' hm, ?_, fun _ => run.imp_right fun e => ⟨e, rfl⟩, fun e => ?_, nofun, h.phased, h.starting⟩, fun _ => ?_⟩
    · exact (congrArg List.length none).trans_le (Nat.zero_le 1)
    · exact (congrArg List.length marks').trans_le (Nat.zero_le 1)
    · have e' : s.rsq.runState.inPoints = true ∨ s.rsq.runState = .enrolling := e
      rcases run with r | r <;> simp [r, RunState.inPoints] at e'
    · obtain ⟨v, hv⟩ := Option.isSome_iff_exists.1 serial
      refine ⟨confirmed, n, v, hslot.symm.trans hn, hv, ?_, ?_⟩
      · refine (congrArg Slot.isSealed (State.leveled_same job hlt)).trans ?_
        simp [Slot.isSealed, hs]
      · have carries := h.carries
        simp only [State.OpCarries, hop] at carries
        refine (congrArg (fun c => serialIn c.cells) (State.leveled_same job hlt)).trans ((carries hs).2.trans ?_)
        rw [hserial, hv]
        rfl

/-- The level step ends (R148, R157). -/
theorem State.PressSound.levelDone (h : s.PressSound) (sized : s.rst.slots.length = 32) {n : Nat} {job : WriteJob}
    (hop : s.rst.op = some (.level n job)) :
    (s.levelDone n job).PressSound ∧ ((s.levelDone n job).seu.press = true → s.seu.press = true ∨ (s.levelDone n job).Pressable) := by
  rw [State.levelDone_eq]
  split
  next hs =>
    obtain ⟨sound, driven⟩ := h.writeComplete sized hop hs
    obtain ⟨⟨hc, -⟩, -⟩ := h.sealing hop hs
    have asked : (s.leveled n job).writeComplete.rst.reserveAsked = false := by
      simpa [State.leveled] using (h.underWay (by rw [hc]; rfl)).2
    refine ⟨State.PressSound.endOp sound fun e => absurd (asked.symm.trans e) Bool.false_ne_true, fun hp => .inr ?_⟩
    have ended : (s.leveled n job).writeComplete.endOp = (s.leveled n job).writeComplete.cleared.startNext := by
      simp only [State.endOp, asked, State.cleared]
      rfl
    rw [ended] at hp ⊢
    obtain ⟨confirmed, k, v, hslot, hserial, sealed, cells⟩ := driven (by simpa [State.cleared] using hp)
    obtain ⟨e1, e2, e3⟩ := (s.leveled n job).writeComplete.cleared.startNext_sameClaim
    have slots : (s.leveled n job).writeComplete.cleared.startNext.rst.slots = (s.leveled n job).writeComplete.rst.slots := by
      simp [State.cleared]
    have same : (s.leveled n job).writeComplete.cleared.startNext.slot k = (s.leveled n job).writeComplete.slot k :=
      congrArg (List.getD · k Slot.erased) slots
    exact ⟨e1.trans confirmed, k, v, e2.trans hslot, e3.trans hserial, by rw [same]; exact sealed, by rw [same]; exact cells⟩
  next =>
    refine ⟨State.PressSound.endOp (h.leveled n job) h.asked, fun hp => .inl ?_⟩
    simpa [State.leveled] using hp

/-- What the end of an operation does to the press: it is driven by the completion of the SEALED write alone. -/
theorem State.PressSound.ends (h : s.PressSound) (sized : s.rst.slots.length = 32) (a : s.StoreEnds t) :
    t.PressSound ∧ (t.seu.press = true → s.seu.press = true ∨ t.Pressable) := by
  cases a with
  | erases n job hop =>
    have carries := h.carries
    simp only [State.OpCarries, hop] at carries
    refine ⟨h.of_eq (fun hs => ⟨carries hs, serialIn_recordCells _ _⟩) ?_ ?_, fun hp => .inl (by simpa using hp)⟩
    · simp [Rst.jobs, Rst.write, hop, State.beginContent, State.beginOp]
    · simp [Rst.sealMarks, hop, State.beginContent, State.beginOp]
  | programs n job cells hop =>
    have carries := h.carries
    simp only [State.OpCarries, hop] at carries
    refine ⟨h.of_eq (fun hs => ?_) ?_ ?_, fun hp => .inl (by simpa using hp)⟩
    · obtain ⟨hn, hcells⟩ := carries hs
      refine ⟨hn, ?_⟩
      obtain ⟨-, -, -, -, hslot, -⟩ := h.backed job (Rst.mem_jobs.2 (.inl ⟨n, by simp [Rst.write, hop]⟩)) hs
      have hlt : n < s.rst.slots.length := sized ▸ h.ranged n (hslot.symm.trans hn)
      simpa [State.slot, State.beginOp, List.getD_eq_getElem?_getD, hlt] using hcells
    · simp [Rst.jobs, Rst.write, hop, State.beginOp]
    · simp [Rst.sealMarks, hop, State.beginOp]
  | levels n job hop => exact h.levelDone sized hop
  | markEnds n m seu hop =>
    have cleared : (s.mapSlot n fun c => c.withMark m).cleared.PressSound :=
      h.sub trivial (Rst.jobs_cleared _) (Rst.sealMarks_cleared _) rfl rfl nofun rfl rfl
    cases seu with
    | false => exact ⟨State.PressSound.endOp cleared h.asked, fun hp => .inl (by simpa using hp)⟩
    | true =>
      have marks : s.rst.sealMarks = m :: s.cleared.rst.sealMarks := by simp [Rst.sealMarks, hop, State.cleared]
      obtain ⟨hc, press, jobs⟩ := h.marked (by rw [marks]; exact List.cons_ne_nil _ _)
      have once := h.once
      rw [marks, List.length_cons] at once
      have none : s.cleared.rst.sealMarks = [] := List.eq_nil_of_length_eq_zero (Nat.le_zero.1 (Nat.le_of_succ_le_succ once))
      obtain ⟨run, asked⟩ := h.underWay (by rcases hc with e | e <;> rw [e] <;> rfl)
      refine ⟨State.PressSound.endOp ?_ fun e => ?_, fun hp => .inl (by simpa using hp)⟩
      · rw [if_pos rfl, State.markReported, if_pos (by simpa using hc), State.giveSeal_cleared]
        exact cleared.giveSeal ⟨fun j hj => jobs j ((Rst.jobs_cleared s.rst).subset hj), none, press⟩ _ run rfl
      · simp [asked] at e
  | wipesSlot n time hop =>
    exact ⟨h.of_eq trivial (by simp [Rst.jobs, Rst.write, hop, State.beginOp]) (by simp [Rst.sealMarks, hop, State.beginOp]),
      fun hp => .inl (by simpa using hp)⟩
  | wiped n hop =>
    refine ⟨State.PressSound.endOp (h.sub trivial (Rst.jobs_cleared _) (Rst.sealMarks_cleared _) rfl rfl nofun rfl rfl) h.asked, fun hp => .inl ?_⟩
    simpa using hp

/-! ### Every command -/

/-- No act drives PRESS. -/
theorem State.Act.press (a : s.Act t) (h : t.seu.press = true) : s.seu.press = true := by
  cases a with
  | moves m own => exact m.press h
  | leaves before filed slot after out => exact before.press (by simpa using after.press h)
  | strokeEnds m hs =>
    simp only [State.stroking, Bool.and_eq_true] at hs
    exact hs.2
  | _ => simpa using h

theorem State.Acts.press (a : s.Acts t) (h : t.seu.press = true) : s.seu.press = true := by
  induction a with
  | refl => exact h
  | tail _ a ih => exact ih (a.press h)

theorem State.PressSound.openBlocks (h : s.PressSound) (f : RunOpenFields) (takes : s.rsq.runState.takesOpen = true) :
    (s.openBlocks f).PressSound := by
  have out : s.rsq.runState ≠ .sealing ∧ s.rsq.runState ≠ .clashed ∧ s.rsq.runState ≠ .starting := by
    refine ⟨?_, ?_, ?_⟩ <;> intro e <;> simp [e, RunState.takesOpen] at takes
  have idle : ¬ s.seu.claim.state.underWay = true := fun hu => (h.engaged hu).elim out.1 fun e => out.2.1 e.1
  have q := h.quiet ⟨fun e => idle (by rw [e]; rfl), fun e => idle (by rw [e]; rfl)⟩
  have asked : s.rst.reserveAsked = false := by
    by_contra ha
    exact out.1 (h.asked (by simpa using ha)).1
  refine .of_quiet ⟨q.jobs, q.marks, q.press⟩ (h.carries.of_eq rfl rfl) (.inl rfl) nofun asked (fun _ => rfl) ?_ fun hi =>
    absurd (h.starting hi) out.2.2
  rintro (e | e) <;> simp [State.openBlocks, Rsq.openRun] at e

/-- A station in CLASHED with nothing of a sealing under way. -/
theorem State.PressSound.clashed_of_quiet (q : s.Quiet) (carries : s.OpCarries) (state : s.seu.claim.state = .none ∨ s.seu.claim.state = .sealDone)
    (ranged : ∀ n, s.seu.claim.slot = some n → n < 32) (asked : s.rst.reserveAsked = false) (run : s.rsq.runState = .clashed)
    (phase : s.rsq.phase = .none) (on : s.sys.inReset = false) : s.PressSound :=
  .of_quiet q carries state ranged asked (fun e => by rcases e with e | e <;> simp [run, RunState.inPoints] at e) (fun e => by simp [phase] at e)
    fun e => by simp [on] at e

/-- RUN ABORT's way with a sealing, in a station that has clashed (R147, R151, R167). -/
theorem State.PressSound.abortSeal_clashed (h : s.PressSound) (rst : t.rst = s.rst) (seu : t.seu = s.seu) (run : t.rsq.runState = .clashed)
    (phase : t.rsq.phase = .none) (on : t.sys.inReset = false) (n : Half) : (t.abortSeal n).PressSound := by
  have gone (u : State) (hu : u = t.withdrawFrames (isSealOf n)) : u.rst = s.rst ∧ u.seu = s.seu ∧ u.rsq.runState = .clashed ∧ u.rsq.phase = .none ∧
      u.sys.inReset = false := by
    subst hu
    simp [rst, seu, run, phase, on]
  have carries {u : State} (hu : u.rst = s.rst) : u.OpCarries := h.carries.of_eq (by rw [hu]) (by rw [hu])
  simp only [State.abortSeal, seu, rst]
  generalize hu : t.withdrawFrames (isSealOf n) = u
  obtain ⟨rst', seu', run', phase', on'⟩ := gone u hu.symm
  have quiet (q : s.Quiet) : u.Quiet := ⟨rst'.symm ▸ q.jobs, rst'.symm ▸ q.marks, seu'.symm ▸ q.press⟩
  have ranged : ∀ n, u.seu.claim.slot = some n → n < 32 := seu'.symm ▸ h.ranged
  have ends (hh : s.seu.holds = true) (o : SealOutcome) : (u.endSealing o).PressSound := by
    obtain ⟨under, other⟩ := Seu.holds_underWay hh
    exact .endSealing_of (quiet (h.quiet other)) (carries rst') ranged (.inr run') (rst'.symm ▸ (h.underWay under).2) (by simp [phase']) on' o
  have goesOn (hc : s.seu.claim.state = .recording ∨ s.seu.claim.state = .stroke) : u.PressSound := by
    have claim : s.seu.holds = false ∧ s.rst.reserveAsked = false := by
      refine ⟨?_, (h.underWay (by rcases hc with e | e <;> rw [e] <;> rfl)).2⟩
      rcases hc with e | e <;> simp [Seu.holds, e]
    refine ⟨?_, rst'.symm ▸ h.single, carries rst', seu'.symm ▸ h.opened, seu'.symm ▸ h.slotted, ranged, seu'.symm ▸ h.driven, ?_,
      rst'.symm ▸ h.once, fun _ => .inr ⟨run', seu'.symm ▸ claim.1⟩, fun e => ?_, fun e => ?_, fun e => ?_, fun e => ?_⟩
    · simpa only [State.Backs, rst', seu'] using h.backed
    · simpa only [rst', seu'] using h.marked
    · rcases e with e | e <;> simp [run', RunState.inPoints] at e
    · simp [rst', claim.2] at e
    · simp [phase'] at e
    · simp [on'] at e
  split
  next hc =>
    have q := quiet (h.quiet (by simp [hc]))
    split
    next =>
      have given : ((u.mapRst fun r => { r with reserveAsked := false }).giveSeal .aborted).rsq.runState = .clashed := by
        simp [State.giveSeal, run']
      refine .clashed_of_quiet ⟨by simpa [Rst.jobs, Rst.write] using q.jobs, by simpa [Rst.sealMarks] using q.marks, by simpa using q.press⟩
        ((carries rst').of_eq) (.inr ?_) ?_ (by simp) given (by simpa using phase') (by simpa using on')
      · simp [State.giveSeal, run']
      · rw [State.giveSeal_slot]
        exact ranged
    next ha =>
      exact .clashed_of_quiet q (carries rst') (.inl (by rw [seu', hc])) ranged (by simpa [rst'] using ha) run' phase' on'
  next hc => exact ends (by simp [Seu.holds, hc]) _
  next hc => exact ends (by simp [Seu.holds, hc]) _
  next hc => exact goesOn (.inl hc)
  next hc => exact goesOn (.inr hc)
  next hc =>
    have asked : s.rst.reserveAsked = false := by
      by_contra ha
      have none := (h.asked (by simpa using ha)).2
      simp [hc] at none
    exact .clashed_of_quiet (quiet (h.quiet (by simp [hc]))) (carries rst') (.inr (by rw [seu', hc])) ranged (rst'.symm ▸ asked) run' phase' on'

/-- A clash ends a sealing whose claim has not been confirmed, and leaves a write or stroke in flight to go on (R147, R167). -/
theorem State.PressSound.enterClashed (h : s.PressSound) (hc : s.rsq.runState ≠ .clashed) (on : s.sys.inReset = false) :
    s.enterClashed.PressSound := by
  have rst : s.clashStops.rst = s.rst := by simp [State.clashStops]
  have seu : s.clashStops.seu = s.seu := by simp [State.clashStops]
  have sys : s.clashStops.sys = s.sys := by simp [State.clashStops]
  obtain ⟨run, -, -, -, -, phase⟩ := s.clashStops_silent
  have settled : s.clashSettles.PressSound := by
    simp only [State.clashSettles]
    split
    next hs =>
      have unsettled : s.unsettled = false := by simp [State.unsettled, hs, RunState.inPoints]
      rw [unsettled, if_neg Bool.false_ne_true]
      exact h.abortSeal_clashed rst seu run phase (sys ▸ on) _
    next hs =>
      have idle : ¬ s.seu.claim.state.underWay = true := fun hu => (h.engaged hu).elim hs fun e => hc e.1
      have q := h.quiet ⟨fun e => idle (by rw [e]; rfl), fun e => idle (by rw [e]; rfl)⟩
      have asked : s.rst.reserveAsked = false := by
        by_contra ha
        exact hs (h.asked (by simpa using ha)).1
      have state : s.seu.claim.state = .none ∨ s.seu.claim.state = .sealDone := by
        cases e : s.seu.claim.state <;> simp [e, ClaimState.underWay] at idle ⊢
      have stopped : s.clashStops.PressSound :=
        .clashed_of_quiet ⟨rst.symm ▸ q.jobs, rst.symm ▸ q.marks, seu.symm ▸ q.press⟩ (h.carries.of_eq (by rw [rst]) (by rw [rst]))
          (seu.symm ▸ state) (seu.symm ▸ h.ranged) (rst.symm ▸ asked) run phase (sys.symm ▸ on)
      split
      · refine State.PressSound.askFiled (s := s.clashStops.mapRsq fun q => { q with verdict := some .incomplete }) ?_ rfl (.inl rfl)
        exact stopped.of_eq (stopped.carries.of_eq rfl rfl) rfl rfl ⟨rfl, rfl, rfl, rfl⟩ rfl rfl rfl rfl rfl
      · exact stopped
  rw [State.enterClashed_eq]
  split
  · exact settled
  · exact settled.of_eq settled.carries.of_eq

theorem State.LeadsTo.pressSound (h : s.PressSound) (l : s.LeadsTo t) :
    t.PressSound ∧ (t.seu.press = true → s.seu.press = true) := by
  cases l with
  | acts a => exact ⟨h.acts a, a.press⟩
  | opens f before takes run after =>
    exact ⟨((h.acts before).openBlocks f takes).acts after, fun hp => before.press (after.press hp)⟩
  | clashes before hc on => exact ⟨(h.acts before).enterClashed hc on, fun hp => before.press (by simpa using hp)⟩
  | resets before cause =>
    refine ⟨.of_quiet ⟨nofun, rfl, rfl⟩ trivial (.inl rfl) nofun rfl (fun _ => rfl) (fun e => ?_) fun _ => rfl, nofun⟩
    rcases e with e | e <;> exact nomatch e

/-- The end of a reset leaves the store and the claim as the reset left them. -/
theorem State.PressSound.endReset (h : s.PressSound) (hi : s.sys.inReset = true) (addr : BitVec 6) (rate : BitVec 2) (heard : List Heard) :
    (s.endReset addr rate heard).PressSound := by
  have starting := h.starting hi
  have off : (s.endReset addr rate heard).sys.inReset = false := by
    simp only [State.endReset]
    split
    · simp only [State.startUp]
      split <;> simp
    · rfl
  have idle : ¬ s.seu.claim.state.underWay = true := fun hu => by simpa [starting] using h.engaged hu
  have asked : s.rst.reserveAsked = false := by
    by_contra ha
    simpa [starting] using (h.asked (by simpa using ha)).1
  have phase : ¬ (s.rsq.phase = .settling ∨ s.rsq.phase = .measuring) := fun hp => by simpa [starting] using h.phased hp
  have q := h.quiet ⟨fun e => idle (by rw [e]; rfl), fun e => idle (by rw [e]; rfl)⟩
  have state : s.seu.claim.state = .none ∨ s.seu.claim.state = .sealDone := by
    cases e : s.seu.claim.state <;> simp [e, ClaimState.underWay] at idle ⊢
  refine .of_quiet ⟨by simpa [Rst.jobs, Rst.write] using q.jobs, by simpa [Rst.sealMarks] using q.marks, by simpa using q.press⟩
    (h.carries.of_eq) (by simpa using state) (by simpa using h.ranged) (by simpa using asked) (fun e => ?_) (fun e => absurd (by simpa using e) phase)
    fun e => by simp [off] at e
  rcases s.endReset_runState addr rate heard with e' | e' <;> simp [e', RunState.inPoints] at e

end

/-- Settles O56: only the completion of a confirmed claim's SEALED write drives PRESS. -/
theorem pressFollowsTheSealedRecord : Obligations.PressFollowsTheSealedRecord := by
  unfold Obligations.PressFollowsTheSealedRecord
  intro s t h sized hst
  have h' {rest : List Instr} : State.PressSound { s with pending := rest } :=
    h.of_eq (h.carries.of_eq rfl rfl) rfl rfl ⟨rfl, rfl, rfl, rfl⟩ rfl rfl rfl rfl rfl
  have never {P : Prop} (hp : s.seu.press = false) (hq : s.seu.press = true) : P := absurd (hp.symm.trans hq) Bool.false_ne_true
  obtain rfl | ⟨rest, u, rfl, led | ⟨v, first, follows⟩ | ⟨hi, addr, rate, heard, rfl⟩⟩ := step_cases hst
  · exact ⟨h.moves s.idle_moves, fun hp hq => never hp (s.idle_moves.press hq)⟩
  · obtain ⟨sound, press⟩ := State.LeadsTo.pressSound h' led
    exact ⟨sound.moves u.relamp_moves, fun hp hq => never hp (press (u.relamp_moves.press hq))⟩
  · obtain ⟨sound, press⟩ := State.PressSound.ends (h' (rest := rest)) sized.slots first
    refine ⟨(sound.acts (State.reserveNow_follows follows)).moves u.relamp_moves, fun hp hq => ?_⟩
    have pressed : u.seu.press = true := u.relamp_moves.press hq
    have same : u = v := by
      rcases follows with e | e
      · exact e
      · have stroke := (sound.driven (by simpa [e] using pressed)).1
        rw [e, State.reserveNow, if_neg]
        intro ha
        simp [(sound.asked ha).2] at stroke
    subst same
    obtain ⟨confirmed, n, w, hslot, hserial, cells⟩ := (press pressed).resolve_left fun hq => never hp hq
    exact ⟨by simpa using confirmed, n, w, by simpa using hslot, by simpa using hserial, by simpa [State.slot] using cells⟩
  · have ended := State.PressSound.endReset (h' (rest := rest)) hi addr rate heard
    exact ⟨ended.moves (State.relamp_moves _), fun hp hq => never hp (by simpa using hq)⟩

end Sys2Proof.Machine
end

section
/-! PROOFS. One step (R16, R17), the reference inputs (R8, R11), the plain timers (R66, R67, R110, R119) and the reset state. -/

set_option Elab.async false

namespace Sys2Proof.Machine

/-- Settles O1. -/
theorem stepRunsTheFrontCommand : Obligations.StepRunsTheFrontCommand := by
  unfold Obligations.StepRunsTheFrontCommand
  exact fun _ _ _ h => step_eq_exec h

/-! ### One period of CLK8 -/

theorem countDown_eq_map (timer : Option Nat) : countDown timer = timer.map (· - 1) := by
  rcases timer with _ | _ | n <;> rfl

theorem RefInput.age_eq (r : RefInput) :
    r.age = { r with sinceRaw := 1, sinceAdvance := if r.sinceAdvance < 4 then r.sinceAdvance + 1 else 4 } := by
  have advance : min 4 (r.sinceAdvance + 1) = if r.sinceAdvance < 4 then r.sinceAdvance + 1 else 4 := by split <;> omega
  have raw : min 1 (r.sinceRaw + 1) = 1 := by omega
  rw [RefInput.age, advance, raw]

theorem BarrierTimer.tick_eq (t : BarrierTimer) : t.tick = match t with | .running n => .running (n - 1) | b => b := by
  cases t with
  | running n => cases n <;> rfl
  | _ => rfl

theorem Bli.quietRuns_iff (b : Bli) : b.quietRuns = true ↔ b.attempt = none ∧ b.stuck = false ∧ b.stage.inFrame = false := by
  simp [Bli.quietRuns, and_assoc]

theorem Bli.tick_eq (b : Bli) : b.tick = { b with
    quiet := if (b.attempt = none ∧ b.stuck = false ∧ b.stage.inFrame = false) ∧ b.low = false then b.quiet + 1 else b.quiet
    unseen := if (b.attempt = none ∧ b.stuck = false ∧ b.stage.inFrame = false) ∧ b.low = true then b.unseen + 1 else b.unseen } := by
  simp only [Bli.tick, ← Bli.quietRuns_iff, Bool.and_eq_true, Bool.not_eq_true']

/-- Settles O2, by the prescaler and the 10 ms phase. -/
theorem idleStepIsOneClockPeriod : Obligations.IdleStepIsOneClockPeriod := by
  unfold Obligations.IdleStepIsOneClockPeriod
  intro s pending inReset due
  have ticks : step s = .next s.tick := by simp [step_eq_idle pending, State.idle, inReset, due]
  simp only [ticks, State.tick, State.micro, State.microTimers, State.tenMs, countDown_eq_map, RefInput.age_eq, BarrierTimer.tick_eq]
  refine ⟨fun h => ?_, fun h hp => ?_, fun h hp => ?_⟩
  · rw [if_neg (by omega)]
    rfl
  · rw [if_pos h, if_neg (by exact Nat.not_le.2 hp)]
    simp only [State.mapBli, Bli.tick_eq]
    rfl
  · rw [if_pos h, if_pos (by exact hp)]
    simp only [State.mapBli, Bli.tick_eq]
    rfl

/-! ### Reference inputs -/

/-- Settles O9: the raw edge by its distance and the divider. -/
theorem referenceEdgeAdvancesTheCounter : Obligations.ReferenceEdgeAdvancesTheCounter := by
  unfold Obligations.ReferenceEdgeAdvancesTheCounter
  intro r s follows alive
  have edge : RefInput.rawEdge = fun x : RefInput =>
      if x.sinceRaw = 0 then x
      else if x.divider + 1 < x.prescaler then { x with divider := x.divider + 1, sinceRaw := 0 }
      else if x.sinceAdvance < 4 then { x with divider := 0, sinceRaw := 0 }
      else { x with divider := 0, sinceRaw := 0, counter := x.counter + 1, sinceAdvance := 0 } := by
    funext x
    simp only [RefInput.rawEdge, Nat.lt_one_iff]
    split
    · rfl
    · by_cases wraps : x.prescaler ≤ x.divider + 1
      · rw [if_pos wraps, if_neg (Nat.not_lt.2 wraps)]
      · rw [if_neg wraps, if_pos (Nat.not_le.1 wraps)]
  rw [exec_referenceEdge, execReferenceEdge, if_pos alive, State.finish_of_follows, edge]
  exact follows

/-! ### Timers -/

theorem State.lampDrives_cases (s : State) : s.lampDrives ∈ [(.dark, .dark, .flash2), (.lit, .dark, .dark), (.dark, .lit, .dark),
    (.dark, .dark, .lit), (.flash1, .dark, .dark), (.dark, .dark, .dark)] := by
  simp only [State.lampDrives]
  repeat' split
  all_goals simp

/-- The half period of the flash, by the lamps that R65 may ask for. -/
theorem State.flashHalf_lampDrives (s : State) : flashHalf s.lampDrives =
    if s.lampDrives.2.2 = .flash2 then some 250000 else if s.lampDrives.1 = .flash1 then some 500000 else none := by
  have all : ∀ d ∈ [(LampDrive.dark, LampDrive.dark, LampDrive.flash2), (.lit, .dark, .dark), (.dark, .lit, .dark), (.dark, .dark, .lit),
      (.flash1, .dark, .dark), (.dark, .dark, .dark)],
      flashHalf d = if d.2.2 = .flash2 then some 250000 else if d.1 = .flash1 then some 500000 else none := by decide
  exact all _ s.lampDrives_cases

/-- Settles O33: each timer alone. -/
theorem timersExpire : Obligations.TimersExpire := by
  unfold Obligations.TimersExpire
  intro s follows
  refine ⟨?_, ?_, fun n running barrier room empty => ?_, fun n flash => ?_⟩
  · rw [exec_lateEnrolAllowanceEnd, execLateEnrolAllowanceEnd, State.finish_of_follows]
    exact follows
  · rw [exec_rejectPulseEnd, execRejectPulseEnd, State.finish_of_follows]
    exact follows
  · have queued : (s.mapRsq fun q => { q with barrier := .expired }).offerCoord (.lapse s.runNumber s.rsq.seq) =
        (s.mapRsq fun q => { q with barrier := .expired }).mapBli fun b => { b with coord := b.coord ++ [.lapse s.runNumber s.rsq.seq] } :=
      State.offerCoord_room _ _ (by simp [barrier]) room empty
    rw [exec_barrierTimerExpiry, execBarrierTimerExpiry, if_pos (by simp [running, BarrierTimer.runs]), queued, State.finish_of_follows]
    exact follows
  · have half : flashHalf (s.seu.lamps.green, s.seu.lamps.red, s.seu.lamps.amber) =
        if s.seu.lamps.amber = .flash2 then some 250000 else if s.seu.lamps.green = .flash1 then some 500000 else none := by
      have drives := s.flashHalf_lampDrives
      rw [← follows] at drives
      exact drives
    rw [exec_lampFlashToggle, execLampFlashToggle, if_pos (by simp [flash]), State.finish_of_follows]
    · simp only [State.mapSeu, half]
    · exact follows

/-! ### The reset state -/

/-- Settles O54: nothing is under way after a reset, and every table stands at its size. -/
theorem resetStateIsSound : Obligations.ResetStateIsSound := by
  unfold Obligations.ResetStateIsSound
  refine ⟨?_, rfl, nofun, nofun, nofun, ?_, ?_⟩
  · constructor <;> simp [State.reset, State.inReset, Plt.reset, Rsq.reset, Bli.reset, Rrp.reset, Seu.reset, Rst.afterReset]
  · exact ⟨trivial, nofun, nofun, List.nodup_nil, nofun, nofun, nofun⟩
  · exact .of_quiet ⟨nofun, rfl, rfl⟩ trivial (.inl rfl) nofun rfl (fun _ => rfl) (fun e => e.elim nofun nofun) fun _ => rfl

/-! ### The four resets (R164) -/

theorem State.resetWith_values (s : State) (cause : ResetCause) : (s.resetWith cause).ResetValues cause := by
  constructor
  case meters => intro ch; cases ch <;> rfl
  case references => intro r; cases r <;> rfl
  case engines => intro ch; cases ch <;> rfl
  case accumulators => intro ch; cases ch <;> rfl
  case outcomes => intro ch; cases ch <;> exact ⟨rfl, rfl⟩
  case dwells => intro ch; cases ch <;> rfl
  all_goals trivial

/-- Settles O3: each of the four commands is a reset with its cause, whose lamps are dark already. -/
theorem resetsLeaveTheStatedValues : Obligations.ResetsLeaveTheStatedValues := by
  unfold Obligations.ResetsLeaveTheStatedValues
  intro s c cause h
  have exact : exec c s = (s.resetWith cause).finish := by
    rcases h with h | ⟨rfl, takes, rfl⟩
    · simp only [List.mem_cons, Prod.mk.injEq, List.not_mem_nil, or_false] at h
      rcases h with ⟨rfl, rfl⟩ | ⟨rfl, rfl⟩ | ⟨rfl, rfl⟩ <;> rfl
    · rw [exec_restart, execRestart, if_pos takes]
      rfl
  refine ⟨s.resetWith cause, exact.trans (State.finish_of_follows _ rfl), s.resetWith_values cause, rfl, fun idle => ?_, rfl, rfl⟩
  simp [State.resetWith, State.inReset, Rst.afterReset, cutSlots, idle]

end Sys2Proof.Machine
end


section
/-! PROOFS. A station in FAULTED and the run frames it hears (R78, R105, R109, R141). -/

set_option Elab.async false

namespace Sys2Proof.Machine

section
variable {s : State}

/-- Where no roster frame is taken, and no frame of the seal unit, the peers' frames of a run change nothing (R109, R141). -/
theorem State.takeFromPeer_closed (hr : s.rsq.runState.takesRoster = false) :
    (∀ x run, s.takeEnrol x run = s) ∧ (∀ x run n f, s.takeDone x run n f = s) ∧ (∀ run n a, s.takeLapse run n a = s) ∧
      ∀ x run, s.takeWithdraw x run = s := by
  simp [State.takeEnrol, State.takeDone, State.takeLapse, State.takeWithdraw, State.rosterOpen, hr]

/-- Outside a run, a point and a sealing, what acts as RUN ABORT changes nothing (R127). -/
theorem State.abortRun_idle (hu : s.unsettled = false) (he : s.rsq.runState ≠ .enrolling) (hs : s.rsq.runState ≠ .sealing) :
    s.abortRun = s := by
  simp [State.abortRun, hu, he, hs]

/-- A run frame of the right form, from the controller or a peer, changes nothing in FAULTED. -/
theorem State.faulted_takesNothing (h : s.rsq.runState = .faulted) :
    (∀ run n d, s.takeLoadReady run n d = s) ∧ (∀ run, s.takeRunAbort run = s) ∧ (∀ run, s.takeRunClose run = s) ∧
      (∀ run tail, s.takePlanTail run tail = s) ∧ (∀ x run v, s.takeSealClaim x run v = s) ∧
      ∀ run a v w, s.takeSealVoid run a v w = s := by
  have noAbort : s.abortRun = s := State.abortRun_idle (by simp [State.unsettled, RunState.inPoints, h]) (by simp [h]) (by simp [h])
  simp [State.takeLoadReady, State.loadReady, State.takeRunAbort, State.takeRunClose, State.closeRun, noAbort, State.takePlanTail,
    RunState.takesTail, State.takeSealClaim, State.takeSealVoid, State.sealOpen, RunState.takesSeal, h]
end

/-- Settles O59: each frame reaches its owner, which does nothing in FAULTED, so that nothing is relit either. -/
theorem faultedIgnoresTheRun : Obligations.FaultedIgnoresTheRun := by
  intro s c faulted takes follows ignored
  have still := s.finish_of_follows follows
  obtain ⟨enrol, done, lapse, withdraw⟩ := State.takeFromPeer_closed (s := s) (by simp [RunState.takesRoster, faulted])
  obtain ⟨load, abort, close, tail, claim, void⟩ := State.faulted_takesNothing faulted
  have peer (x : BitVec 6) (act : State → State) (h : 1 ≤ x.toNat ∧ x.toNat ≤ 60 ∧ x.toNat ≠ s.sys.address) (ha : act s = s) :
      (s.fromPeer x true act).finish = .next s := by
    rw [s.fromPeer_act x act takes h.1 h.2.1 h.2.2, ha, still]
  have controller (act : State → State) (ha : act s = s) : (s.taken true act).finish = .next s := by
    rw [s.taken_act act takes, ha, still]
  cases ignored with
  | loadReady run n d => exact controller _ (load run n d)
  | runAbort run => exact controller _ (abort run)
  | runClose run => exact controller _ (close run)
  | planTail run t h => rw [exec_planTail, execPlanTail, decide_eq_true h]; exact controller _ (tail run t)
  | enrol x run h => exact peer x _ h (enrol x run)
  | done x run n mask f h hm => rw [exec_done, execDone, hm]; exact peer x _ h (done x run n f)
  | lapse x run n a h ha => rw [exec_lapse, execLapse, ha]; exact peer x _ h (lapse run n a)
  | withdraw x run n reason h => exact peer x _ h (withdraw x run)
  | sealClaim x run v h => exact peer x _ h (claim x run v)
  | sealVoid x run a v w h => exact peer x _ h (void run a v w)

end Sys2Proof.Machine
end


section
/-! PROOFS. Which items a command leaves alone (R16, R105, R153, R164). -/

set_option Elab.async false

namespace Sys2Proof.Machine

/-! ### What LOAD READY leaves of the reference counters (R9), and SEAL VOID of the seal unit (R142) -/

theorem RefInput.take_counter (r : RefInput) (p : Nat) : (r.take p).counter = r.counter := by
  unfold RefInput.take
  split <;> rfl

section
variable (s : State)

@[simp] theorem State.takePrescalers_counters : let t := s.takePrescalers
    t.pfe.rf0.counter = s.pfe.rf0.counter ∧ t.pfe.rf1.counter = s.pfe.rf1.counter := by
  simp only [State.takePrescalers, State.mapPfe, Pfe.mapRef]
  split
  · simp
  · split <;> split <;> simp [RefInput.take_counter]

@[simp] theorem State.enterSettling_counters : let t := s.enterSettling
    t.pfe.rf0.counter = s.pfe.rf0.counter ∧ t.pfe.rf1.counter = s.pfe.rf1.counter := by
  unfold State.enterSettling
  dsimp only
  split <;> simp

@[simp] theorem State.loadInWait_counters (n d : Nat) : let t := s.loadInWait n d
    t.pfe.rf0.counter = s.pfe.rf0.counter ∧ t.pfe.rf1.counter = s.pfe.rf1.counter := by
  unfold State.loadInWait
  split_ifs <;> simp

@[simp] theorem State.thenWait_counters (n d : Nat) : let t := s.thenWait n d
    t.pfe.rf0.counter = s.pfe.rf0.counter ∧ t.pfe.rf1.counter = s.pfe.rf1.counter := by
  unfold State.thenWait
  split <;> simp

@[simp] theorem State.loadInPaused_counters (n d : Nat) : let t := s.loadInPaused n d
    t.pfe.rf0.counter = s.pfe.rf0.counter ∧ t.pfe.rf1.counter = s.pfe.rf1.counter := by
  unfold State.loadInPaused
  split_ifs <;> simp

@[simp] theorem State.takeLoadReady_counters (run n : Half) (d : Byte) : let t := s.takeLoadReady run n d
    t.pfe.rf0.counter = s.pfe.rf0.counter ∧ t.pfe.rf1.counter = s.pfe.rf1.counter := by
  unfold State.takeLoadReady State.loadReady
  dsimp only
  split
  · split
    · split <;> simp
    · simp
    · split <;> simp
    · split <;> simp
    · split_ifs <;> simp
    · simp
    · simp
  · simp

@[simp] theorem State.takeSealVoid_seu (run : Half) (x : Byte) (v h : Word) : let t := s.takeSealVoid run x v h
    t.seu.enable = s.seu.enable ∧ t.seu.block = s.seu.block ∧ t.seu.strokeTimeout = s.seu.strokeTimeout ∧ t.seu.press = s.seu.press ∧
      t.seu.reject = s.seu.reject := by
  unfold State.takeSealVoid
  dsimp only
  split_ifs <;> simp [Seu.hearVoid]
end

/-! ### The sorts of commands -/

/-- A command that is no FRAME_RECEIVED brings itself alone. -/
theorem brings_iff {c : Instr} (h : ∀ r, c ≠ .frameReceived r) (sort : Instr → Prop) : c.Brings sort ↔ sort c := by
  refine ⟨fun b => b.resolve_right ?_, .inl⟩
  rintro ⟨bytes, line, present, -, -, rfl, -⟩
  exact h _ rfl

/-- What a frame's command writes, FRAME_RECEIVED with that frame writes. -/
theorem brings_received {bytes : List Byte} {line : List LineEdge} {present : Bool} {f : RxFrame} {b : Instr} {sort : Instr → Prop}
    (good : receiveFrame bytes = .good f) (brings : frameCommand present f = some b) (h : sort b) :
    (Instr.frameReceived ⟨bytes, line, present⟩).Brings sort := .inr ⟨bytes, line, present, f, b, rfl, good, brings, h⟩

section
variable (c : Instr)

@[simp] theorem mayReset_iff : c.MayReset ↔ c.Brings fun c => c = .powerOnReset ∨ c = .supplyDipReset ∨ c = .resetPin ∨ c = .restart :=
  .rfl
@[simp] theorem loads_iff : c.Loads ↔ c.Brings fun c => ∃ run n d, c = .loadReady run n d := .rfl
@[simp] theorem holds_iff : c.Holds ↔ c.Brings fun c => ∃ h, c = .holdSet h := .rfl
@[simp] theorem clears_iff : c.Clears ↔ c.Brings fun c => c = .planClear := .rfl
@[simp] theorem setsMask_iff : c.SetsMask ↔ c.Brings fun c => ∃ x m, c = .eventClear x m := .rfl
@[simp] theorem endsReset_iff : c.EndsReset ↔ ∃ addr rate heard, c = .resetEnd addr rate heard := .rfl
@[simp] theorem measures_iff : c.Measures ↔
    (∃ ch, c = .meterActiveEdge ch ∨ c = .glitch ch ∨ c = .pulseAccepted ch ∨ c = .meterInputReturn ch) ∨ c = .zcEdge ∨
      c = .silenceTimerExpiry := .rfl
@[simp] theorem endsStoreOp_iff : c.EndsStoreOp ↔ c = .eraseEnd ∨ c = .contentStepEnd ∨ c = .levelStepEnd ∨ c = .markEnd ∨
    c = .wipeSlotErased ∨ c = .wipeEnd := .rfl
@[simp] theorem mayClose_iff : c.MayClose ↔ c = .frameSent ∨ c.Loads ∨ c.Brings fun c =>
    (∃ x run n mask fig, c = .done x run n mask fig) ∨ (∃ x run n addrs, c = .lapse x run n addrs) ∨
      ∃ x run n reason, c = .withdraw x run n reason := .rfl
@[simp] theorem mayTakeUp_iff : c.MayTakeUp ↔ c.MayClose ∨ c = .enrolWindowExpiry ∨ c.Brings fun c =>
    (∃ p, c = .planPut p) ∨ ∃ run tail, c = .planTail run tail := .rfl
@[simp] theorem hearsSerial_iff : c.HearsSerial ↔ c.Brings fun c =>
    (∃ x run v, c = .sealClaim x run v) ∨ ∃ x run a v h, c = .sealVoid x run a v h := .rfl
end

theorem opens_runOpen (f : RunOpenFields) (present : Bool) : (Instr.runOpen f present).Opens := .inl ⟨f, present, rfl⟩

/-- Of the commands that a frame does not bring, RUN OPEN is none. -/
theorem not_opens {c : Instr} (h : ∀ r, c ≠ .frameReceived r) (ho : ∀ f present, c ≠ .runOpen f present) : ¬ c.Opens := by
  rw [Instr.Opens, brings_iff h]
  rintro ⟨f, present, rfl⟩
  exact ho f present rfl

@[simp] theorem pfe_counters_iff (p q : Pfe) : (∀ r, (p.ref r).counter = (q.ref r).counter) ↔
    p.rf0.counter = q.rf0.counter ∧ p.rf1.counter = q.rf1.counter :=
  ⟨fun h => ⟨h .rf0, h .rf1⟩, fun h r => by cases r; exacts [h.1, h.2]⟩


@[simp] theorem pfe_prescalers_iff (p q : Pfe) : (∀ r, (p.ref r).prescaler = (q.ref r).prescaler) ↔
    p.rf0.prescaler = q.rf0.prescaler ∧ p.rf1.prescaler = q.rf1.prescaler :=
  ⟨fun h => ⟨h .rf0, h .rf1⟩, fun h r => by cases r; exacts [h.1, h.2]⟩

/-! ### Steps on the way -/

section
variable {s t u : State} {c : Instr}

theorem leavesTheRest_refl (c : Instr) (s : State) : c.LeavesTheRest s s := by
  constructor <;> intros <;> trivial

theorem leavesTheRest_trans (h1 : c.LeavesTheRest s t) (h2 : c.LeavesTheRest t u) : c.LeavesTheRest s u := by
  obtain ⟨⟩ := h1
  obtain ⟨⟩ := h2
  constructor <;> grind

theorem leavesTheRest_ite {p : Prop} [Decidable p] (ht : c.LeavesTheRest s t) (hu : c.LeavesTheRest s u) :
    c.LeavesTheRest s (if p then t else u) := by
  split
  exacts [ht, hu]

/-- A command that changes nothing where it does not act. -/
theorem leavesTheRest_when {p : Prop} [Decidable p] (h : c.LeavesTheRest s t) : c.LeavesTheRest s (if p then t else s) :=
  leavesTheRest_ite h (leavesTheRest_refl c s)

/-- The relighting of the lamps touches no item listed. -/
theorem leavesTheRest_finish (h : c.LeavesTheRest s u) (ht : u.finish = .next t) : c.LeavesTheRest s t := by
  obtain rfl := (u.finish_eq_next t).1 ht
  refine leavesTheRest_trans h ?_
  constructor <;> simp

theorem leavesTheRest_stray (c : Instr) (s : State) : c.LeavesTheRest s s.stray := by
  constructor <;> simp

theorem leavesTheRest_clash (c : Instr) (s : State) : c.LeavesTheRest s s.clash := by
  constructor
  case counters => exact fun _ r _ => by cases r <;> simp [Pfe.ref]
  all_goals simp

/-- A reset may write every item but the waiting commands and the pins. -/
theorem leavesTheRest_reset (h : c.MayReset) (pending : t.pending = s.pending) (pins : t.pins = s.pins) : c.LeavesTheRest s t := by
  constructor
  case pending => exact pending
  case pins => exact fun _ _ _ _ => pins
  all_goals exact fun n => absurd h n

theorem leavesTheRest_taken {form : Bool} {act : State → State} (h : c.LeavesTheRest s (act s)) : c.LeavesTheRest s (s.taken form act) :=
  leavesTheRest_ite (leavesTheRest_refl c s) (leavesTheRest_ite h (leavesTheRest_stray c s))

theorem leavesTheRest_fromPeer {x : BitVec 6} {form : Bool} {act : State → State} (h : c.LeavesTheRest s (act s)) :
    c.LeavesTheRest s (s.fromPeer x form act) :=
  leavesTheRest_ite (leavesTheRest_refl c s)
    (leavesTheRest_ite (leavesTheRest_clash c s) (leavesTheRest_ite h (leavesTheRest_stray c s)))

theorem leavesTheRest_takeRequest (c : Instr) (s : State) (f : RxFrame) : c.LeavesTheRest s (s.takeRequest f) := by
  constructor <;> simp
end

/-- The owner of a frame leaves what the frame's command does not write. -/
theorem leavesTheRest_owner (s : State) (c : Instr) (h : ∀ r, c ≠ .frameReceived r) : c.LeavesTheRest s (s.owner c) := by
  have sorts := brings_iff h
  cases c with
  | planPut p => constructor <;> simp [sorts]
  | planTail run tail => constructor <;> simp [sorts]
  | planClear => constructor <;> simp [sorts]
  | runOpen f present => constructor <;> simp [sorts, opens_runOpen]
  | loadReady run n d => constructor <;> simp [sorts]
  | runAbort run => constructor <;> simp
  | runClose run => constructor <;> simp
  | holdSet x => constructor <;> simp [sorts]
  | eventClear x m => constructor <;> simp [sorts]
  | recordMark n q => constructor <;> simp
  | storeWipe => constructor <;> simp
  | enrol x run => constructor <;> simp
  | done x run n mask fig => constructor <;> simp [sorts]
  | lapse x run n a => constructor <;> simp [sorts]
  | withdraw x run n reason => constructor <;> simp [sorts]
  | sealClaim x run v => constructor <;> simp [sorts]
  | sealVoid x run a v w => constructor <;> simp [sorts]
  | _ => exact leavesTheRest_refl _ s

/-! ### FRAME_RECEIVED -/

/-- A frame's command is none of the others: an input, a timer, a store operation's end, a reset's end or a frame's end. -/
theorem frameCommand_sorts {present : Bool} {f : RxFrame} {b : Instr} (h : frameCommand present f = some b) :
    (∀ r, b ≠ .frameReceived r) ∧ (b ≠ .mpresFall ∧ b ≠ .strokeInactive ∧ b ≠ .strokeEnd ∧ b ≠ .zcEdge ∧ b ≠ .silenceTimerExpiry ∧
      b ≠ .lineLost ∧ b ≠ .levelStepEnd ∧ b ≠ .strokeTimerExpiry ∧ b ≠ .rejectPulseEnd ∧ b ≠ .frameSent ∧ b ≠ .enrolWindowExpiry) ∧
      (∀ r, b ≠ .referenceEdge r) ∧ ¬ b.Measures ∧ ¬ b.EndsStoreOp ∧ ¬ b.EndsReset := by
  simp only [frameCommand] at h
  split at h <;> cases h <;> simp

/-- What a frame's command leaves alone, FRAME_RECEIVED with that frame leaves alone; the last sender is another matter. -/
theorem leavesTheRest_received {bytes : List Byte} {line : List LineEdge} {present : Bool} {f : RxFrame} {b : Instr} {s t : State}
    (good : receiveFrame bytes = .good f) (brings : frameCommand present f = some b) (h : b.LeavesTheRest s t) :
    (Instr.frameReceived ⟨bytes, line, present⟩).LeavesTheRest s t := by
  obtain ⟨direct, others, edge, measures, ends, reset⟩ := frameCommand_sorts brings
  obtain ⟨mpres, inactive, stroke, zc, silence, lost, level, expiry, pulse, sent, window⟩ := others
  have lift {sort : Instr → Prop} (hb : b.Brings sort) : (Instr.frameReceived ⟨bytes, line, present⟩).Brings sort :=
    brings_received good brings ((brings_iff direct sort).1 hb)
  have closes (hb : b.MayClose) : (Instr.frameReceived ⟨bytes, line, present⟩).MayClose :=
    (hb.resolve_left sent).elim (fun loads => .inr (.inl (lift loads))) fun peer => .inr (.inr (lift peer))
  have takesUp (hb : b.MayTakeUp) : (Instr.frameReceived ⟨bytes, line, present⟩).MayTakeUp :=
    hb.elim (fun close => .inl (closes close)) fun plan => .inr (.inr (lift (plan.resolve_left window)))
  constructor
  case pending => exact h.pending
  case pins => exact fun o _ _ _ => h.pins (mt lift o) mpres inactive stroke
  case time => exact fun r => h.time (mt lift r)
  case counters => exact fun r q _ => h.counters (mt lift r) q (edge q)
  case prescalers => exact fun r l => h.prescalers (mt lift r) (mt lift l)
  case mains => exact fun r _ _ => h.mains (mt lift r) zc silence
  case inputs => exact fun r o => h.inputs (mt lift r) (mt lift o)
  case sums => exact fun r _ l => h.sums (mt lift r) measures (mt lift l)
  case outcomes => exact fun r _ l o => h.outcomes (mt lift r) measures (mt lift l) (mt lift o)
  case plan => exact fun r m o e => h.plan (mt lift r) (mt takesUp m) (mt lift o) (mt lift e)
  case point => exact fun r m o => h.point (mt lift r) (mt takesUp m) (mt lift o)
  case run => exact fun r o => h.run (mt lift r) (mt lift o)
  case tally => exact fun r m o => h.tally (mt lift r) (mt closes m) (mt lift o)
  case station => exact fun r _ o => h.station (mt lift r) reset (mt lift o)
  case mask => exact fun r m => h.mask (mt lift r) (mt lift m)
  case thresholds => exact fun r o => h.thresholds (mt lift r) (mt lift o)
  case lastSender => exact fun _ _ _ received => absurd rfl (received _)
  case lost => exact fun r _ => h.lost (mt lift r) lost
  case block => exact fun r o => h.block (mt lift r) (mt lift o)
  case watermark => exact fun r o v _ => h.watermark (mt lift r) (mt lift o) (mt lift v) sent
  case voids => exact fun r o v => h.voids (mt lift r) (mt lift o) (mt lift v)
  case press => exact fun r o _ _ _ => h.press (mt lift r) (mt lift o) level stroke expiry
  case reject => exact fun r m _ => h.reject (mt lift r) (mt closes m) pulse
  case cells => exact fun r _ => h.cells (mt lift r) ends
  case damaged => exact fun r _ _ => h.damaged (mt lift r) ends reset

/-- FRAME_RECEIVED leaves what the command of the frame does not write (R94 to R96). -/
theorem leavesTheRest_frameReceived (r : Reception) (s : State) {t : State} (ht : execFrameReceived r s = .next t) :
    (Instr.frameReceived r).LeavesTheRest s t := by
  obtain ⟨bytes, line, present⟩ := r
  refine leavesTheRest_finish (leavesTheRest_when ?_) ht
  dsimp only
  split
  case h_1 => constructor <;> simp
  case h_2 f good =>
    have heard : (Instr.frameReceived ⟨bytes, line, present⟩).LeavesTheRest s (((s.see line).charactersEnded bytes 0).heard f) := by
      constructor <;> simp
    refine leavesTheRest_trans heard ?_
    generalize ((s.see line).charactersEnded bytes 0) = u
    unfold State.acceptFrame
    refine leavesTheRest_ite (leavesTheRest_clash _ _) ?_
    split
    · exact leavesTheRest_refl _ _
    · exact leavesTheRest_stray _ _
    · unfold State.enterBuffer
      split
      case isTrue restart =>
        have brings : frameCommand present f = some .restart := by simp [frameCommand, restart, kindRestart]
        exact leavesTheRest_received good brings (leavesTheRest_reset (.inl (.inr (.inr (.inr rfl)))) (by simp) (by simp))
      refine leavesTheRest_ite ?_ (leavesTheRest_ite (leavesTheRest_takeRequest _ _ f) ?_)
      · constructor <;> simp
      · split
        case h_1 b brings => exact leavesTheRest_received good brings (leavesTheRest_owner _ b (frameCommand_sorts brings).1)
        case h_2 => exact leavesTheRest_refl _ _

/-! ### The inputs (chapter 1) -/

section
variable {s t : State}

theorem leavesTheRest_meterActiveEdge {ch : Channel} (ht : execMeterActiveEdge ch s = .next t) :
    (Instr.meterActiveEdge ch).LeavesTheRest s t := leavesTheRest_finish (leavesTheRest_when (by constructor <;> simp)) ht

theorem leavesTheRest_glitch {ch : Channel} (ht : execGlitch ch s = .next t) : (Instr.glitch ch).LeavesTheRest s t :=
  leavesTheRest_finish (leavesTheRest_when (by constructor <;> simp)) ht

theorem leavesTheRest_pulseAccepted {ch : Channel} (ht : execPulseAccepted ch s = .next t) :
    (Instr.pulseAccepted ch).LeavesTheRest s t := by
  refine leavesTheRest_finish ?_ ht
  split
  · exact leavesTheRest_when (by constructor <;> simp)
  · exact leavesTheRest_refl _ s

theorem leavesTheRest_meterInputReturn {ch : Channel} (ht : execMeterInputReturn ch s = .next t) :
    (Instr.meterInputReturn ch).LeavesTheRest s t := leavesTheRest_finish (leavesTheRest_when (by constructor <;> simp)) ht

theorem RefInput.rawEdge_prescaler (r : RefInput) : r.rawEdge.prescaler = r.prescaler := by
  unfold RefInput.rawEdge
  split_ifs <;> rfl

theorem leavesTheRest_referenceEdge {r : RefName} (ht : execReferenceEdge r s = .next t) :
    (Instr.referenceEdge r).LeavesTheRest s t := by
  refine leavesTheRest_finish (leavesTheRest_when ?_) ht
  constructor
  case counters => intro _ q hq; cases r <;> cases q <;> simp_all [Pfe.mapRef, Pfe.ref]
  case prescalers => intro _ _ q; cases r <;> cases q <;> simp [Pfe.mapRef, Pfe.ref, RefInput.rawEdge_prescaler]
  all_goals cases r <;> simp [Pfe.mapRef, Pfe.settings]

theorem leavesTheRest_zcEdge (ht : execZcEdge s = .next t) : Instr.zcEdge.LeavesTheRest s t :=
  leavesTheRest_finish (leavesTheRest_when (by constructor <;> simp)) ht

theorem leavesTheRest_silenceTimerExpiry (ht : execSilenceTimerExpiry s = .next t) : Instr.silenceTimerExpiry.LeavesTheRest s t := by
  refine leavesTheRest_finish (leavesTheRest_when (leavesTheRest_ite ?_ ?_)) ht
  · constructor <;> simp
  · constructor <;> simp

theorem leavesTheRest_mpresFall (ht : execMpresFall s = .next t) : Instr.mpresFall.LeavesTheRest s t := by
  refine leavesTheRest_finish (leavesTheRest_ite ?_ ?_) ht
  · constructor <;> simp
  · constructor <;> simp

theorem leavesTheRest_strokeInactive (ht : execStrokeInactive s = .next t) : Instr.strokeInactive.LeavesTheRest s t := by
  refine leavesTheRest_finish (leavesTheRest_ite ?_ ?_) ht
  · constructor <;> simp
  · constructor <;> simp

theorem leavesTheRest_strokeEnd (ht : execStrokeEnd s = .next t) : Instr.strokeEnd.LeavesTheRest s t := by
  refine leavesTheRest_finish (leavesTheRest_ite ?_ ?_) ht
  · constructor <;> simp
  · constructor <;> simp

/-! ### The timers (R17) -/

theorem leavesTheRest_resetEnd {addr : BitVec 6} {rate : BitVec 2} {heard : List Heard} (ht : execResetEnd addr rate heard s = .next t) :
    (Instr.resetEnd addr rate heard).LeavesTheRest s t := leavesTheRest_finish (leavesTheRest_when (by constructor <;> simp)) ht

theorem leavesTheRest_enrolWindowExpiry (ht : execEnrolWindowExpiry s = .next t) : Instr.enrolWindowExpiry.LeavesTheRest s t :=
  leavesTheRest_finish (leavesTheRest_when (by constructor <;> simp)) ht

theorem leavesTheRest_barrierTimerExpiry (ht : execBarrierTimerExpiry s = .next t) : Instr.barrierTimerExpiry.LeavesTheRest s t :=
  leavesTheRest_finish (leavesTheRest_when (by constructor <;> simp)) ht

theorem leavesTheRest_delayTimerExpiry (ht : execDelayTimerExpiry s = .next t) : Instr.delayTimerExpiry.LeavesTheRest s t := by
  refine leavesTheRest_finish (leavesTheRest_when (leavesTheRest_ite ?_ ?_)) ht
  · constructor <;> simp
  · constructor <;> simp

theorem leavesTheRest_confirmTimerExpiry (ht : execConfirmTimerExpiry s = .next t) : Instr.confirmTimerExpiry.LeavesTheRest s t :=
  leavesTheRest_finish (leavesTheRest_when (by constructor <;> simp)) ht

theorem leavesTheRest_strokeTimerExpiry (ht : execStrokeTimerExpiry s = .next t) : Instr.strokeTimerExpiry.LeavesTheRest s t := by
  refine leavesTheRest_finish (leavesTheRest_ite ?_ ?_) ht
  · constructor <;> simp
  · constructor <;> simp

theorem leavesTheRest_lateEnrolAllowanceEnd (ht : execLateEnrolAllowanceEnd s = .next t) :
    Instr.lateEnrolAllowanceEnd.LeavesTheRest s t := leavesTheRest_finish (by constructor <;> simp) ht

theorem leavesTheRest_rejectPulseEnd (ht : execRejectPulseEnd s = .next t) : Instr.rejectPulseEnd.LeavesTheRest s t :=
  leavesTheRest_finish (by constructor <;> simp) ht

theorem leavesTheRest_lampFlashToggle (ht : execLampFlashToggle s = .next t) : Instr.lampFlashToggle.LeavesTheRest s t :=
  leavesTheRest_finish (leavesTheRest_when (by constructor <;> simp)) ht

/-! ### The line (chapter 6) -/

theorem leavesTheRest_lineStuck {since : Word} (ht : execLineStuck since s = .next t) : (Instr.lineStuck since).LeavesTheRest s t :=
  leavesTheRest_finish (leavesTheRest_when (by constructor <;> simp)) ht

theorem leavesTheRest_stuckLineReleased (ht : execStuckLineReleased s = .next t) : Instr.stuckLineReleased.LeavesTheRest s t :=
  leavesTheRest_finish (leavesTheRest_when (by constructor <;> simp)) ht

theorem leavesTheRest_sendAttemptStart {line : List LineEdge} (ht : execSendAttemptStart line s = .next t) :
    (Instr.sendAttemptStart line).LeavesTheRest s t := by
  refine leavesTheRest_finish (leavesTheRest_when (leavesTheRest_ite ?_ ?_)) ht
  · constructor <;> simp
  · constructor <;> simp

theorem leavesTheRest_frameReceiveError {bad : BadFrame} (ht : execFrameReceiveError bad s = .next t) :
    (Instr.frameReceiveError bad).LeavesTheRest s t := leavesTheRest_finish (leavesTheRest_when (by constructor <;> simp)) ht

theorem leavesTheRest_frameSent (ht : execFrameSent s = .next t) : Instr.frameSent.LeavesTheRest s t := by
  refine leavesTheRest_finish ?_ ht
  split
  · constructor <;> simp
  · exact leavesTheRest_refl _ s

theorem leavesTheRest_lineLost (ht : execLineLost s = .next t) : Instr.lineLost.LeavesTheRest s t := by
  refine leavesTheRest_finish ?_ ht
  split
  · constructor <;> simp
  · exact leavesTheRest_refl _ s

theorem leavesTheRest_lineNotFollowing (ht : execLineNotFollowing s = .next t) : Instr.lineNotFollowing.LeavesTheRest s t := by
  refine leavesTheRest_finish ?_ ht
  split
  · constructor <;> simp
  · exact leavesTheRest_refl _ s

/-! ### The ends of the store's operations (R157, R158, R162) -/

theorem leavesTheRest_eraseEnd (ht : execEraseEnd s = .next t) : Instr.eraseEnd.LeavesTheRest s t := by
  refine leavesTheRest_finish ?_ ht
  split
  · constructor <;> simp
  · exact leavesTheRest_refl _ s

theorem leavesTheRest_contentStepEnd (ht : execContentStepEnd s = .next t) : Instr.contentStepEnd.LeavesTheRest s t := by
  refine leavesTheRest_finish ?_ ht
  split
  · constructor <;> simp
  · exact leavesTheRest_refl _ s

theorem leavesTheRest_levelStepEnd (ht : execLevelStepEnd s = .next t) : Instr.levelStepEnd.LeavesTheRest s t := by
  refine leavesTheRest_finish ?_ ht
  split
  · constructor <;> simp
  · exact leavesTheRest_refl _ s

theorem leavesTheRest_markEnd (ht : execMarkEnd s = .next t) : Instr.markEnd.LeavesTheRest s t := by
  refine leavesTheRest_finish ?_ ht
  split
  case h_1 n m seu _ =>
    cases seu
    · constructor <;> simp
    · constructor <;> simp
  · exact leavesTheRest_refl _ s

theorem leavesTheRest_wipeSlotErased (ht : execWipeSlotErased s = .next t) : Instr.wipeSlotErased.LeavesTheRest s t := by
  refine leavesTheRest_finish ?_ ht
  split
  · exact leavesTheRest_when (by constructor <;> simp)
  · exact leavesTheRest_refl _ s

theorem leavesTheRest_wipeEnd (ht : execWipeEnd s = .next t) : Instr.wipeEnd.LeavesTheRest s t := by
  refine leavesTheRest_finish ?_ ht
  split
  · constructor <;> simp
  · exact leavesTheRest_refl _ s
end

/-! ### Every command -/

/-- Settles O60, command by command. -/
theorem eachItemIsWrittenByItsCommands : Obligations.EachItemIsWrittenByItsCommands := by
  intro c s t ht
  cases c with
  | powerOnReset => exact leavesTheRest_finish (leavesTheRest_reset (.inl (by simp)) (by simp) (by simp)) ht
  | supplyDipReset => exact leavesTheRest_finish (leavesTheRest_reset (.inl (by simp)) (by simp) (by simp)) ht
  | resetPin => exact leavesTheRest_finish (leavesTheRest_reset (.inl (by simp)) (by simp) (by simp)) ht
  | restart => exact leavesTheRest_finish (leavesTheRest_when (leavesTheRest_reset (.inl (by simp)) (by simp) (by simp))) ht
  | frameReceived r => exact leavesTheRest_frameReceived r s ht
  | planPut p => exact leavesTheRest_finish (leavesTheRest_taken (leavesTheRest_owner s (.planPut p) nofun)) ht
  | planTail run tail => exact leavesTheRest_finish (leavesTheRest_taken (leavesTheRest_owner s (.planTail run tail) nofun)) ht
  | planClear => exact leavesTheRest_finish (leavesTheRest_taken (leavesTheRest_owner s .planClear nofun)) ht
  | runOpen f present => exact leavesTheRest_finish (leavesTheRest_taken (leavesTheRest_owner s (.runOpen f present) nofun)) ht
  | loadReady run n d => exact leavesTheRest_finish (leavesTheRest_taken (leavesTheRest_owner s (.loadReady run n d) nofun)) ht
  | runAbort run => exact leavesTheRest_finish (leavesTheRest_taken (leavesTheRest_owner s (.runAbort run) nofun)) ht
  | runClose run => exact leavesTheRest_finish (leavesTheRest_taken (leavesTheRest_owner s (.runClose run) nofun)) ht
  | holdSet x => exact leavesTheRest_finish (leavesTheRest_taken (leavesTheRest_owner s (.holdSet x) nofun)) ht
  | eventClear x m => exact leavesTheRest_finish (leavesTheRest_taken (leavesTheRest_owner s (.eventClear x m) nofun)) ht
  | recordMark n q => exact leavesTheRest_finish (leavesTheRest_taken (leavesTheRest_owner s (.recordMark n q) nofun)) ht
  | storeWipe => exact leavesTheRest_finish (leavesTheRest_taken (leavesTheRest_owner s .storeWipe nofun)) ht
  | enrol x run => exact leavesTheRest_finish (leavesTheRest_fromPeer (leavesTheRest_owner s (.enrol x run) nofun)) ht
  | done x run n mask fig => exact leavesTheRest_finish (leavesTheRest_fromPeer (leavesTheRest_owner s (.done x run n mask fig) nofun)) ht
  | lapse x run n a => exact leavesTheRest_finish (leavesTheRest_fromPeer (leavesTheRest_owner s (.lapse x run n a) nofun)) ht
  | withdraw x run n reason => exact leavesTheRest_finish (leavesTheRest_fromPeer (leavesTheRest_owner s (.withdraw x run n reason) nofun)) ht
  | sealClaim x run v => exact leavesTheRest_finish (leavesTheRest_fromPeer (leavesTheRest_owner s (.sealClaim x run v) nofun)) ht
  | sealVoid x run a v w => exact leavesTheRest_finish (leavesTheRest_fromPeer (leavesTheRest_owner s (.sealVoid x run a v w) nofun)) ht
  | statusAsk => exact leavesTheRest_finish (leavesTheRest_taken (leavesTheRest_takeRequest _ s _)) ht
  | recordAsk selector => exact leavesTheRest_finish (leavesTheRest_taken (leavesTheRest_takeRequest _ s _)) ht
  | storeSumAsk count => exact leavesTheRest_finish (leavesTheRest_taken (leavesTheRest_takeRequest _ s _)) ht
  | meterActiveEdge => exact leavesTheRest_meterActiveEdge ht
  | glitch => exact leavesTheRest_glitch ht
  | meterInputReturn => exact leavesTheRest_meterInputReturn ht
  | pulseAccepted => exact leavesTheRest_pulseAccepted ht
  | referenceEdge => exact leavesTheRest_referenceEdge ht
  | zcEdge => exact leavesTheRest_zcEdge ht
  | silenceTimerExpiry => exact leavesTheRest_silenceTimerExpiry ht
  | mpresFall => exact leavesTheRest_mpresFall ht
  | strokeInactive => exact leavesTheRest_strokeInactive ht
  | strokeEnd => exact leavesTheRest_strokeEnd ht
  | resetEnd => exact leavesTheRest_resetEnd ht
  | enrolWindowExpiry => exact leavesTheRest_enrolWindowExpiry ht
  | lateEnrolAllowanceEnd => exact leavesTheRest_lateEnrolAllowanceEnd ht
  | barrierTimerExpiry => exact leavesTheRest_barrierTimerExpiry ht
  | delayTimerExpiry => exact leavesTheRest_delayTimerExpiry ht
  | confirmTimerExpiry => exact leavesTheRest_confirmTimerExpiry ht
  | strokeTimerExpiry => exact leavesTheRest_strokeTimerExpiry ht
  | rejectPulseEnd => exact leavesTheRest_rejectPulseEnd ht
  | lampFlashToggle => exact leavesTheRest_lampFlashToggle ht
  | lineStuck => exact leavesTheRest_lineStuck ht
  | stuckLineReleased => exact leavesTheRest_stuckLineReleased ht
  | sendAttemptStart => exact leavesTheRest_sendAttemptStart ht
  | frameReceiveError => exact leavesTheRest_frameReceiveError ht
  | frameSent => exact leavesTheRest_frameSent ht
  | lineLost => exact leavesTheRest_lineLost ht
  | lineNotFollowing => exact leavesTheRest_lineNotFollowing ht
  | eraseEnd => exact leavesTheRest_eraseEnd ht
  | contentStepEnd => exact leavesTheRest_contentStepEnd ht
  | levelStepEnd => exact leavesTheRest_levelStepEnd ht
  | markEnd => exact leavesTheRest_markEnd ht
  | wipeSlotErased => exact leavesTheRest_wipeSlotErased ht
  | wipeEnd => exact leavesTheRest_wipeEnd ht

end Sys2Proof.Machine
end


section
/-! PROOFS. What edges and counted mains cycles do to the gate engine and the dwell count of a channel (chapters 1 and 2, section 4.2). -/

set_option Elab.async false

namespace Sys2Proof.Machine

/-! ### The lamps after a command that does not concern them (R65) -/

/-- A command that leaves the run sequencer, the station and the seal unit relights nothing. -/
theorem State.finish_unlit {s t : State} (follows : s.LampsFollow) (rsq : t.rsq = s.rsq := by simp) (sys : t.sys = s.sys := by simp)
    (seu : t.seu = s.seu := by simp) : t.finish = .next t := by
  refine t.finish_of_follows ?_
  rw [State.LampsFollow, s.lampDrives_congr t (by rw [rsq]) (by rw [rsq]) (by rw [rsq]) (by rw [sys]), seu]
  exact follows

section
variable (s : State) (ch : Channel)

@[simp] theorem State.relamp_engine : s.relamp.engine ch = s.engine ch := by simp [State.engine]
@[simp] theorem State.relamp_meter : s.relamp.meter ch = s.meter ch := by simp [State.meter]
@[simp] theorem State.relamp_dwell : s.relamp.dwell ch = s.dwell ch := by simp [State.dwell]

theorem State.relamp_outcome : s.relamp.ecu.outcomes.get ch = s.ecu.outcomes.get ch := by simp

@[simp] theorem State.mapRsq_engine (f : Rsq → Rsq) : (s.mapRsq f).engine ch = s.engine ch := rfl
@[simp] theorem State.mapRsq_meter (f : Rsq → Rsq) : (s.mapRsq f).meter ch = s.meter ch := rfl
@[simp] theorem State.mapRsq_dwell (f : Rsq → Rsq) : (s.mapRsq f).dwell ch = s.dwell ch := rfl
@[simp] theorem State.mapEcu_engine (f : Ecu → Ecu) : (s.mapEcu f).engine ch = s.engine ch := rfl
@[simp] theorem State.mapEcu_meter (f : Ecu → Ecu) : (s.mapEcu f).meter ch = s.meter ch := rfl

/-! ### Two changes of one block in a row -/

theorem State.mapEngine_mapEngine (f g : GateEngine → GateEngine) :
    (s.mapEngine ch f).mapEngine ch g = s.mapEngine ch fun e => g (f e) := by cases ch <;> rfl

theorem State.mapDwell_mapDwell (f g : Dwell → Dwell) : (s.mapDwell ch f).mapDwell ch g = s.mapDwell ch fun d => g (f d) := by
  cases ch <;> rfl

theorem State.mapMeter_mapMeter (f g : MeterInput → MeterInput) :
    (s.mapMeter ch f).mapMeter ch g = s.mapMeter ch fun m => g (f m) := by cases ch <;> rfl

/-! ### The end of a point at a channel's record (R51) -/

theorem State.testPoint_cases : s.testPoint = s ∨ s.testPoint = s.endPoint := by
  unfold State.testPoint
  split
  exacts [.inr rfl, .inl rfl]

@[simp] theorem State.dropPulses_engine : s.dropPulses.engine ch = s.engine ch := by simp [State.engine]

theorem State.endPoint_engine : s.endPoint.engine ch = (s.engine ch).rest := by
  have gates : s.endPoint.gates = ⟨s.gates.a.rest, s.gates.b.rest⟩ := by simp [State.endPoint]
  unfold State.engine
  rw [gates]
  cases ch <;> rfl

theorem State.endPoint_dwell : s.endPoint.dwell ch = Dwell.reset := by
  have dwell : s.endPoint.ecu.dwell = ⟨Dwell.reset, Dwell.reset⟩ := by simp [State.endPoint]
  unfold State.dwell
  rw [dwell]
  cases ch <;> rfl

variable {s ch}

theorem State.heldStamp_none : s.heldStamp ch = none ↔ (s.engine ch).held = none ∧ (s.dwell ch).held = none := by
  unfold State.heldStamp
  cases (s.engine ch).held <;> simp

theorem State.testPoint_runs (h : (s.engine ch).runs = false) : (s.testPoint.engine ch).runs = false := by
  rcases s.testPoint_cases with stays | ends
  · rwa [stays]
  · rw [ends, s.endPoint_engine]
    rfl

theorem State.testPoint_counting (h : (s.dwell ch).state ≠ .counting) : (s.testPoint.dwell ch).state ≠ .counting := by
  rcases s.testPoint_cases with stays | ends
  · rwa [stays]
  · rw [ends, s.endPoint_dwell]
    decide

theorem State.testPoint_held (h : s.heldStamp ch = none) : s.testPoint.heldStamp ch = none := by
  rcases s.testPoint_cases with stays | ends
  · rwa [stays]
  · simp [ends, State.heldStamp, s.endPoint_engine, s.endPoint_dwell, GateEngine.rest, GateEngine.reset, Dwell.reset]

/-! ### A channel's record (R44, R58) -/

variable (s ch)

theorem State.giveRecord_given (r : OutcomeRecord) :
    (s.giveRecord ch r).ecu.outcomes.get ch = some r ∧ (s.giveRecord ch r).rsq.received.get ch = some r := by
  simp [State.giveRecord]

theorem State.endGates_given (e : Ending) :
    (s.endGates ch e).ecu.outcomes.get ch = some (accuracyRecord s.ecu.copy (s.ecu.acc.get ch) e) ∧
      (s.endGates ch e).rsq.received.get ch = some (accuracyRecord s.ecu.copy (s.ecu.acc.get ch) e) := by
  simpa [State.endGates] using State.giveRecord_given _ ch _

theorem State.endDwell_given (o : ChanOutcome) :
    (s.endDwell ch o).ecu.outcomes.get ch = some (dwellRecord o) ∧
      (s.endDwell ch o).rsq.received.get ch = some (dwellRecord o) := State.giveRecord_given _ ch _

variable {s ch}

theorem State.giveRecord_runs (r : OutcomeRecord) (h : (s.engine ch).runs = false) : ((s.giveRecord ch r).engine ch).runs = false :=
  State.testPoint_runs (by simpa using h)

theorem State.giveRecord_counting (r : OutcomeRecord) (h : (s.dwell ch).state ≠ .counting) :
    ((s.giveRecord ch r).dwell ch).state ≠ .counting := State.testPoint_counting (s := State.mapRsq _ _) h

theorem State.giveRecord_held (r : OutcomeRecord) (h : s.heldStamp ch = none) : (s.giveRecord ch r).heldStamp ch = none :=
  State.testPoint_held (s := State.mapRsq _ _) h

/-- An engine that has ended does not run. -/
theorem State.endGates_runs (e : Ending) : ((s.endGates ch e).engine ch).runs = false :=
  State.giveRecord_runs _ (by simp [GateEngine.runs])

theorem State.endGates_counting (e : Ending) (h : (s.dwell ch).state ≠ .counting) : ((s.endGates ch e).dwell ch).state ≠ .counting :=
  State.giveRecord_counting _ (by simpa using h)

theorem State.endGates_held (e : Ending) (h : (s.dwell ch).held = none) : (s.endGates ch e).heldStamp ch = none :=
  State.giveRecord_held _ (by simpa [State.heldStamp_none] using h)

/-! ### Counted mains cycles (R27, R57) -/

theorem State.gateCycle_counts (hr : (s.engine ch).runs = true) (ht : (s.engine ch).timeout + 1 ≠ (s.engine ch).params.tg) :
    s.gateCycle ch = s.mapEngine ch fun g => { g with timeout := g.timeout + 1 } := by
  simp [State.gateCycle, hr, ht]

theorem State.gateCycle_ends (hr : (s.engine ch).runs = true) (ht : (s.engine ch).timeout + 1 = (s.engine ch).params.tg) :
    s.gateCycle ch = (s.mapEngine ch fun g => { g with timeout := g.timeout + 1 }).endGates ch .timeout := by
  simp [State.gateCycle, hr, ht]

theorem State.gateCycle_stopped (hr : (s.engine ch).runs = false) : s.gateCycle ch = s := by simp [State.gateCycle, hr]

theorem State.dwellCycle_counts (hs : (s.dwell ch).state = .counting) (hl : (s.dwell ch).cycles + 1 ≠ (s.dwell ch).length) :
    s.dwellCycle ch = s.mapDwell ch fun d => { d with cycles := d.cycles + 1 } := by
  simp [State.dwellCycle, hs, hl]

theorem State.dwellCycle_ends (hs : (s.dwell ch).state = .counting) (hl : (s.dwell ch).cycles + 1 = (s.dwell ch).length) :
    s.dwellCycle ch = (s.mapDwell ch fun d => { d with cycles := d.cycles + 1 }).endDwell ch
      (if (s.dwell ch).kind = .creep then .pass else .failStart) := by
  simp [State.dwellCycle, hs, hl]

theorem State.dwellCycle_stopped (hs : (s.dwell ch).state ≠ .counting) : s.dwellCycle ch = s := by simp [State.dwellCycle, hs]

/-! ### The held cycle (R28) -/

theorem State.heldStamp_engine {c : Word} (h : (s.engine ch).held = some c) : s.heldStamp ch = some c := by
  simp [State.heldStamp, h]

theorem State.takeHeld_none (h : s.heldStamp ch = none) : s.takeHeld ch = s := by
  obtain ⟨engine, dwell⟩ := State.heldStamp_none.1 h
  simp [State.takeHeld, engine, dwell]

theorem State.takeHeld_engine {c : Word} (h : (s.engine ch).held = some c) :
    s.takeHeld ch = (s.mapEngine ch fun g => { g with held := none }).gateCycle ch := by
  simp [State.takeHeld, h]

theorem State.takeHeld_dwell {c : Word} (h : (s.engine ch).held = none) (hd : (s.dwell ch).held = some c) :
    s.takeHeld ch = (s.mapDwell ch fun d => { d with held := none }).dwellCycle ch := by
  simp [State.takeHeld, h, hd]

/-- The held cycle of a running engine that has not run out is counted. -/
theorem State.takeHeld_counts {c : Word} (h : (s.engine ch).held = some c) (hr : (s.engine ch).runs = true)
    (ht : (s.engine ch).timeout + 1 ≠ (s.engine ch).params.tg) :
    s.takeHeld ch = s.mapEngine ch fun g => { g with held := none, timeout := g.timeout + 1 } := by
  rw [State.takeHeld_engine h, State.gateCycle_counts (by simpa [GateEngine.runs] using hr) (by simpa using ht), s.mapEngine_mapEngine]

/-- The held cycle that brings the timeout count to Tg ends the engine. -/
theorem State.takeHeld_ends {c : Word} (h : (s.engine ch).held = some c) (hr : (s.engine ch).runs = true)
    (ht : (s.engine ch).timeout + 1 = (s.engine ch).params.tg) :
    s.takeHeld ch = (s.mapEngine ch fun g => { g with held := none, timeout := g.timeout + 1 }).endGates ch .timeout := by
  rw [State.takeHeld_engine h, State.gateCycle_ends (by simpa [GateEngine.runs] using hr) (by simpa using ht), s.mapEngine_mapEngine]

theorem State.takeHeld_dwell_counts {c : Word} (h : (s.engine ch).held = none) (hd : (s.dwell ch).held = some c)
    (hs : (s.dwell ch).state = .counting) (hl : (s.dwell ch).cycles + 1 ≠ (s.dwell ch).length) :
    s.takeHeld ch = s.mapDwell ch fun d => { d with held := none, cycles := d.cycles + 1 } := by
  rw [State.takeHeld_dwell h hd, State.dwellCycle_counts (by simpa using hs) (by simpa using hl), s.mapDwell_mapDwell]

theorem State.takeHeld_dwell_ends {c : Word} (h : (s.engine ch).held = none) (hd : (s.dwell ch).held = some c)
    (hs : (s.dwell ch).state = .counting) (hl : (s.dwell ch).cycles + 1 = (s.dwell ch).length) :
    s.takeHeld ch = (s.mapDwell ch fun d => { d with held := none, cycles := d.cycles + 1 }).endDwell ch
      (if (s.dwell ch).kind = .creep then .pass else .failStart) := by
  rw [State.takeHeld_dwell h hd, State.dwellCycle_ends (by simpa using hs) (by simpa using hl), s.mapDwell_mapDwell]
  simp
end

/-! ### Glitches and the returns of an input (R3, R4) -/

theorem State.execGlitch_next {s u : State} {ch : Channel} (alive : s.alive = true) (live : s.live ch = true)
    (pulse : (s.meter ch).pulse ≠ none)
    (h : (s.mapMeter ch fun m => { m with pulse := none, glitches := bump 255 m.glitches }).takeHeld ch = u) :
    exec (.glitch ch) s = .next u.relamp := by
  have judges : s.judges ch = true := by simp [State.judges, alive, live, Option.isSome_iff_ne_none, pulse]
  rw [exec_glitch, execGlitch, if_pos judges, h]
  rfl

/-- Settles O5: the liveness of the input, and the held cycle by the consumer that holds it. -/
theorem meterPulseBeginsAndIsDropped : Obligations.MeterPulseBeginsAndIsDropped := by
  unfold Obligations.MeterPulseBeginsAndIsDropped
  intro ch s follows dropped ended
  have unlit {t u : State} (h : u = t) (rsq : t.rsq = s.rsq := by simp [dropped]) (sys : t.sys = s.sys := by simp [dropped])
      (seu : t.seu = s.seu := by simp [dropped]) : Host.Outcome.next u.relamp = (.next t : Host.Outcome State Fault Refusal) := by
    rw [h]
    exact State.finish_unlit follows rsq sys seu
  refine ⟨fun alive live pulse active => ?_, fun idle => ?_, fun alive live pulse => ⟨fun held => ?_, fun c held runs => ⟨fun tg => ?_, fun tg => ?_⟩,
    fun c engine held counting => ⟨fun len => ?_, fun len => ?_⟩⟩, fun alive live pulse => ?_⟩
  · have takes : s.takesEdge ch = true := by simp [State.takesEdge, alive, live, pulse, active]
    rw [exec_meterActiveEdge, execMeterActiveEdge, if_pos takes]
    exact State.finish_unlit follows
  · have takes : s.takesEdge ch = false := by
      rcases idle with live | pulse | active
      · simp [State.takesEdge, live]
      · obtain ⟨q, pending⟩ := Option.ne_none_iff_exists'.1 pulse
        simp [State.takesEdge, pending]
      · simp [State.takesEdge, active]
    rw [exec_meterActiveEdge, execMeterActiveEdge, if_neg (by simp [takes])]
    exact s.finish_of_follows follows
  · exact (State.execGlitch_next alive live pulse (State.takeHeld_none held)).trans (unlit rfl)
  · exact (State.execGlitch_next alive live pulse (State.takeHeld_counts held runs tg)).trans (unlit rfl)
  · exact ⟨_, _, State.execGlitch_next alive live pulse (State.takeHeld_ends held runs tg),
      (State.relamp_outcome _ ch).trans (State.endGates_given _ ch .timeout).1, (accuracyRecord_judgedBy _ _ .timeout).timeout rfl⟩
  · exact (State.execGlitch_next alive live pulse (State.takeHeld_dwell_counts engine held counting len)).trans (unlit rfl)
  · exact ⟨_, _, State.execGlitch_next alive live pulse (State.takeHeld_dwell_ends engine held counting len),
      (State.relamp_outcome _ ch).trans (State.endDwell_given _ ch _).1, rfl⟩
  · have back : (s.alive && s.live ch && (s.meter ch).pulse.isNone) = true := by simp [alive, live, pulse]
    rw [exec_meterInputReturn, execMeterInputReturn, if_pos back]
    exact State.finish_unlit follows

end Sys2Proof.Machine
end


section
/-! PROOFS. Accepted edges at a gate engine (R5, R20 to R28) and at a dwell count (R55, R56). -/

set_option Elab.async false

namespace Sys2Proof.Machine

/-! ### An accepted pulse and the order of the stamps (R3, R5, R28) -/

/-- The input once its pulse has been accepted. -/
def State.pulseTaken (s : State) (ch : Channel) (p : Pulse) : State :=
  s.mapMeter ch fun m => { m with pulse := none, active := true, lastEdge := some p.stamp }

/-- Is the edge less than Wd × 100 µs behind the last accepted one (R5)? -/
def State.doubles (s : State) (ch : Channel) (p : Pulse) : Bool :=
  (s.meter ch).lastEdge.any fun t => decide (elapsed t p.stamp < (s.meter ch).wd * 100)

theorem stampBefore_iff (a b : Word) : stampBefore a b = true ↔ a ≠ b ∧ (b - a).toNat < 2 ^ 31 := by
  rw [stampBefore, Bool.and_eq_true, decide_eq_true_iff, decide_eq_true_iff]
  rfl

theorem stampBefore_eq_false (a b : Word) : stampBefore a b = false ↔ a = b ∨ 2 ^ 31 ≤ (b - a).toNat := by
  rw [← Bool.not_eq_true, stampBefore_iff, not_and_or, not_not, Nat.not_lt]

section
variable {s u : State} {ch : Channel} {p : Pulse}

theorem State.live_of_runs (h : (s.engine ch).runs = true) : s.live ch = true := by simp [State.live, h]

theorem State.execPulseAccepted_next (alive : s.alive = true) (pulse : (s.meter ch).pulse = some p) (live : s.live ch = true) :
    exec (.pulseAccepted ch) s = .next (s.acceptPulse ch p).relamp := by
  have judges : s.judges ch = true := by simp [State.judges, alive, live, pulse]
  simp only [exec_pulseAccepted, execPulseAccepted, pulse, judges, if_true]
  rfl

/-- With no cycle held, and with one held that is not the earlier, the edge comes first. -/
theorem State.acceptPulse_edgeFirst (h : ∀ c, s.heldStamp ch = some c → stampBefore c p.stamp = false) :
    s.acceptPulse ch p = ((s.pulseTaken ch p).deliverEdge ch p (s.doubles ch p)).takeHeld ch := by
  have later : (s.heldStamp ch).any (fun t => stampBefore t p.stamp) = false := by
    cases held : s.heldStamp ch with
    | none => rfl
    | some c => exact h c held
  simp only [State.acceptPulse, later]
  rfl

theorem State.acceptPulse_unheld (h : s.heldStamp ch = none) :
    s.acceptPulse ch p = ((s.pulseTaken ch p).deliverEdge ch p (s.doubles ch p)).takeHeld ch :=
  State.acceptPulse_edgeFirst (by simp [h])

/-- A cycle held since before the edge is taken first. -/
theorem State.acceptPulse_cycleFirst {c : Word} (h : s.heldStamp ch = some c) (before : stampBefore c p.stamp = true) :
    s.acceptPulse ch p = ((s.pulseTaken ch p).takeHeld ch).deliverEdge ch p (s.doubles ch p) := by
  simp only [State.acceptPulse, h, Option.any_some, before, if_true]
  rfl

theorem State.doubles_iff {last : Word} (h : (s.meter ch).lastEdge = some last) :
    s.doubles ch p = true ↔ (p.stamp - last).toNat < (s.meter ch).wd * 100 := by
  rw [State.doubles, h, Option.any_some, decide_eq_true_iff]
  rfl

theorem State.doubles_of_far (h : ∀ last, (s.meter ch).lastEdge = some last → (s.meter ch).wd * 100 ≤ (p.stamp - last).toNat) :
    s.doubles ch p = false := by
  cases edge : (s.meter ch).lastEdge with
  | none => simp [State.doubles, edge]
  | some last => exact Bool.eq_false_iff.2 (mt (State.doubles_iff edge).1 (Nat.not_lt.2 (h last edge)))

@[simp] theorem State.pulseTaken_engine : (s.pulseTaken ch p).engine ch = s.engine ch := rfl
@[simp] theorem State.pulseTaken_dwell : (s.pulseTaken ch p).dwell ch = s.dwell ch := rfl
@[simp] theorem State.pulseTaken_meter :
    (s.pulseTaken ch p).meter ch = { s.meter ch with pulse := none, active := true, lastEdge := some p.stamp } := by
  simp [State.pulseTaken]
@[simp] theorem State.pulseTaken_heldStamp : (s.pulseTaken ch p).heldStamp ch = s.heldStamp ch := rfl
@[simp] theorem State.pulseTaken_frame : let t := s.pulseTaken ch p
    t.ecu = s.ecu ∧ t.rsq = s.rsq ∧ t.plt = s.plt ∧ t.rrp = s.rrp ∧ t.bli = s.bli ∧ t.rst = s.rst ∧ t.sys = s.sys := by
  simp [State.pulseTaken]

/-! ### The edge at its consumer (R6, R20 to R26) -/

theorem State.deliverEdge_stopped {d : Bool} (runs : (s.engine ch).runs = false) (dwell : (s.dwell ch).state ≠ .counting) :
    s.deliverEdge ch p d = s := by
  simp [State.deliverEdge, runs, State.dwellEdge, dwell]

theorem State.deliverEdge_armed {d : Bool} (h : (s.engine ch).state = .armed) : s.deliverEdge ch p d = s.openGate ch 1 p := by
  simp [State.deliverEdge, State.gateEdge, GateEngine.runs, h]

theorem State.deliverEdge_double (h : (s.engine ch).state = .open) :
    s.deliverEdge ch p true = s.mapEngine ch fun g => { g with double := true } := by
  simp [State.deliverEdge, State.gateEdge, GateEngine.runs, h]

theorem State.deliverEdge_counts (h : (s.engine ch).state = .open) (nm : (s.engine ch).edges + 1 ≠ (s.engine ch).params.nm) :
    s.deliverEdge ch p false = s.mapEngine ch fun g => { g with edges := g.edges + 1 } := by
  simp [State.deliverEdge, State.gateEdge, GateEngine.runs, h, nm]

theorem State.deliverEdge_closes (h : (s.engine ch).state = .open) (nm : (s.engine ch).edges + 1 = (s.engine ch).params.nm) :
    s.deliverEdge ch p false = s.closeGate ch p := by
  simp [State.deliverEdge, State.gateEdge, GateEngine.runs, h, nm]

@[simp] theorem State.openGate_engine (n : Nat) : (s.openGate ch n p).engine ch = (s.engine ch).openGate n p := by
  simp [State.openGate]
@[simp] theorem State.openGate_meter (n : Nat) : (s.openGate ch n p).meter ch = { s.meter ch with glitches := 0 } := by
  simp [State.openGate]
@[simp] theorem State.openGate_dwell (n : Nat) : (s.openGate ch n p).dwell ch = s.dwell ch := rfl

theorem GateEngine.runs_of_open {g : GateEngine} (h : g.state = .open) : g.runs = true := by simp [GateEngine.runs, h]
theorem GateEngine.runs_of_armed {g : GateEngine} (h : g.state = .armed) : g.runs = true := by simp [GateEngine.runs, h]

/-! ### A timeout ends the engine (R27) -/

/-- An engine that a cycle ends at its timeout gives INVALID_TIMEOUT and leaves the accumulators. -/
theorem State.acceptPulse_timedOut (alive : s.alive = true) (pulse : (s.meter ch).pulse = some p) (runs : (s.engine ch).runs = true)
    (h : s.acceptPulse ch p = u.endGates ch .timeout) (acc : u.ecu.acc = s.ecu.acc) :
    ∃ t r, exec (.pulseAccepted ch) s = .next t ∧ (t.engine ch).runs = false ∧ t.ecu.acc = s.ecu.acc ∧
      t.ecu.outcomes.get ch = some r ∧ r.outcome = .invalidTimeout := by
  refine ⟨_, _, State.execPulseAccepted_next alive pulse (State.live_of_runs runs), ?_, ?_, (State.relamp_outcome _ ch).trans ?_,
    (accuracyRecord_judgedBy u.ecu.copy (u.ecu.acc.get ch) .timeout).timeout rfl⟩
  · rw [State.relamp_engine, h]
    exact State.endGates_runs _
  · rw [h]
    simpa using acc
  · rw [h]
    exact (State.endGates_given _ ch .timeout).1

/-- The cycle before the edge leaves no engine for the edge (R28). -/
theorem State.acceptPulse_cycleEnds {c : Word} (held : (s.engine ch).held = some c) (before : stampBefore c p.stamp = true)
    (runs : (s.engine ch).runs = true) (tg : (s.engine ch).timeout + 1 = (s.engine ch).params.tg)
    (dwell : (s.dwell ch).state ≠ .counting) :
    s.acceptPulse ch p = ((s.pulseTaken ch p).mapEngine ch fun g => { g with held := none, timeout := g.timeout + 1 }).endGates ch
      .timeout := by
  rw [State.acceptPulse_cycleFirst (State.heldStamp_engine held) before,
    State.takeHeld_ends (s := s.pulseTaken ch p) (by simpa using held) (by simpa using runs) (by simpa using tg),
    State.deliverEdge_stopped (State.endGates_runs _) (State.endGates_counting _ (by simpa using dwell))]

/-- A cycle before the edge that ends nothing is counted, and the edge then reaches the engine (R28). -/
theorem State.acceptPulse_cycleCounts {c : Word} (held : (s.engine ch).held = some c) (before : stampBefore c p.stamp = true)
    (runs : (s.engine ch).runs = true) (tg : (s.engine ch).timeout + 1 ≠ (s.engine ch).params.tg) :
    s.acceptPulse ch p = ((s.pulseTaken ch p).mapEngine ch fun g => { g with held := none, timeout := g.timeout + 1 }).deliverEdge ch p
      (s.doubles ch p) := by
  rw [State.acceptPulse_cycleFirst (State.heldStamp_engine held) before,
    State.takeHeld_counts (s := s.pulseTaken ch p) (by simpa using held) (by simpa using runs) (by simpa using tg)]
end

end Sys2Proof.Machine
end


section
/-! PROOFS. The first accepted edge and those that count or double, with a mains cycle held behind them (R5, R20 to R22, R27, R28). -/

set_option Elab.async false

namespace Sys2Proof.Machine

section
variable {s : State} {ch : Channel} {p : Pulse}

/-- An edge that comes first, its engine then without a held cycle. -/
theorem State.acceptPulse_noCycle {u : State} (held : s.heldStamp ch = none)
    (h : (s.pulseTaken ch p).deliverEdge ch p (s.doubles ch p) = u) (unheld : u.heldStamp ch = none) : s.acceptPulse ch p = u := by
  rw [State.acceptPulse_unheld held, h, State.takeHeld_none unheld]

/-- An edge that comes before the held cycle, which is then counted (R28). -/
theorem State.acceptPulse_thenCounts {c : Word} {u : State} (held : (s.engine ch).held = some c) (later : stampBefore c p.stamp = false)
    (h : (s.pulseTaken ch p).deliverEdge ch p (s.doubles ch p) = u) (behind : (u.engine ch).held = some c)
    (runs : (u.engine ch).runs = true) (tg : (u.engine ch).timeout + 1 ≠ (u.engine ch).params.tg) :
    s.acceptPulse ch p = u.mapEngine ch fun g => { g with held := none, timeout := g.timeout + 1 } := by
  rw [State.acceptPulse_edgeFirst (by simp [State.heldStamp_engine held, later]), h, State.takeHeld_counts behind runs tg]

theorem State.acceptPulse_thenEnds {c : Word} {u : State} (held : (s.engine ch).held = some c) (later : stampBefore c p.stamp = false)
    (h : (s.pulseTaken ch p).deliverEdge ch p (s.doubles ch p) = u) (behind : (u.engine ch).held = some c)
    (runs : (u.engine ch).runs = true) (tg : (u.engine ch).timeout + 1 = (u.engine ch).params.tg) :
    s.acceptPulse ch p = (u.mapEngine ch fun g => { g with held := none, timeout := g.timeout + 1 }).endGates ch .timeout := by
  rw [State.acceptPulse_edgeFirst (by simp [State.heldStamp_engine held, later]), h, State.takeHeld_ends behind runs tg]

/-! ### Edges that leave the timeout count and the held cycle of an open gate (R5, R21, R22) -/

/-- A change of an engine that neither reads nor writes its timeout count and held cycle, and leaves its state and parameters. -/
structure GateEngine.Beside (f : GateEngine → GateEngine) : Prop where
  held : ∀ g, (f g).held = g.held
  timeout : ∀ g, (f g).timeout = g.timeout
  params : ∀ g, (f g).params = g.params
  state : ∀ g, (f g).state = g.state
  apart : ∀ g n, f { g with held := none, timeout := n } = { f g with held := none, timeout := n }

theorem GateEngine.Beside.double : GateEngine.Beside fun g => { g with double := true } :=
  ⟨fun _ => rfl, fun _ => rfl, fun _ => rfl, fun _ => rfl, fun _ _ => rfl⟩

theorem GateEngine.Beside.counts : GateEngine.Beside fun g => { g with edges := g.edges + 1 } :=
  ⟨fun _ => rfl, fun _ => rfl, fun _ => rfl, fun _ => rfl, fun _ _ => rfl⟩

variable {f : GateEngine → GateEngine} (beside : GateEngine.Beside f) (openGate : (s.engine ch).state = .open)
  (edge : ∀ u : State, (u.engine ch).state = .open → (u.engine ch).edges = (s.engine ch).edges →
    (u.engine ch).params = (s.engine ch).params → u.deliverEdge ch p (s.doubles ch p) = u.mapEngine ch f)
include beside openGate edge

theorem State.acceptPulse_beside (held : s.heldStamp ch = none) : s.acceptPulse ch p = (s.pulseTaken ch p).mapEngine ch f :=
  State.acceptPulse_noCycle held (edge _ (by simpa using openGate) (by simp) (by simp))
    (by simpa [State.heldStamp_none, beside.held] using State.heldStamp_none.1 held)

/-- Either order of the edge and the cycle gives the same (R28). -/
theorem State.acceptPulse_beside_counts {c : Word} (held : (s.engine ch).held = some c)
    (tg : (s.engine ch).timeout + 1 ≠ (s.engine ch).params.tg) :
    s.acceptPulse ch p = (s.pulseTaken ch p).mapEngine ch fun g => { f g with held := none, timeout := g.timeout + 1 } := by
  have runs := GateEngine.runs_of_open openGate
  cases first : stampBefore c p.stamp with
  | true =>
    rw [State.acceptPulse_cycleCounts held first runs tg, edge _ (by simpa using openGate) (by simp) (by simp), State.mapEngine_mapEngine]
    simp only [beside.apart]
  | false =>
    rw [State.acceptPulse_thenCounts held first (edge _ (by simpa using openGate) (by simp) (by simp)) (by simpa [beside.held] using held)
      (by simpa [GateEngine.runs, beside.state] using runs) (by simpa [beside.timeout, beside.params] using tg), State.mapEngine_mapEngine]
    simp only [beside.timeout]

theorem State.acceptPulse_beside_ends {c : Word} (alive : s.alive = true) (pulse : (s.meter ch).pulse = some p)
    (held : (s.engine ch).held = some c) (tg : (s.engine ch).timeout + 1 = (s.engine ch).params.tg)
    (dwell : (s.dwell ch).state ≠ .counting) :
    ∃ t r, exec (.pulseAccepted ch) s = .next t ∧ (t.engine ch).runs = false ∧ t.ecu.acc = s.ecu.acc ∧
      t.ecu.outcomes.get ch = some r ∧ r.outcome = .invalidTimeout := by
  have runs := GateEngine.runs_of_open openGate
  cases first : stampBefore c p.stamp with
  | true => exact State.acceptPulse_timedOut alive pulse runs (State.acceptPulse_cycleEnds held first runs tg dwell) (by simp)
  | false =>
    exact State.acceptPulse_timedOut alive pulse runs (State.acceptPulse_thenEnds held first
      (edge _ (by simpa using openGate) (by simp) (by simp)) (by simpa [beside.held] using held)
      (by simpa [GateEngine.runs, beside.state] using runs) (by simpa [beside.timeout, beside.params] using tg)) (by simp)
end

/-- Settles O6, by the state of the engine, the distance of the edge, and the order of the edge and the held cycle. -/
theorem acceptedEdgesOpenAndCount : Obligations.AcceptedEdgesOpenAndCount := by
  unfold Obligations.AcceptedEdgesOpenAndCount
  intro ch s p alive pulse kept opened timedOut
  refine ⟨fun armed => ?_, fun last openGate edge => ?_⟩
  · have runs := GateEngine.runs_of_armed armed
    have exec := State.execPulseAccepted_next alive pulse (State.live_of_runs runs)
    have opens : (s.pulseTaken ch p).deliverEdge ch p (s.doubles ch p) = (s.pulseTaken ch p).openGate ch 1 p :=
      State.deliverEdge_armed (by simpa using armed)
    refine ⟨fun held => ?_, fun c held dwell => ⟨?_, ?_⟩⟩
    · have unheld := (State.heldStamp_none.1 held).1
      rw [State.acceptPulse_noCycle held opens (by simpa [State.heldStamp_none, GateEngine.openGate] using State.heldStamp_none.1 held)] at exec
      exact ⟨_, exec, by simp [kept], by simp [GateEngine.openGate, unheld], by simp⟩
    · rintro ⟨ne, before⟩
      have first := (stampBefore_iff c p.stamp).2 ⟨ne, before⟩
      refine ⟨fun tg => ?_, fun tg => State.acceptPulse_timedOut alive pulse runs
        (State.acceptPulse_cycleEnds held first runs tg dwell) (by simp)⟩
      rw [State.acceptPulse_cycleCounts held first runs tg, State.deliverEdge_armed (by simpa using armed)] at exec
      exact ⟨_, exec, by simp [kept], by simp [GateEngine.openGate], by simp⟩
    · intro behind
      have later := (stampBefore_eq_false c p.stamp).2 behind
      refine ⟨fun tg => ?_, fun tg => State.acceptPulse_timedOut alive pulse runs (State.acceptPulse_thenEnds held later opens
        (by simpa [GateEngine.openGate] using held) (by simp [GateEngine.openGate, GateEngine.runs])
        (by simpa [GateEngine.openGate] using tg.symm)) (by simp)⟩
      rw [State.acceptPulse_thenCounts held later opens (by simpa [GateEngine.openGate] using held)
        (by simp [GateEngine.openGate, GateEngine.runs]) (by simpa [GateEngine.openGate] using Ne.symm tg)] at exec
      exact ⟨_, exec, by simp [kept], by simp [GateEngine.openGate], by simp⟩
  · have runs := GateEngine.runs_of_open openGate
    have exec := State.execPulseAccepted_next alive pulse (State.live_of_runs runs)
    refine ⟨fun near => ?_, fun far short => ?_⟩
    · have double : s.doubles ch p = true := (State.doubles_iff edge).2 near
      have marks : ∀ u : State, (u.engine ch).state = .open → (u.engine ch).edges = (s.engine ch).edges →
          (u.engine ch).params = (s.engine ch).params →
          u.deliverEdge ch p (s.doubles ch p) = u.mapEngine ch fun g => { g with double := true } :=
        fun u at_open _ _ => by rw [double, State.deliverEdge_double at_open]
      refine ⟨fun held => ?_, fun c held => ⟨fun tg => ?_, fun tg dwell => State.acceptPulse_beside_ends .double openGate marks alive pulse held tg dwell⟩⟩
      · rw [State.acceptPulse_beside .double openGate marks held] at exec
        exact ⟨_, exec, by simp [kept], by simp, by simp⟩
      · rw [State.acceptPulse_beside_counts .double openGate marks held tg] at exec
        exact ⟨_, exec, by simp [kept], by simp, by simp⟩
    · have single : s.doubles ch p = false := Bool.eq_false_iff.2 (mt (State.doubles_iff edge).1 (Nat.not_lt.2 far))
      have counts : ∀ u : State, (u.engine ch).state = .open → (u.engine ch).edges = (s.engine ch).edges →
          (u.engine ch).params = (s.engine ch).params →
          u.deliverEdge ch p (s.doubles ch p) = u.mapEngine ch fun g => { g with edges := g.edges + 1 } :=
        fun u at_open edges params => by rw [single, State.deliverEdge_counts at_open (by rw [edges, params]; exact short.ne)]
      refine ⟨fun held => ?_, fun c held tg => ?_, fun c held tg dwell => State.acceptPulse_beside_ends .counts openGate counts alive pulse held tg dwell⟩
      · rw [State.acceptPulse_beside .counts openGate counts held] at exec
        exact ⟨_, exec, by simp [kept], by simp, by simp⟩
      · rw [State.acceptPulse_beside_counts .counts openGate counts held tg] at exec
        exact ⟨_, exec, by simp [kept], by simp, by simp⟩

theorem State.endDwell_held {s : State} {ch : Channel} (o : ChanOutcome) (engine : (s.engine ch).held = none) :
    (s.endDwell ch o).heldStamp ch = none :=
  State.giveRecord_held _ (by simpa [State.heldStamp_none] using engine)

/-- Settles O8, by the kind of the dwell count and the distance of the edge. -/
theorem dwellEdgeEndsTheChannel : Obligations.DwellEdgeEndsTheChannel := by
  unfold Obligations.DwellEdgeEndsTheChannel
  intro ch s p alive pulse off counting held far given counted
  have runs : (s.engine ch).runs = false := by simp [GateEngine.runs, off]
  have exec := State.execPulseAccepted_next (ch := ch) alive pulse (by simp [State.live, counting])
  have unheld := State.heldStamp_none.1 held
  have delivers (d : Bool) : (s.pulseTaken ch p).deliverEdge ch p d = (s.pulseTaken ch p).dwellEdge ch d := by
    simp [State.deliverEdge, runs]
  have ends (u : State) (o : ChanOutcome) (engine : (u.engine ch).held = none)
      (h : (s.pulseTaken ch p).dwellEdge ch (s.doubles ch p) = u.endDwell ch o) : given o := by
    rw [State.acceptPulse_noCycle held ((delivers _).trans h) (State.endDwell_held o engine)] at exec
    exact ⟨_, exec, (State.relamp_outcome _ ch).trans (State.endDwell_given u ch o).1, (by simp : _ = _).trans (State.endDwell_given u ch o).2⟩
  have goesOn (h : (s.pulseTaken ch p).dwellEdge ch (s.doubles ch p) =
      (s.pulseTaken ch p).mapDwell ch fun d => { d with edges := d.edges + 1 }) : counted := by
    rw [State.acceptPulse_noCycle held ((delivers _).trans h) (by simpa [State.heldStamp_none] using unheld)] at exec
    exact ⟨_, exec, by simp, by simp, by simp, by simp⟩
  refine ⟨fun isFar creep => ⟨fun past => ?_, fun short => ?_⟩, fun isFar start => ⟨fun reached => ?_, fun short => ?_⟩, fun near => ?_⟩
  · refine ends ((s.pulseTaken ch p).mapDwell ch fun d => { d with edges := d.edges + 1 }) .failCreep (by simp [unheld]) ?_
    simp [State.dwellEdge, State.doubles_of_far isFar, counting, creep, past]
  · refine goesOn ?_
    simp [State.dwellEdge, State.doubles_of_far isFar, counting, creep, Nat.not_lt.2 short]
  · refine ends ((s.pulseTaken ch p).mapDwell ch fun d => { d with edges := d.edges + 1 }) .pass (by simp [unheld]) ?_
    simp [State.dwellEdge, State.doubles_of_far isFar, counting, start, reached]
  · refine goesOn ?_
    simp [State.dwellEdge, State.doubles_of_far isFar, counting, start, short.ne]
  · have double : s.doubles ch p = true := by
      by_contra single
      exact near fun last edge => Nat.not_lt.1 (mt (State.doubles_iff edge).2 single)
    refine ends (s.pulseTaken ch p) .invalidDouble (by simp [unheld]) ?_
    simp [State.dwellEdge, double, counting]

end Sys2Proof.Machine
end


section
/-! PROOFS. The closing edge of a gate: its sample, the next gate or the ending, and a mains cycle held behind the pulse (R22 to R28). -/

set_option Elab.async false

namespace Sys2Proof.Machine

/-- An accumulator once it has taken the sample of a gate (R36, R40). -/
def Ecu.taken (e : Ecu) (ch : Channel) (x : GateSample) : Accumulator := (e.acc.get ch).take e.copy.discard (e.copy.k.get ch) x

/-- The state in which the sample of the closing gate has been taken. -/
def State.sampled (s : State) (ch : Channel) (p : Pulse) : State :=
  (s.mapEngine ch fun g => { g with edges := g.edges + 1 }).takeSample ((s.engine ch).sample ch p (s.meter ch).glitches)

/-- The channel's engine has ended: it holds no cycle, and its accumulator and record stand as stated, with the result reporter as in
`h`. -/
structure State.GateEnded (u : State) (ch : Channel) (c : PointCopy) (a : Accumulator) (e : Ending) (h : State) : Prop where
  acc : u.ecu.acc.get ch = a
  runs : (u.engine ch).runs = false
  record : u.ecu.outcomes.get ch = some (accuracyRecord c a e)
  reported : u.rrp = h.rrp ∧ u.bli.report = h.bli.report

section
variable {s u h : State} {ch : Channel} {p : Pulse} {c : PointCopy} {a : Accumulator} {e : Ending}

theorem State.endGates_ended (copy : u.ecu.copy = c) (acc : u.ecu.acc.get ch = a) (rrp : u.rrp = h.rrp)
    (report : u.bli.report = h.bli.report) : (u.endGates ch e).GateEnded ch c a e h where
  acc := by simpa using acc
  runs := State.endGates_runs e
  record := by rw [← copy, ← acc]; exact (u.endGates_given ch e).1
  reported := by simp [rrp, report]

theorem State.GateEnded.relamp (ended : u.GateEnded ch c a e h) : u.relamp.GateEnded ch c a e h where
  acc := by simpa using ended.acc
  runs := by simpa using ended.runs
  record := (u.relamp_outcome ch).trans ended.record
  reported := by simpa using ended.reported

theorem State.GateEnded.mapDwell (ended : u.GateEnded ch c a e h) (f : Dwell → Dwell) : (u.mapDwell ch f).GateEnded ch c a e h where
  acc := by simpa using ended.acc
  runs := by simpa using ended.runs
  record := by simpa using ended.record
  reported := by simpa using ended.reported

/-- A cycle held behind the edge that ends the engine reaches no consumer. -/
theorem State.takeHeld_stopped (engine : (u.engine ch).held = none) (dwell : (u.dwell ch).state ≠ .counting) :
    u.takeHeld ch = u ∨ u.takeHeld ch = u.mapDwell ch fun d => { d with held := none } := by
  cases held : (u.dwell ch).held with
  | none => exact .inl (State.takeHeld_none (State.heldStamp_none.2 ⟨engine, held⟩))
  | some c =>
    right
    rw [State.takeHeld_dwell engine held, State.dwellCycle_stopped (by simpa using dwell)]

theorem State.endGates_engine_held (e : Ending) : ((u.endGates ch e).engine ch).held = none := by
  unfold State.endGates State.giveRecord
  rcases State.testPoint_cases (State.mapRsq _ _) with stays | ends
  · rw [stays]
    simp
  · rw [ends, State.endPoint_engine]
    rfl

theorem State.endGates_takeHeld (ended : (u.endGates ch e).GateEnded ch c a e h) (dwell : (u.dwell ch).state ≠ .counting) :
    ((u.endGates ch e).takeHeld ch).GateEnded ch c a e h := by
  rcases State.takeHeld_stopped (State.endGates_engine_held e) (State.endGates_counting e dwell) with stays | drops
  · rwa [stays]
  · rw [drops]
    exact ended.mapDwell _

/-! ### The sample of the closing gate (R22, R25, R40, R41) -/

theorem State.takeSample_engine (x : GateSample) : (s.takeSample x).engine ch = s.engine ch := by simp [State.engine]

theorem State.sampled_engine : (s.sampled ch p).engine ch = { s.engine ch with edges := (s.engine ch).edges + 1 } := by
  rw [State.sampled, State.takeSample_engine, s.mapEngine_engine]

theorem State.sampled_acc :
    (s.sampled ch p).ecu.acc.get ch = s.ecu.taken ch ((s.engine ch).sample ch p (s.meter ch).glitches) := by
  simp [State.sampled, State.takeSample, Ecu.taken, GateEngine.sample]

/-- The sample's gate entry, with the fields of R41's table. -/
def State.sampleEntry (s : State) (ch : Channel) (x : GateSample) : Entry := .gate (x.entry s.ecu.copy.seq s.ecu.copy.discard (s.ecu.copy.k.get ch))

theorem State.sampled_handsOn (same : h.SameReporter s) :
    (h.handEntry (s.sampleEntry ch ((s.engine ch).sample ch p (s.meter ch).glitches))).SameReporter (s.sampled ch p) := by
  have alike (f : Ecu → Ecu) : h.SameReporter ((s.mapEngine ch fun g => { g with edges := g.edges + 1 }).mapEcu f) :=
    ⟨same.rrp, same.report, same.sending, same.runState, same.sys⟩
  simp only [State.sampled, State.takeSample]
  exact (alike _).handEntry _

/-! ### The three ways on from a closed gate (R23, R24, R26) -/

theorem sample_mp_eq_zero (g : GateEngine) (n : Nat) : (g.sample ch p n).mp = 0 ↔ p.snap.count = g.latch.count := by
  simp only [GateEngine.sample]
  bv_omega

theorem State.closeGate_noref (still : p.snap.count = (s.engine ch).latch.count) : s.closeGate ch p = (s.sampled ch p).endGates ch .noref := by
  simp only [State.closeGate, (sample_mp_eq_zero (s.engine ch) _).2 still]
  rfl

theorem State.closeGate_moves (moves : p.snap.count ≠ (s.engine ch).latch.count) : s.closeGate ch p =
    if (s.engine ch).gate < (s.engine ch).params.repeats + (s.engine ch).params.discard
    then (s.sampled ch p).openGate ch ((s.engine ch).gate + 1) p else (s.sampled ch p).endGates ch .none := by
  simp only [State.closeGate, mt (sample_mp_eq_zero (s.engine ch) _).1 moves]
  rfl

/-- What a state shows of the closing gate: the engine but for its timeout count and held cycle, the input's glitches, and the blocks of
the point, with the result reporter as in `s`. -/
structure State.Closing (s v : State) (ch : Channel) (p : Pulse) (timeout : Nat) (held : Option Word) : Prop where
  engine : v.engine ch = { s.engine ch with timeout := timeout, held := held }
  glitches : (v.meter ch).glitches = (s.meter ch).glitches
  dwell : v.dwell ch = s.dwell ch
  ecu : v.ecu = s.ecu
  rsq : v.rsq = s.rsq
  same : s.SameReporter v

section
variable {s v : State} {ch : Channel} {p : Pulse} {n : Nat} {cycle : Option Word}

theorem State.pulseTaken_closing : s.Closing (s.pulseTaken ch p) ch p (s.engine ch).timeout (s.engine ch).held where
  engine := rfl
  glitches := by simp
  dwell := rfl
  ecu := rfl
  rsq := rfl
  same := ⟨rfl, rfl, rfl, rfl, rfl⟩

theorem State.cycleTaken_closing : s.Closing ((s.pulseTaken ch p).mapEngine ch fun g => { g with held := none, timeout := g.timeout + 1 })
    ch p ((s.engine ch).timeout + 1) none where
  engine := by simp
  glitches := by simp
  dwell := rfl
  ecu := rfl
  rsq := rfl
  same := ⟨rfl, rfl, rfl, rfl, rfl⟩

variable (closing : s.Closing v ch p n cycle)
include closing

theorem State.Closing.sample : (v.engine ch).sample ch p (v.meter ch).glitches = (s.engine ch).sample ch p (s.meter ch).glitches := by
  rw [closing.engine, closing.glitches]
  rfl

theorem State.Closing.ended (e : Ending) : ((v.sampled ch p).endGates ch e).GateEnded ch s.ecu.copy
    (s.ecu.taken ch ((s.engine ch).sample ch p (s.meter ch).glitches)) e
    (s.handEntry (s.sampleEntry ch ((s.engine ch).sample ch p (s.meter ch).glitches))) := by
  have handed := State.sampled_handsOn (ch := ch) (p := p) closing.same
  rw [State.sampleEntry, closing.sample, closing.ecu] at handed
  refine State.endGates_ended (by simp [State.sampled, closing.ecu]) ?_ handed.rrp handed.report
  rw [State.sampled_acc, closing.sample, closing.ecu]
end

end

/-- The next gate has opened at the closing edge of the last (R23), with the sample handed on. -/
structure State.GateOpened (s u : State) (ch : Channel) (p : Pulse) (timeout : Nat) (held : Option Word) : Prop where
  engine : u.engine ch = { s.engine ch with
    gate := (s.engine ch).gate + 1, latch := p.snap, start := p.stamp, edges := 0, double := false, timeout := timeout, held := held }
  glitches : (u.meter ch).glitches = 0
  rsq : u.rsq = s.rsq
  dwell : (u.dwell ch).state = (s.dwell ch).state
  copy : u.ecu.copy = s.ecu.copy
  acc : u.ecu.acc.get ch = s.ecu.taken ch ((s.engine ch).sample ch p (s.meter ch).glitches)
  reported : let handed := s.handEntry (s.sampleEntry ch ((s.engine ch).sample ch p (s.meter ch).glitches))
    u.rrp = handed.rrp ∧ u.bli.report = handed.bli.report

section
variable {s u v : State} {ch : Channel} {p : Pulse} {n : Nat} {cycle : Option Word}

theorem State.Closing.opened (closing : s.Closing v ch p n cycle) (isOpen : (s.engine ch).state = .open) :
    s.GateOpened ((v.sampled ch p).openGate ch ((s.engine ch).gate + 1) p) ch p 0 cycle := by
  have handed := State.sampled_handsOn (ch := ch) (p := p) closing.same
  rw [State.sampleEntry, closing.sample, closing.ecu] at handed
  refine ⟨?_, by simp, by simp [State.sampled, closing.rsq], ?_, by simp [State.sampled, closing.ecu], ?_,
    by simpa using ⟨handed.rrp, handed.report⟩⟩
  · simp [State.sampled_engine, closing.engine, GateEngine.openGate, isOpen]
  · rw [← closing.dwell]
    simp [State.dwell, State.sampled]
  · rw [← closing.ecu, ← closing.sample, ← State.sampled_acc]
    simp

theorem State.GateOpened.counted {c : Option Word} (opened : s.GateOpened u ch p n c) :
    s.GateOpened (u.mapEngine ch fun g => { g with held := none, timeout := g.timeout + 1 }) ch p (n + 1) none where
  engine := by simp [opened.engine]
  glitches := opened.glitches
  rsq := opened.rsq
  dwell := opened.dwell
  copy := opened.copy
  acc := opened.acc
  reported := opened.reported

theorem State.GateOpened.relamp (opened : s.GateOpened u ch p n cycle) : s.GateOpened u.relamp ch p n cycle where
  engine := by simpa using opened.engine
  glitches := by simpa using opened.glitches
  rsq := by simpa using opened.rsq
  dwell := by simpa using opened.dwell
  copy := by simpa using opened.copy
  acc := by simpa using opened.acc
  reported := by simpa using opened.reported

theorem State.GateOpened.timedOut (opened : s.GateOpened u ch p n cycle) : (u.endGates ch .timeout).GateEnded ch s.ecu.copy
    (s.ecu.taken ch ((s.engine ch).sample ch p (s.meter ch).glitches)) .timeout
    (s.handEntry (s.sampleEntry ch ((s.engine ch).sample ch p (s.meter ch).glitches))) :=
  State.endGates_ended opened.copy opened.acc opened.reported.1 opened.reported.2
end

/-- Settles O7, by the order of the edge and the held cycle, and by the three ways on from a closed gate. -/
theorem closingEdgeSharesItsSnapshot : Obligations.ClosingEdgeSharesItsSnapshot := by
  unfold Obligations.ClosingEdgeSharesItsSnapshot
  intro ch s p last alive pulse isOpen edge far nm dwell sample acc entry reported handed gates moves opens closes ends edgeActs
  have runs := GateEngine.runs_of_open isOpen
  have exec := State.execPulseAccepted_next alive pulse (State.live_of_runs runs)
  have single : s.doubles ch p = false := Bool.eq_false_iff.2 (mt (State.doubles_iff edge).1 (Nat.not_lt.2 far))
  have opened {n : Nat} (h : s.GateOpened (s.acceptPulse ch p) ch p n none) : opens n :=
    ⟨_, exec, h.relamp.engine, h.relamp.glitches, by simpa using h.rsq, h.relamp.acc, h.relamp.reported⟩
  have closed (h : (s.acceptPulse ch p).GateEnded ch s.ecu.copy acc .none handed) : closes :=
    ⟨_, exec, h.relamp.acc, h.relamp.runs, h.relamp.record, h.relamp.reported⟩
  have ended {e : Ending} {o : ChanOutcome} {a : Accumulator} {u : State} (outcome : (accuracyRecord s.ecu.copy a e).outcome = o)
      (h : (s.acceptPulse ch p).GateEnded ch s.ecu.copy a e u) : ends e o a u :=
    ⟨_, _, exec, h.relamp.acc, h.relamp.runs, h.relamp.record, outcome, rfl, h.relamp.reported⟩
  have noref : (accuracyRecord s.ecu.copy acc .noref).outcome = .invalidNoref := (accuracyRecord_judgedBy _ _ .noref).noref rfl
  have timeout (a : Accumulator) : (accuracyRecord s.ecu.copy a .timeout).outcome = .invalidTimeout :=
    (accuracyRecord_judgedBy _ _ .timeout).timeout rfl
  -- The edge reaches the engine in `v`, and what is held there is taken behind it.
  have delivered {v : State} {n : Nat} {cycle : Option Word} (closing : s.Closing v ch p n cycle) :
      v.deliverEdge ch p (s.doubles ch p) = v.closeGate ch p := by
    rw [single, State.deliverEdge_closes (by rw [closing.engine]; exact isOpen) (by rw [closing.engine]; exact nm)]
  have opensIn {v : State} {n : Nat} {cycle : Option Word} (closing : s.Closing v ch p n cycle) (hm : moves)
      (hg : (s.engine ch).gate < gates) : v.closeGate ch p = (v.sampled ch p).openGate ch ((s.engine ch).gate + 1) p := by
    rw [State.closeGate_moves (by rw [closing.engine]; exact hm), closing.engine, if_pos hg]
  have endsIn {v : State} {n : Nat} {cycle : Option Word} (closing : s.Closing v ch p n cycle) (hm : moves)
      (hg : gates ≤ (s.engine ch).gate) : v.closeGate ch p = (v.sampled ch p).endGates ch .none := by
    rw [State.closeGate_moves (by rw [closing.engine]; exact hm), closing.engine, if_neg (Nat.not_lt.2 hg)]
  have norefIn {v : State} {n : Nat} {cycle : Option Word} (closing : s.Closing v ch p n cycle) (hm : ¬ moves) :
      v.closeGate ch p = (v.sampled ch p).endGates ch .noref :=
    State.closeGate_noref (by rw [closing.engine]; exact not_not.1 hm)
  have stopped {v : State} {n : Nat} {cycle : Option Word} (closing : s.Closing v ch p n cycle) :
      ((v.sampled ch p).dwell ch).state ≠ .counting := by
    simpa [State.dwell, State.sampled, closing.ecu] using dwell
  refine ⟨fun unheld => ?_, fun c held => ⟨?_, ?_⟩⟩
  · have closing := State.pulseTaken_closing (s := s) (ch := ch) (p := p)
    rw [(State.heldStamp_none.1 unheld).1] at closing
    have first := (State.acceptPulse_unheld unheld).trans (congrArg (State.takeHeld · ch) (delivered closing))
    refine ⟨fun hm hg => opened ?_, fun hm hg => closed ?_, fun hm => ended noref ?_⟩
    · have w := closing.opened isOpen
      rw [first, opensIn closing hm hg, State.takeHeld_none]
      · exact w
      · exact State.heldStamp_none.2 ⟨by rw [w.engine], by simpa [State.dwell, State.sampled] using (State.heldStamp_none.1 unheld).2⟩
    · rw [first, endsIn closing hm hg]
      exact State.endGates_takeHeld (closing.ended .none) (stopped closing)
    · rw [first, norefIn closing hm]
      exact State.endGates_takeHeld (closing.ended .noref) (stopped closing)
  · rintro ⟨ne, before⟩
    have first := (stampBefore_iff c p.stamp).2 ⟨ne, before⟩
    refine ⟨fun tg => ?_, fun tg => ended (timeout _) ?_⟩
    · have closing := State.cycleTaken_closing (s := s) (ch := ch) (p := p)
      have cycleFirst := (State.acceptPulse_cycleCounts held first runs tg).trans (delivered closing)
      refine ⟨fun hm hg => opened ?_, fun hm hg => closed ?_, fun hm => ended noref ?_⟩
      · rw [cycleFirst, opensIn closing hm hg]
        exact closing.opened isOpen
      · rw [cycleFirst, endsIn closing hm hg]
        exact closing.ended .none
      · rw [cycleFirst, norefIn closing hm]
        exact closing.ended .noref
    · rw [State.acceptPulse_cycleEnds held first runs tg dwell]
      exact State.endGates_ended rfl rfl rfl rfl
  · intro behind
    have later := (stampBefore_eq_false c p.stamp).2 behind
    have closing := State.pulseTaken_closing (s := s) (ch := ch) (p := p)
    rw [held] at closing
    have edgeFirst := (State.acceptPulse_edgeFirst (s := s) (ch := ch) (p := p) (by simp [State.heldStamp_engine held, later])).trans
      (congrArg (State.takeHeld · ch) (delivered closing))
    have atEnd (hm : moves) (hg : gates ≤ (s.engine ch).gate) : closes := closed (by
      rw [edgeFirst, endsIn closing hm hg]
      exact State.endGates_takeHeld (closing.ended .none) (stopped closing))
    have still (hm : ¬ moves) : ends .noref .invalidNoref acc handed := ended noref (by
      rw [edgeFirst, norefIn closing hm]
      exact State.endGates_takeHeld (closing.ended .noref) (stopped closing))
    have w := closing.opened isOpen
    have heldThere := congrArg GateEngine.held w.engine
    have runsThere : (((s.pulseTaken ch p).sampled ch p).openGate ch ((s.engine ch).gate + 1) p |>.engine ch).runs = true := by
      rw [w.engine]
      exact runs
    refine ⟨fun tg => ⟨fun hm hg => opened ?_, atEnd, still⟩, fun tg => ⟨fun hm hg => ended (timeout _) ?_, atEnd, still⟩⟩
    · rw [edgeFirst, opensIn closing hm hg, State.takeHeld_counts heldThere runsThere (by rw [w.engine]; simpa using Ne.symm tg)]
      exact w.counted
    · rw [edgeFirst, opensIn closing hm hg, State.takeHeld_ends heldThere runsThere (by rw [w.engine]; simpa using tg.symm)]
      exact w.counted.timedOut

end Sys2Proof.Machine
end


section
/-! PROOFS. Mains edges, counted cycles and mains loss in a station that measures nothing (R12 to R15). -/

set_option Elab.async false

namespace Sys2Proof.Machine

section
variable {s t : State} {ch : Channel}

theorem State.stopped_of_not_live (h : s.live ch = false) : (s.engine ch).runs = false ∧ (s.dwell ch).state ≠ .counting := by
  simpa [State.live] using h

theorem State.channelCycle_idle {stamp : Word} (h : s.live ch = false) : s.channelCycle ch stamp = s := by
  obtain ⟨runs, dwell⟩ := State.stopped_of_not_live h
  simp [State.channelCycle, runs, dwell, State.dwellCycle]

theorem State.channelLoss_idle (h : s.live ch = false) : s.channelLoss ch = s := by
  obtain ⟨runs, dwell⟩ := State.stopped_of_not_live h
  simp [State.channelLoss, runs, dwell]

theorem State.rsqCycle_idle {pfe : Pfe} (h : s.rsq.phase = .none ∨ s.rsq.phase = .ended) : s.rsqCycle pfe = s := by
  rcases h with h | h <;> simp [State.rsqCycle, h]

theorem State.rsqLoss_idle (h : s.rsq.phase = .none ∨ s.rsq.phase = .ended) : s.rsqLoss = s := by
  rcases h with h | h <;> simp [State.rsqLoss, h]

theorem State.live_congr (gates : t.gates = s.gates) (dwell : t.ecu.dwell = s.ecu.dwell) : t.live ch = s.live ch := by
  unfold State.live State.engine State.dwell
  rw [gates, dwell]

/-- A counted cycle reaches no consumer in a station that measures nothing. -/
theorem State.countCycle_idle {stamp : Word} (a : s.live .a = false) (b : s.live .b = false)
    (phase : s.rsq.phase = .none ∨ s.rsq.phase = .ended) : s.countCycle stamp = s := by
  rw [State.countCycle, State.channelCycle_idle a, State.channelCycle_idle b, State.rsqCycle_idle phase]

/-- Mains is lost in a station that measures nothing: the event alone. -/
theorem State.loseMains_idle (a : s.live .a = false) (b : s.live .b = false) (phase : s.rsq.phase = .none ∨ s.rsq.phase = .ended) :
    s.loseMains = (s.mapPfe fun p => { p with zc := { p.zc with present := false } }).raise .mainsLost := by
  have kept (c : Channel) : ((s.mapPfe fun p => { p with zc := { p.zc with present := false } }).raise .mainsLost).live c = s.live c :=
    State.live_congr (by simp) (by simp)
  rw [State.loseMains, State.channelLoss_idle ((kept .a).trans a), State.channelLoss_idle ((kept .b).trans b),
    State.rsqLoss_idle (by simpa using phase)]

/-! ### The judgement of a mains edge (R12 to R15) -/

theorem State.exec_zcEdge_of (alive : s.alive = true) {since : Option Nat}
    (h : (s.pfe.zc.lastEdge.map fun t => elapsed t s.time.counter) = since) (u : State) (edge : s.zcEdge since = u) :
    exec .zcEdge s = .next u.relamp := by
  rw [exec_zcEdge, execZcEdge, if_pos alive, h, edge]
  rfl

theorem State.zcEdge_first : s.zcEdge none = (s.mapZc fun z => z.accept s.time.counter).mapZc fun z => { z with goodRun := 1 } := rfl

theorem State.zcEdge_noise {e : Nat} (h : e < 8000) : s.zcEdge (some e) = s := by
  simp [State.zcEdge, zcNoiseTime, h]

theorem State.zcEdge_counts {e : Nat} (low : 8000 ≤ e) (high : e ≤ 25000) (present : s.pfe.zc.present = true) : s.zcEdge (some e) =
    ((s.mapZc fun z => z.accept s.time.counter).mapZc fun z => { z with cycles := z.cycles + 1 }).countCycle s.time.counter := by
  simp [State.zcEdge, zcNoiseTime, zcLateTime, low.not_gt, high.not_gt, present]

theorem State.zcEdge_good {e : Nat} (low : 8000 ≤ e) (high : e ≤ 25000) (absent : s.pfe.zc.present = false) :
    s.zcEdge (some e) = (s.mapZc fun z => z.accept s.time.counter).mapZc Zc.good := by
  simp [State.zcEdge, zcNoiseTime, zcLateTime, low.not_gt, high.not_gt, absent]

theorem State.zcEdge_late {e : Nat} (high : 25000 < e) (absent : s.pfe.zc.present = false) :
    s.zcEdge (some e) = (s.mapZc fun z => z.accept s.time.counter).mapZc fun z => { z with goodRun := 1 } := by
  have low : ¬ e < 8000 := by omega
  simp [State.zcEdge, zcNoiseTime, zcLateTime, low, high, absent]

theorem State.zcEdge_loses {e : Nat} (high : 25000 < e) (present : s.pfe.zc.present = true) :
    s.zcEdge (some e) = ((s.mapZc fun z => z.accept s.time.counter).mapZc fun z => { z with goodRun := 1 }).loseMains := by
  have low : ¬ e < 8000 := by omega
  simp [State.zcEdge, zcNoiseTime, zcLateTime, low, high, present]
end

/-- Settles O10, by the spacing of the edge and by the presence of mains. -/
theorem zcEdgeIsJudgedByItsSpacing : Obligations.ZcEdgeIsJudgedByItsSpacing := by
  unfold Obligations.ZcEdgeIsJudgedByItsSpacing
  intro s follows alive phase liveA liveB z after
  have answers {u v : State} {since : Option Nat} (h : (s.pfe.zc.lastEdge.map fun t => elapsed t s.time.counter) = since)
      (edge : s.zcEdge since = u) (same : u = v) (rsq : v.rsq = s.rsq := by simp [after]) (sys : v.sys = s.sys := by simp [after])
      (seu : v.seu = s.seu := by simp [after]) : exec .zcEdge s = .next v :=
    (State.exec_zcEdge_of alive h u edge).trans (by rw [same]; exact State.finish_unlit follows rsq sys seu)
  refine ⟨fun first => answers (by rw [first]; rfl) State.zcEdge_first rfl, ?_⟩
  intro last edge e
  have since : (s.pfe.zc.lastEdge.map fun t => elapsed t s.time.counter) = some e := by rw [edge]; rfl
  refine ⟨fun noise => answers since (State.zcEdge_noise noise) rfl, fun low high present => ?_, fun low high absent run => ?_,
    fun low high absent run => ?_, fun high absent => answers since (State.zcEdge_late high absent) rfl, ?_⟩
  · exact answers since (State.zcEdge_counts low high present) (State.countCycle_idle liveA liveB phase)
  · refine answers since (State.zcEdge_good low high absent) ?_
    simp [State.mapZc, Zc.good, Zc.accept, run, after, z, State.mapPfe, silenceTime]
  · refine answers since (State.zcEdge_good low high absent) ?_
    simp [State.mapZc, Zc.good, Zc.accept, run, after, z, State.mapPfe, silenceTime]
  · intro high present lost
    exact ⟨answers since (State.zcEdge_loses high present) (State.loseMains_idle liveA liveB phase) (by simp [lost, after])
      (by simp [lost, after]) (by simp [lost, after]), by simp [lost, after], (State.isIn_raise ..).trans (by simp), by simp [lost, after]⟩

end Sys2Proof.Machine
end


section
/-! PROOFS. What reaches the two channels of a point in one event, with the test of R51 behind it, as one change followed by one test. -/

set_option Elab.async false

namespace Sys2Proof.Machine

/-! ### The change of one channel -/

/-- The pair with an entry noted for one channel, if there is one. -/
def PerChan.note {α : Type} (p : PerChan (Option α)) (ch : Channel) : Option α → PerChan (Option α)
  | none => p
  | some x => p.set ch (some x)

@[simp] theorem PerChan.note_none {α : Type} (p : PerChan (Option α)) (ch : Channel) : p.note ch none = p := rfl
@[simp] theorem PerChan.note_some {α : Type} (p : PerChan (Option α)) (ch : Channel) (x : α) : p.note ch (some x) = p.set ch (some x) := rfl

theorem PerChan.note_other {α : Type} (p : PerChan (Option α)) {ch k : Channel} (h : k ≠ ch) (r : Option α) :
    (p.note ch r).get k = p.get k := by
  cases r with
  | none => rfl
  | some x => exact PerChan.get_set_other p ch k _ h.symm

/-- The state `u` is `s` with the working items of one channel changed, and with its record if it was given one; no test of the point
end has been made. -/
structure State.Works (s u : State) (ch : Channel) (r : Option OutcomeRecord) : Prop where
  engine : ∀ k, k ≠ ch → u.engine k = s.engine k
  dwell : ∀ k, k ≠ ch → u.dwell k = s.dwell k
  meter : ∀ k, k ≠ ch → u.meter k = s.meter k
  rsq : u.rsq = { s.rsq with received := s.rsq.received.note ch r }
  outcomes : u.ecu.outcomes = s.ecu.outcomes.note ch r
  copy : u.ecu.copy = s.ecu.copy
  acc : u.ecu.acc = s.ecu.acc
  refs : u.pfe.rf0 = s.pfe.rf0 ∧ u.pfe.rf1 = s.pfe.rf1
  zc : u.pfe.zc = s.pfe.zc
  time : u.time = s.time
  plt : u.plt = s.plt
  bli : u.bli = s.bli
  rrp : u.rrp = s.rrp
  sys : u.sys = s.sys

section
variable {s u v : State} {ch : Channel} {r : Option OutcomeRecord}

theorem State.mapEngine_engine_other {k : Channel} (h : k ≠ ch) (f : GateEngine → GateEngine) :
    (s.mapEngine ch f).engine k = s.engine k := PerChan.get_set_other _ ch k _ h.symm

theorem State.mapDwell_dwell_other {k : Channel} (h : k ≠ ch) (f : Dwell → Dwell) : (s.mapDwell ch f).dwell k = s.dwell k :=
  PerChan.get_set_other _ ch k _ h.symm

theorem State.mapMeter_meter_other {k : Channel} (h : k ≠ ch) (f : MeterInput → MeterInput) : (s.mapMeter ch f).meter k = s.meter k :=
  PerChan.get_set_other _ ch k _ h.symm

theorem State.Works.refl : s.Works s ch none := by constructor <;> simp

theorem State.works_mapEngine (f : GateEngine → GateEngine) : s.Works (s.mapEngine ch f) ch none where
  engine _ h := State.mapEngine_engine_other h f
  dwell := by simp
  meter := by simp
  rsq := by simp
  outcomes := by simp
  copy := by simp
  acc := by simp
  refs := by simp
  zc := by simp
  time := by simp
  plt := by simp
  bli := by simp
  rrp := by simp
  sys := by simp

theorem State.works_mapDwell (f : Dwell → Dwell) : s.Works (s.mapDwell ch f) ch none where
  engine := by simp
  dwell _ h := State.mapDwell_dwell_other h f
  meter := by simp
  rsq := by simp
  outcomes := by simp
  copy := by simp
  acc := by simp
  refs := by simp
  zc := by simp
  time := by simp
  plt := by simp
  bli := by simp
  rrp := by simp
  sys := by simp

theorem State.works_mapMeter (f : MeterInput → MeterInput) : s.Works (s.mapMeter ch f) ch none where
  engine := by simp
  dwell := by simp
  meter _ h := State.mapMeter_meter_other h f
  rsq := by simp
  outcomes := by simp
  copy := by simp
  acc := by simp
  refs := by simp
  zc := by simp
  time := by simp
  plt := by simp
  bli := by simp
  rrp := by simp
  sys := by simp

/-- The record is noted, at the ECU and at the RSQ. -/
def State.putRecord (s : State) (ch : Channel) (x : OutcomeRecord) : State :=
  (s.mapEcu fun e => { e with outcomes := e.outcomes.set ch (some x) }).mapRsq fun q => { q with received := q.received.set ch (some x) }

theorem State.works_putRecord (x : OutcomeRecord) : s.Works (s.putRecord ch x) ch (some x) := by
  constructor <;> intros <;> first | exact ⟨rfl, rfl⟩ | rfl

theorem State.Works.trans (h : s.Works u ch none) (g : u.Works v ch r) : s.Works v ch r where
  engine k hk := (g.engine k hk).trans (h.engine k hk)
  dwell k hk := (g.dwell k hk).trans (h.dwell k hk)
  meter k hk := (g.meter k hk).trans (h.meter k hk)
  rsq := by rw [g.rsq, h.rsq]; rfl
  outcomes := by rw [g.outcomes, h.outcomes]; rfl
  copy := g.copy.trans h.copy
  acc := g.acc.trans h.acc
  refs := ⟨g.refs.1.trans h.refs.1, g.refs.2.trans h.refs.2⟩
  zc := g.zc.trans h.zc
  time := g.time.trans h.time
  plt := g.plt.trans h.plt
  bli := g.bli.trans h.bli
  rrp := g.rrp.trans h.rrp
  sys := g.sys.trans h.sys

theorem State.Works.current (h : s.Works u ch r) : u.current = s.current := by simp only [State.current, State.descriptor, h.rsq, h.plt]
theorem State.Works.mask (h : s.Works u ch r) : u.mask = s.mask := by simp only [State.mask, h.current]
theorem State.Works.runNumber (h : s.Works u ch r) : u.runNumber = s.runNumber := by simp only [State.runNumber, h.rsq]

theorem State.Works.live_other (h : s.Works u ch r) {k : Channel} (hk : k ≠ ch) : u.live k = s.live k := by
  unfold State.live
  rw [h.engine k hk, h.dwell k hk]

theorem State.Works.received (h : s.Works u ch r) : u.rsq.received = s.rsq.received.note ch r := by rw [h.rsq]

theorem State.Works.received_other (h : s.Works u ch r) {k : Channel} (hk : k ≠ ch) : u.rsq.received.get k = s.rsq.received.get k := by
  rw [h.received, PerChan.note_other _ hk]

theorem State.Works.pointOver_none (h : s.Works u ch none) : u.pointOver = s.pointOver := by
  unfold State.pointOver State.hasRecord
  rw [h.mask, h.rsq]
  rfl

/-! ### The ends of a channel, the test of the point end apart -/

/-- An engine that ends. -/
theorem State.endGates_works (e : Ending) : ∃ u, s.Works u ch (some (accuracyRecord s.ecu.copy (s.ecu.acc.get ch) e)) ∧
    s.endGates ch e = u.testPoint ∧ u.engine ch = { s.engine ch with state := .doneCh, ending := e, held := none } ∧
    u.dwell ch = s.dwell ch :=
  ⟨_, ((State.works_mapEngine _).trans (State.works_mapMeter MeterInput.abandon)).trans (State.works_putRecord _), rfl, by
    simp [State.putRecord], rfl⟩

/-- A dwell count that ends. -/
theorem State.endDwell_works (o : ChanOutcome) : ∃ u, s.Works u ch (some (dwellRecord o)) ∧ s.endDwell ch o = u.testPoint :=
  ⟨_, ((State.works_mapDwell _).trans (State.works_mapMeter MeterInput.abandon)).trans (State.works_putRecord _), rfl⟩
end

/-! ### The test of the point end (R51) -/

section
variable {s u : State} {ch : Channel}

theorem State.testPoint_of_over (h : s.pointOver = true) : s.testPoint = s.endPoint := if_pos h
theorem State.testPoint_of_not_over (h : s.pointOver = false) : s.testPoint = s := if_neg (by simp [h])

theorem State.pointOver_iff : s.pointOver = true ↔
    s.rsq.phase = .measuring ∧ s.hasRecord .a = true ∧ s.hasRecord .b = true ∧ s.rsq.window.state.settled = true := by
  simp [State.pointOver, and_assoc]

theorem State.hasRecord_iff : s.hasRecord ch = true ↔ (s.mask.has ch = true → s.rsq.received.get ch ≠ none) := by
  simp only [State.hasRecord, Bool.or_eq_true, Bool.not_eq_true', Option.isSome_iff_ne_none]
  cases s.mask.has ch <;> simp

theorem State.endPoint_phase : s.endPoint.rsq.phase = .ended ∧ s.endPoint.rsq.runState = .barrier := by simp [State.endPoint]

theorem State.endPoint_not_live : s.endPoint.live ch = false := by
  simp [State.live, s.endPoint_engine, s.endPoint_dwell, GateEngine.rest, GateEngine.reset, GateEngine.runs, Dwell.reset]

theorem State.testPoint_testPoint : s.testPoint.testPoint = s.testPoint := by
  cases ended : s.pointOver with
  | true =>
    rw [State.testPoint_of_over ended]
    exact State.testPoint_of_not_over (by simp [State.pointOver, State.endPoint_phase])
  | false => rw [State.testPoint_of_not_over ended, State.testPoint_of_not_over ended]

/-- The point end offers the DONE of the point behind what waits. -/
theorem State.endPoint_offers (h : s.rsq.runState ≠ .clashed) :
    s.endPoint.bli.coord ++ s.endPoint.bli.waiting = s.bli.coord ++ s.bli.waiting ++ [s.doneFrame] := by
  have offered := State.offerCoord_frames (((s.mapGates fun g => ⟨g.a.rest, g.b.rest⟩).mapEcu fun e =>
    { e with dwell := ⟨Dwell.reset, Dwell.reset⟩ }).dropPulses) s.doneFrame (by simpa using h)
  simpa [State.endPoint] using offered

/-- A test that comes first changes nothing for what follows, when what follows leaves an ended point. -/
theorem State.testPoint_then {op : State → State} {w : State} (ended : s.pointOver = true → op s.endPoint = s.endPoint ∧ w = s)
    (goesOn : s.pointOver = false → op s = w.testPoint) : op s.testPoint = w.testPoint := by
  cases h : s.pointOver with
  | true =>
    obtain ⟨idle, rfl⟩ := ended h
    rw [State.testPoint_of_over h, idle]
  | false => rw [State.testPoint_of_not_over h, goesOn h]

/-! ### One event at both channels -/

/-- The working items of one channel. -/
structure ChannelBlocks where
  engine : GateEngine
  dwell : Dwell
  meter : MeterInput

def State.blocks (s : State) (ch : Channel) : ChannelBlocks := ⟨s.engine ch, s.dwell ch, s.meter ch⟩

/-- The records of the pair `rs` where it has them, and those of `p` elsewhere. -/
def PerChan.orElse {α : Type} (rs p : PerChan (Option α)) : PerChan (Option α) := ⟨rs.a.or p.a, rs.b.or p.b⟩

@[simp] theorem PerChan.orElse_get {α : Type} (rs p : PerChan (Option α)) (ch : Channel) :
    (rs.orElse p).get ch = (rs.get ch).or (p.get ch) := by cases ch <;> rfl

theorem PerChan.note_note {α : Type} (p : PerChan (Option α)) (ra rb : Option α) :
    (p.note .a ra).note .b rb = (⟨ra, rb⟩ : PerChan (Option α)).orElse p := by
  cases ra <;> cases rb <;> rfl

/-- The state `v` is `s` with the working items of the channels changed and the records `rs` noted. -/
structure State.WorksBoth (s v : State) (rs : PerChan (Option OutcomeRecord)) : Prop where
  rsq : v.rsq = { s.rsq with received := rs.orElse s.rsq.received }
  outcomes : v.ecu.outcomes = rs.orElse s.ecu.outcomes
  refs : v.pfe.rf0 = s.pfe.rf0 ∧ v.pfe.rf1 = s.pfe.rf1
  zc : v.pfe.zc = s.pfe.zc
  time : v.time = s.time
  plt : v.plt = s.plt
  bli : v.bli = s.bli
  rrp : v.rrp = s.rrp
  sys : v.sys = s.sys

theorem State.WorksBoth.of {v : State} {ra rb : Option OutcomeRecord} (a : s.Works u .a ra) (b : u.Works v .b rb) :
    s.WorksBoth v ⟨ra, rb⟩ where
  rsq := by rw [b.rsq, a.rsq, ← PerChan.note_note]
  outcomes := by rw [b.outcomes, a.outcomes, PerChan.note_note]
  refs := ⟨b.refs.1.trans a.refs.1, b.refs.2.trans a.refs.2⟩
  zc := b.zc.trans a.zc
  time := b.time.trans a.time
  plt := b.plt.trans a.plt
  bli := b.bli.trans a.bli
  rrp := b.rrp.trans a.rrp
  sys := b.sys.trans a.sys

theorem State.WorksBoth.mask {v : State} {rs : PerChan (Option OutcomeRecord)} (h : s.WorksBoth v rs) : v.mask = s.mask := by
  simp only [State.mask, State.current, State.descriptor, h.rsq, h.plt]

/-- One event at both channels, channel A first, and then one test. `Q` says what the event does to a channel. -/
theorem State.bothChannels {op : Channel → State → State} {Q : Channel → ChannelBlocks → ChannelBlocks → Option OutcomeRecord → Prop}
    (works : ∀ ch w r, s.Works w .a r → w.pointOver = false →
      ∃ u r, w.Works u ch r ∧ op ch w = u.testPoint ∧ Q ch (w.blocks ch) (u.blocks ch) r)
    (idle : ∀ u r, s.Works u .a r → u.pointOver = true → op .b u.endPoint = u.endPoint ∧ Q .b (u.blocks .b) (u.blocks .b) none)
    (goesOn : s.pointOver = false) :
    ∃ v rs, s.WorksBoth v rs ∧ (∀ ch, Q ch (s.blocks ch) (v.blocks ch) (rs.get ch)) ∧ op .b (op .a s) = v.testPoint := by
  obtain ⟨u, ra, worksA, eqA, qa⟩ := works .a s none .refl goesOn
  suffices ∃ v rb, u.Works v .b rb ∧ Q .b (u.blocks .b) (v.blocks .b) rb ∧ op .b u.testPoint = v.testPoint by
    obtain ⟨v, rb, worksB, qb, eqB⟩ := this
    refine ⟨v, ⟨ra, rb⟩, .of worksA worksB, fun ch => ?_, by rw [eqA, eqB]⟩
    cases ch with
    | a =>
      have kept : v.blocks .a = u.blocks .a := by
        simp only [State.blocks, worksB.engine .a (by decide), worksB.dwell .a (by decide), worksB.meter .a (by decide)]
      exact kept.symm ▸ qa
    | b =>
      have kept : u.blocks .b = s.blocks .b := by
        simp only [State.blocks, worksA.engine .b (by decide), worksA.dwell .b (by decide), worksA.meter .b (by decide)]
      exact kept ▸ qb
  cases ended : u.pointOver with
  | true =>
    obtain ⟨still, qb⟩ := idle u ra worksA ended
    exact ⟨u, none, .refl, qb, by rw [State.testPoint_of_over ended, still]⟩
  | false =>
    obtain ⟨v, rb, worksB, eqB, qb⟩ := works .b u ra worksA ended
    exact ⟨v, rb, worksB, qb, by rw [State.testPoint_of_not_over ended, eqB]⟩
end

end Sys2Proof.Machine
end


section
/-! PROOFS. Counted cycles and the loss of mains in MEASURING (R14, R27 to R29, R51, R57, R58, R60). -/

set_option Elab.async false

namespace Sys2Proof.Machine

/-! ### The loss of mains (R14, R29, R58, R60) -/

/-- What the loss of mains does to a channel: a running one ends with INVALID_MAINS, an engine with its working state dropped. -/
def LossAt (_ : Channel) (x y : ChannelBlocks) (r : Option OutcomeRecord) : Prop :=
  if x.engine.runs ∨ x.dwell.state = .counting then ∃ z, r = some z ∧ z.outcome = .invalidMains ∧
    (x.engine.runs = true → y.engine = { GateEngine.reset with state := .doneCh, ending := .mains, params := x.engine.params })
  else r = none

theorem ChannelBlocks.live_iff {s : State} {ch : Channel} :
    s.live ch = true ↔ (s.blocks ch).engine.runs = true ∨ (s.blocks ch).dwell.state = .counting := by
  simp [State.live, State.blocks]

section
variable {s u w : State} {ch : Channel} {r : Option OutcomeRecord} {rs : PerChan (Option OutcomeRecord)}

theorem LossAt.of_idle {y : ChannelBlocks} (h : s.live ch = false) : LossAt ch (s.blocks ch) y none := by
  have stopped := mt ChannelBlocks.live_iff.2 (Bool.eq_false_iff.1 h)
  simp only [LossAt, if_neg stopped]

theorem State.channelLoss_works (goesOn : s.pointOver = false) :
    ∃ u r, s.Works u ch r ∧ s.channelLoss ch = u.testPoint ∧ LossAt ch (s.blocks ch) (u.blocks ch) r := by
  cases live : s.live ch with
  | false => exact ⟨s, none, .refl, by rw [State.channelLoss_idle live, State.testPoint_of_not_over goesOn], .of_idle live⟩
  | true =>
    have measures := ChannelBlocks.live_iff.1 live
    simp only [LossAt, if_pos measures]
    cases runs : (s.engine ch).runs with
    | true =>
      obtain ⟨u, works, test, engine, -⟩ := State.endGates_works (s := s.mapEngine ch GateEngine.dropWork) (ch := ch) .mains
      refine ⟨u, _, (State.works_mapEngine _).trans works, ?_, _, rfl, (accuracyRecord_judgedBy _ _ .mains).mains rfl, fun _ => ?_⟩
      · rw [← test]
        simp [State.channelLoss, runs]
      · exact engine.trans (by rw [State.mapEngine_engine]; rfl)
    | false =>
      obtain ⟨u, works, test⟩ := State.endDwell_works (s := s) (ch := ch) .invalidMains
      have counting : (s.dwell ch).state = .counting := by simpa [State.live, runs] using live
      refine ⟨u, _, works, ?_, _, rfl, rfl, fun h => absurd h (by simp [State.blocks, runs])⟩
      rw [← test]
      simp [State.channelLoss, runs, counting]

/-- The window as the loss of mains leaves it. -/
def State.windowLost (s : State) : State :=
  if s.rsq.window.state = .waiting ∨ s.rsq.window.state = .running then
    s.mapRsq fun q => { q with window := { q.window with state := .absent }, figure := none }
  else s

@[simp] theorem State.windowLost_frame : let t := s.windowLost
    t.pfe = s.pfe ∧ t.time = s.time ∧ t.gates = s.gates ∧ t.ecu = s.ecu ∧ t.plt = s.plt ∧ t.bli = s.bli ∧ t.rrp = s.rrp ∧ t.sys = s.sys := by
  simp only [State.windowLost]
  split <;> simp

/-- The window loses its figure when it waits or runs (R60). -/
theorem State.windowLost_rsq : s.windowLost.rsq =
    if s.rsq.window.state = .waiting ∨ s.rsq.window.state = .running then
      { s.rsq with window := { s.rsq.window with state := .absent }, figure := none }
    else s.rsq := by
  unfold State.windowLost
  split <;> rfl

theorem State.windowLost_rest : let t := s.windowLost.rsq
    t.runState = s.rsq.runState ∧ t.run = s.rsq.run ∧ t.seq = s.rsq.seq ∧ t.desc = s.rsq.desc ∧ t.phase = s.rsq.phase ∧
      t.received = s.rsq.received := by
  rw [State.windowLost_rsq]
  split <;> simp

theorem WindowState.settled_iff (x : WindowState) : x.settled = true ↔ x = .complete ∨ x = .absent := by cases x <;> simp [WindowState.settled]

theorem State.windowLost_settled (h : s.rsq.window.state.settled = true) : s.windowLost = s := by
  refine if_neg ?_
  rcases (WindowState.settled_iff _).1 h with h | h <;> simp [h]

theorem State.rsqLoss_measuring (phase : s.rsq.phase = .measuring) (goesOn : s.pointOver = false) :
    s.rsqLoss = s.windowLost.testPoint := by
  simp only [State.rsqLoss, phase, State.windowLost]
  split
  · rfl
  · exact (State.testPoint_of_not_over goesOn).symm

/-- A channel whose record the RSQ holds, or that needs none, does not measure, at a station where the channels that do lack theirs. -/
theorem State.Works.idle_of_over {k : Channel} (works : s.Works u ch r) (hk : k ≠ ch)
    (measures : s.live k = true → s.mask.has k = true ∧ s.rsq.received.get k = none) (record : u.hasRecord k = true) :
    u.live k = false := by
  by_contra live
  obtain ⟨has, lacks⟩ := measures (by rw [← works.live_other hk]; simpa using live)
  exact State.hasRecord_iff.1 record (by rwa [works.mask]) (by rwa [works.received_other hk])

theorem State.loseMains_measuring (phase : s.rsq.phase = .measuring)
    (measures : ∀ ch, s.live ch = true → s.mask.has ch = true ∧ s.rsq.received.get ch = none) (goesOn : s.pointOver = false) :
    let base := (s.mapPfe fun p => { p with zc := { p.zc with present := false } }).raise .mainsLost
    ∃ v rs, base.WorksBoth v rs ∧ (∀ ch, LossAt ch (s.blocks ch) (v.blocks ch) (rs.get ch)) ∧
      s.loseMains = v.windowLost.testPoint := by
  intro base
  have blocks (k : Channel) : base.blocks k = { s.blocks k with meter := base.meter k } := by
    simp [base, State.blocks, State.engine, State.dwell]
  have live (k : Channel) : base.live k = s.live k := State.live_congr (by simp [base]) (by simp [base])
  have mask : base.mask = s.mask := by simp [base, State.mask, State.current, State.descriptor]
  have point : base.pointOver = s.pointOver := by
    unfold State.pointOver State.hasRecord
    rw [mask]
    simp [base]
  obtain ⟨v, rs, both, acts, eq⟩ := State.bothChannels (s := base) (op := fun ch s => s.channelLoss ch) (Q := LossAt)
    (fun ch w _ _ goesOn => State.channelLoss_works goesOn)
    (fun u r works ended => by
      have idle := works.idle_of_over (k := .b) (by decide) (by rw [live, mask]; simpa [base] using measures .b)
        (State.pointOver_iff.1 ended).2.2.1
      exact ⟨State.channelLoss_idle State.endPoint_not_live, .of_idle idle⟩)
    (point.trans goesOn)
  refine ⟨v, rs, both, fun ch => ?_, ?_⟩
  · have act := acts ch
    rw [blocks] at act
    exact act
  · rw [State.loseMains, eq]
    refine State.testPoint_then (op := State.rsqLoss) (fun ended => ⟨State.rsqLoss_idle (.inr State.endPoint_phase.1),
      State.windowLost_settled (State.pointOver_iff.1 ended).2.2.2⟩) (State.rsqLoss_measuring ?_)
    simpa [both.rsq, base] using phase

/-- In a point that is over the loss of mains reaches nothing. -/
theorem State.loseMains_over (measures : ∀ ch, s.live ch = true → s.mask.has ch = true ∧ s.rsq.received.get ch = none)
    (ended : s.pointOver = true) :
    (∀ ch, s.live ch = false) ∧
      s.loseMains = (s.mapPfe fun p => { p with zc := { p.zc with present := false } }).raise .mainsLost := by
  obtain ⟨phase, a, b, settled⟩ := State.pointOver_iff.1 ended
  have idle (ch : Channel) : s.live ch = false := by
    by_contra live
    obtain ⟨has, lacks⟩ := measures ch (by simpa using live)
    have record : s.hasRecord ch = true := by cases ch; exacts [a, b]
    exact State.hasRecord_iff.1 record has lacks
  refine ⟨idle, ?_⟩
  have kept (c : Channel) : ((s.mapPfe fun p => { p with zc := { p.zc with present := false } }).raise .mainsLost).live c = s.live c :=
    State.live_congr (by simp) (by simp)
  rw [State.loseMains, State.channelLoss_idle ((kept .a).trans (idle .a)), State.channelLoss_idle ((kept .b).trans (idle .b))]
  rcases (WindowState.settled_iff _).1 settled with h | h <;> simp [State.rsqLoss, phase, h]
end

/-! ### What stands after the test (R51) -/

section
variable {s w : State} {rs : PerChan (Option OutcomeRecord)}

/-- What a state shows of a point whose records, window and figure are `rec`, `win` and `fig`, and which has ended if these allow it. -/
structure State.Tested (s t : State) (rec : PerChan (Option OutcomeRecord)) (win : Window) (fig : Option Nat) : Prop where
  received : t.rsq.received = rec
  window : t.rsq.window = win
  figure : t.rsq.figure = fig
  ends : (∀ ch, s.mask.has ch = true → rec.get ch ≠ none) → win.state.settled = true → t.rsq.runState = .barrier ∧ t.rsq.phase = .ended ∧
    .done s.runNumber s.rsq.seq s.mask fig ⟨if s.mask.a then rec.a else none, if s.mask.b then rec.b else none⟩ ∈
      t.bli.coord ++ t.bli.waiting

/-- The point test of a measuring state, told by the state before the event. -/
theorem State.pointOver_of_measuring (rec : PerChan (Option OutcomeRecord)) (phase : w.rsq.phase = .measuring) (mask : w.mask = s.mask)
    (received : w.rsq.received = rec) :
    w.pointOver = true ↔ (∀ ch, s.mask.has ch = true → rec.get ch ≠ none) ∧ w.rsq.window.state.settled = true := by
  rw [State.pointOver_iff, State.hasRecord_iff, State.hasRecord_iff, mask, received]
  exact ⟨fun ⟨_, a, b, settled⟩ => ⟨fun ch => by cases ch; exacts [a, b], settled⟩, fun ⟨h, settled⟩ => ⟨phase, h .a, h .b, settled⟩⟩

theorem State.tested (phase : w.rsq.phase = .measuring) (run : w.rsq.runState ≠ .clashed) (mask : w.mask = s.mask)
    (number : w.runNumber = s.runNumber) (seq : w.rsq.seq = s.rsq.seq) :
    s.Tested w.testPoint.relamp w.rsq.received w.rsq.window w.rsq.figure where
  received := by
    rcases w.testPoint_cases with h | h <;> simp [h]
  window := by
    rcases w.testPoint_cases with h | h <;> simp [h]
  figure := by
    rcases w.testPoint_cases with h | h <;> simp [h]
  ends records settled := by
    have ended := (State.pointOver_of_measuring (s := s) _ phase mask rfl).2 ⟨records, settled⟩
    have offered := State.endPoint_offers run
    rw [State.testPoint_of_over ended]
    refine ⟨by simp [State.endPoint_phase], by simp [State.endPoint_phase], ?_⟩
    rw [show w.endPoint.relamp.bli = w.endPoint.bli by simp, offered]
    refine List.mem_append_right _ (List.mem_singleton.2 ?_)
    rw [← mask, ← number, ← seq]
    rfl
end

/-! ### The two ways mains is lost (R14) -/

section
variable {s : State} {f : Zc → Zc}

/-- What the loss of mains leaves in MEASURING, told by the state before. -/
theorem State.loseMains_leaves (phase : s.rsq.phase = .measuring)
    (measures : ∀ ch, s.live ch = true → s.mask.has ch = true ∧ s.rsq.received.get ch = none) :
    let t := s.loseMains.relamp
    t.pfe.zc = { s.pfe.zc with present := false } ∧ Event.mainsLost.isIn t.rrp.flags = true ∧
    (∀ ch, s.live ch = true → ∃ r, t.ecu.outcomes.get ch = some r ∧ r.outcome = .invalidMains) ∧
    (s.rsq.window.state = .waiting ∨ s.rsq.window.state = .running → t.rsq.window.state = .absent ∧ t.rsq.figure = none) ∧
    (¬ (s.rsq.window.state = .waiting ∨ s.rsq.window.state = .running) → t.rsq.window = s.rsq.window ∧ t.rsq.figure = s.rsq.figure) ∧
    (s.rsq.runState = .measuring → s.pointOver = false →
      ((∀ ch, s.mask.has ch = true → s.live ch = true ∨ s.rsq.received.get ch ≠ none) → s.rsq.window.state ≠ .none →
        t.rsq.runState = .barrier ∧ t.rsq.phase = .ended ∧
          .done s.runNumber s.rsq.seq s.mask t.rsq.figure ⟨if s.mask.a then t.rsq.received.a else none,
            if s.mask.b then t.rsq.received.b else none⟩ ∈ t.bli.coord ++ t.bli.waiting) ∧
      (¬ ((∀ ch, s.mask.has ch = true → s.live ch = true ∨ s.rsq.received.get ch ≠ none) ∧ s.rsq.window.state ≠ .none) →
        t.rsq.runState = .measuring ∧ t.rsq.phase = .measuring ∧ t.bli.coord = s.bli.coord ∧
          ∀ ch, (s.engine ch).runs = true → t.engine ch = { GateEngine.reset with
            state := .doneCh, ending := .mains, params := (s.engine ch).params })) := by
  intro t
  cases ended : s.pointOver with
  | true =>
    obtain ⟨idle, eq⟩ := State.loseMains_over measures ended
    have settled := (WindowState.settled_iff _).1 (State.pointOver_iff.1 ended).2.2.2
    refine ⟨by simp [t, eq], ?_, fun ch live => absurd live (by simp [idle ch]), ?_, by simp [t, eq], by simp⟩
    · rw [show t.rrp = _ from (by simp [t] : t.rrp = s.loseMains.rrp).trans (congrArg State.rrp eq)]
      exact (State.isIn_raise ..).trans (by simp)
    · rcases settled with h | h <;> simp [h]
  | false =>
    obtain ⟨v, rs, both, acts, eq⟩ := State.loseMains_measuring phase measures ended
    have ends (ch : Channel) (live : s.live ch = true) := (if_pos (ChannelBlocks.live_iff.1 live)).mp (acts ch)
    have lacks (ch : Channel) (live : s.live ch = false) : rs.get ch = none :=
      (if_neg (mt ChannelBlocks.live_iff.2 (by simp [live]))).mp (acts ch)
    obtain ⟨runState, run, seq, desc, phase', received⟩ := v.windowLost_rest
    have vRsq : v.rsq = { s.rsq with received := rs.orElse s.rsq.received } := by simpa using both.rsq
    have window := v.windowLost_rsq
    rw [vRsq] at window
    have eqT : t = v.windowLost.testPoint.relamp := by rw [← eq]
    have windowT : t.rsq.window = v.windowLost.rsq.window ∧ t.rsq.figure = v.windowLost.rsq.figure := by simp [eqT]
    refine ⟨by simp [eqT, both.zc], ?_, fun ch live => ?_, fun lost => ?_, fun kept => ?_, fun run' _ => ?_⟩
    · have rrp : t.rrp = _ := (by simp [eqT] : t.rrp = v.rrp).trans both.rrp
      rw [rrp]
      exact (State.isIn_raise ..).trans (by simp)
    · obtain ⟨z, record, outcome, -⟩ := ends ch live
      refine ⟨z, (State.relamp_outcome _ ch).trans ?_, outcome⟩
      simp [eq, both.outcomes, record]
    · rw [windowT.1, windowT.2, window, if_pos lost]
      exact ⟨rfl, rfl⟩
    · rw [windowT.1, windowT.2, window, if_neg kept]
      exact ⟨rfl, rfl⟩
    · have mask : v.windowLost.mask = s.mask := by
        simp only [State.mask, State.current, State.descriptor, desc, vRsq, State.windowLost_frame, both.plt, State.raise_frame, State.mapPfe_plt]
      have phaseW : v.windowLost.rsq.phase = .measuring := by rw [phase', vRsq]; exact phase
      have runW : v.windowLost.rsq.runState = .measuring := by rw [runState, vRsq]; exact run'
      have tested := State.tested (s := s) phaseW (by simp [runW]) mask (by simp [State.runNumber, run, vRsq]) (by rw [seq, vRsq])
      rw [← eqT] at tested
      have records (ch : Channel) : v.windowLost.rsq.received.get ch ≠ none ↔ s.live ch = true ∨ s.rsq.received.get ch ≠ none := by
        rw [received, vRsq]
        cases live : s.live ch with
        | true =>
          obtain ⟨z, record, -⟩ := ends ch live
          simp [record]
        | false => simp [lacks ch live]
      have settled : v.windowLost.rsq.window.state.settled = true ↔ s.rsq.window.state ≠ .none := by
        rw [window]
        split
        · rename_i lost
          have waited : s.rsq.window.state = .waiting ∨ s.rsq.window.state = .running := lost
          rcases waited with h | h <;> simp [h, WindowState.settled]
        · rename_i kept
          have waited : ¬ (s.rsq.window.state = .waiting ∨ s.rsq.window.state = .running) := kept
          rw [not_or] at waited
          cases h : s.rsq.window.state <;> simp_all [WindowState.settled]
      refine ⟨fun complete win => ?_, fun incomplete => ?_⟩
      · have done := tested.ends (fun ch has => (records ch).2 (complete ch has)) (settled.2 win)
        rwa [← tested.figure, ← tested.received] at done
      · have goesOn : v.windowLost.pointOver = false := by
          rw [Bool.eq_false_iff]
          intro ended
          obtain ⟨all, win⟩ := (State.pointOver_of_measuring (s := s) _ phaseW mask rfl).1 ended
          exact incomplete ⟨fun ch has => (records ch).1 (all ch has), settled.1 win⟩
        rw [eqT, State.testPoint_of_not_over goesOn]
        refine ⟨by simpa using runW, by simpa using phaseW, by simp [both.bli], fun ch runs => ?_⟩
        obtain ⟨-, -, -, engine⟩ := ends ch (State.live_of_runs runs)
        have kept : v.windowLost.engine ch = v.engine ch := by simp [State.engine]
        rw [State.relamp_engine, kept]
        exact engine runs
end

/-- Settles O13, by the state of the window and of the point, and by the two ways mains is lost. -/
theorem mainsLossEndsRunningChannels : Obligations.MainsLossEndsRunningChannels := by
  unfold Obligations.MainsLossEndsRunningChannels
  intro s
  refine ⟨fun c last present phase measures way => ?_, fun follows present silence phase liveA liveB => ?_, fun follows absent => ?_⟩
  · intro lost complete
    obtain ⟨f, eq, goodRun⟩ : ∃ f, exec c s = .next (s.mapZc f).loseMains.relamp ∧ (c = .zcEdge → (f s.pfe.zc).goodRun = 1) := by
      rcases way with ⟨rfl, silence⟩ | ⟨rfl, alive, edge, late⟩
      · refine ⟨fun z => { z with silence := none }, ?_, by simp⟩
        rw [exec_silenceTimerExpiry, execSilenceTimerExpiry, if_pos (Option.isSome_iff_ne_none.2 silence), if_pos present]
        rfl
      · refine ⟨fun z => { z.accept s.time.counter with goodRun := 1 }, ?_, fun _ => rfl⟩
        exact State.exec_zcEdge_of alive (by rw [edge]; rfl) _ (State.zcEdge_loses late present)
    obtain ⟨zc, flag, outcomes, windowLost, windowKept, ends⟩ := (s.mapZc f).loseMains_leaves phase measures
    refine ⟨_, eq, by rw [zc], flag, outcomes, fun h => ?_, windowLost, windowKept, fun run goesOn => ?_⟩
    · rw [zc]
      exact goodRun h
    · obtain ⟨done, on⟩ := ends run goesOn
      exact ⟨fun h => done h.1 h.2, on⟩
  · intro lost
    refine ⟨?_, by simp [lost], (State.isIn_raise ..).trans (by simp), by simp [lost]⟩
    rw [exec_silenceTimerExpiry, execSilenceTimerExpiry, if_pos (Option.isSome_iff_ne_none.2 silence), if_pos present,
      State.loseMains_idle (s := s.mapZc _) liveA liveB phase]
    exact State.finish_unlit follows (by simp [State.mapZc]) (by simp [State.mapZc]) (by simp [State.mapZc])
  · rw [exec_silenceTimerExpiry, execSilenceTimerExpiry]
    split
    · rw [if_neg (by simp [absent])]
      exact State.finish_unlit follows
    · rename_i stopped
      have same : (s.mapPfe fun p => { p with zc := { p.zc with silence := none } }) = s := by
        have off : s.pfe.zc.silence = none := by simpa using stopped
        unfold State.mapPfe
        rw [← off]
      rw [same]
      exact s.finish_of_follows follows

end Sys2Proof.Machine
end


section
/-! PROOFS. Counted mains cycles in MEASURING (R27, R28, R51, R57, R60). -/

set_option Elab.async false

namespace Sys2Proof.Machine

/-- What a counted cycle does to the gate engine of a channel (R27, R28). -/
def EngineCycle (stamp : Word) (x y : ChannelBlocks) (r : Option OutcomeRecord) : Prop :=
  (x.meter.pulse ≠ none → y.engine = { x.engine with held := some stamp } ∧ r = none) ∧
  (x.meter.pulse = none →
    (x.engine.timeout + 1 ≠ x.engine.params.tg → y.engine = { x.engine with timeout := x.engine.timeout + 1 } ∧ r = none) ∧
    (x.engine.timeout + 1 = x.engine.params.tg → ∃ z, r = some z ∧ z.outcome = .invalidTimeout))

/-- What a counted cycle does to the dwell count of a channel (R57). -/
def DwellCycle (stamp : Word) (x y : ChannelBlocks) (r : Option OutcomeRecord) : Prop :=
  (x.meter.pulse ≠ none → y.dwell = { x.dwell with held := some stamp } ∧ r = none) ∧
  (x.meter.pulse = none →
    (x.dwell.cycles + 1 ≠ x.dwell.length → y.dwell = { x.dwell with cycles := x.dwell.cycles + 1 } ∧ r = none) ∧
    (x.dwell.cycles + 1 = x.dwell.length → r = some (dwellRecord (if x.dwell.kind = .creep then .pass else .failStart))))

/-- What a counted cycle does to a channel: its engine takes it, or else its dwell count, or nothing does. -/
structure CycleAt (stamp : Word) (_ : Channel) (x y : ChannelBlocks) (r : Option OutcomeRecord) : Prop where
  engine : x.engine.runs = true → EngineCycle stamp x y r
  dwell : x.engine.runs = false → x.dwell.state = .counting → DwellCycle stamp x y r
  idle : x.engine.runs = false → x.dwell.state ≠ .counting → r = none

section
variable {s u : State} {ch : Channel} {stamp : Word}

theorem CycleAt.of_idle {y : ChannelBlocks} (h : s.live ch = false) : CycleAt stamp ch (s.blocks ch) y none := by
  obtain ⟨runs, dwell⟩ := State.stopped_of_not_live h
  exact ⟨fun h => absurd h (by simp [State.blocks, runs]), fun _ h => absurd h dwell, fun _ _ => rfl⟩

/-- A change of one channel that gives no record is followed by the test of a point that goes on. -/
theorem State.Works.tested (works : s.Works u ch none) (goesOn : s.pointOver = false) : u = u.testPoint :=
  (State.testPoint_of_not_over (works.pointOver_none.trans goesOn)).symm

theorem State.engineCycle_works (runs : (s.engine ch).runs = true) (goesOn : s.pointOver = false) :
    ∃ u r, s.Works u ch r ∧ s.channelCycle ch stamp = u.testPoint ∧ EngineCycle stamp (s.blocks ch) (u.blocks ch) r := by
  cases pulse : (s.meter ch).pulse with
  | some p =>
    have works := State.works_mapEngine (s := s) (ch := ch) fun g => { g with held := some stamp }
    refine ⟨_, none, works, ?_, fun _ => ⟨State.mapEngine_engine .., rfl⟩, fun h => absurd h (by simp [State.blocks, pulse])⟩
    rw [← works.tested goesOn]
    simp [State.channelCycle, pulse, runs]
  | none =>
    have cycle : s.channelCycle ch stamp = s.gateCycle ch := by simp [State.channelCycle, pulse, runs]
    by_cases tg : (s.engine ch).timeout + 1 = (s.engine ch).params.tg
    · obtain ⟨u, works, test, -⟩ := State.endGates_works (s := s.mapEngine ch fun g => { g with timeout := g.timeout + 1 }) (ch := ch) .timeout
      exact ⟨u, _, (State.works_mapEngine _).trans works, by rw [cycle, State.gateCycle_ends runs tg, test], fun h => absurd pulse h,
        fun _ => ⟨fun h => absurd tg h, fun _ => ⟨_, rfl, (accuracyRecord_judgedBy _ _ .timeout).timeout rfl⟩⟩⟩
    · have works := State.works_mapEngine (s := s) (ch := ch) fun g => { g with timeout := g.timeout + 1 }
      exact ⟨_, none, works, by rw [← works.tested goesOn, cycle, State.gateCycle_counts runs tg], fun h => absurd pulse h,
        fun _ => ⟨fun _ => ⟨State.mapEngine_engine .., rfl⟩, fun h => absurd h tg⟩⟩

theorem State.dwellCycle_works (runs : (s.engine ch).runs = false) (counting : (s.dwell ch).state = .counting)
    (goesOn : s.pointOver = false) :
    ∃ u r, s.Works u ch r ∧ s.channelCycle ch stamp = u.testPoint ∧ DwellCycle stamp (s.blocks ch) (u.blocks ch) r := by
  cases pulse : (s.meter ch).pulse with
  | some p =>
    have works := State.works_mapDwell (s := s) (ch := ch) fun d => { d with held := some stamp }
    refine ⟨_, none, works, ?_, fun _ => ⟨State.mapDwell_dwell .., rfl⟩, fun h => absurd h (by simp [State.blocks, pulse])⟩
    rw [← works.tested goesOn]
    simp [State.channelCycle, pulse, runs, counting]
  | none =>
    have cycle : s.channelCycle ch stamp = s.dwellCycle ch := by simp [State.channelCycle, pulse, runs]
    by_cases len : (s.dwell ch).cycles + 1 = (s.dwell ch).length
    · obtain ⟨u, works, test⟩ := State.endDwell_works (s := s.mapDwell ch fun d => { d with cycles := d.cycles + 1 }) (ch := ch)
        (if (s.dwell ch).kind = .creep then .pass else .failStart)
      exact ⟨u, _, (State.works_mapDwell _).trans works, by rw [cycle, State.dwellCycle_ends counting len, test], fun h => absurd pulse h,
        fun _ => ⟨fun h => absurd len h, fun _ => rfl⟩⟩
    · have works := State.works_mapDwell (s := s) (ch := ch) fun d => { d with cycles := d.cycles + 1 }
      exact ⟨_, none, works, by rw [← works.tested goesOn, cycle, State.dwellCycle_counts counting len], fun h => absurd pulse h,
        fun _ => ⟨fun _ => ⟨State.mapDwell_dwell .., rfl⟩, fun h => absurd h len⟩⟩

theorem State.channelCycle_works (goesOn : s.pointOver = false) :
    ∃ u r, s.Works u ch r ∧ s.channelCycle ch stamp = u.testPoint ∧ CycleAt stamp ch (s.blocks ch) (u.blocks ch) r := by
  cases runs : (s.engine ch).runs with
  | true =>
    obtain ⟨u, r, works, test, act⟩ := State.engineCycle_works (stamp := stamp) runs goesOn
    exact ⟨u, r, works, test, fun _ => act, fun h => absurd (h.symm.trans runs) (by simp), fun h => absurd (h.symm.trans runs) (by simp)⟩
  | false =>
    by_cases counting : (s.dwell ch).state = .counting
    · obtain ⟨u, r, works, test, act⟩ := State.dwellCycle_works (stamp := stamp) runs counting goesOn
      exact ⟨u, r, works, test, fun h => absurd (h.symm.trans runs) (by simp), fun _ _ => act, fun _ h => absurd counting h⟩
    · have idle : s.live ch = false := by simp [State.live, runs, counting]
      exact ⟨s, none, .refl, by rw [State.channelCycle_idle idle, State.testPoint_of_not_over goesOn], .of_idle idle⟩
end

/-! ### The figure window (R60) -/

/-- The window that a counted cycle leaves, at a point whose window is `n` cycles long. -/
def Window.cycle (w : Window) (n : Nat) (snap : Snapshot) : Window :=
  match w.state with
  | .waiting => { w with state := .running, start := snap, cycles := 0 }
  | .running => if w.cycles + 1 = n then { w with state := .complete, cycles := w.cycles + 1 } else { w with cycles := w.cycles + 1 }
  | .none | .complete | .absent => w

/-- The figure that a counted cycle leaves. -/
def Window.cycleFigure (w : Window) (n : Nat) (snap : Snapshot) (fig : Option Nat) : Option Nat :=
  if w.state = .running ∧ w.cycles + 1 = n then some (w.figure snap) else fig

/-- The length of the figure window of the station's point. -/
def State.windowLength (s : State) : Nat := (s.current.point.map PointFields.window).getD 0

/-- The state with the window that the cycle leaves, before the test of the point end. -/
def State.windowTaken (s : State) (pfe : Pfe) : State :=
  s.mapRsq fun q => { q with
    window := q.window.cycle s.windowLength (pfe.snapshot q.window.input)
    figure := q.window.cycleFigure s.windowLength (pfe.snapshot q.window.input) q.figure }

section
variable {s : State} {pfe : Pfe}

theorem State.windowTaken_settled (h : s.rsq.window.state.settled = true) : s.windowTaken pfe = s := by
  unfold State.windowTaken State.mapRsq Window.cycle Window.cycleFigure
  rcases (WindowState.settled_iff _).1 h with h | h <;> simp [h]

/-- The test of the point end follows the figure alone. -/
theorem State.windowCycle_eq : s.windowCycle pfe =
    if s.rsq.window.state = .running ∧ s.rsq.window.cycles + 1 = s.windowLength then (s.windowTaken pfe).testPoint else s.windowTaken pfe := by
  unfold State.windowCycle State.windowTaken Window.cycle Window.cycleFigure State.windowLength
  cases h : s.rsq.window.state with
  | running =>
    by_cases last : s.rsq.window.cycles + 1 = (s.current.point.map PointFields.window).getD 0 <;> simp [h, last, State.mapRsq]
  | waiting | none | complete | absent => simp [h, State.mapRsq]

theorem State.rsqCycle_measuring (phase : s.rsq.phase = .measuring) (goesOn : s.pointOver = false) :
    s.rsqCycle pfe = (s.windowTaken pfe).testPoint := by
  simp only [State.rsqCycle, phase, State.windowCycle_eq]
  split
  · rfl
  · rename_i kept
    by_cases settled : s.rsq.window.state.settled = true
    · rw [State.windowTaken_settled settled, State.testPoint_of_not_over goesOn]
    · refine (State.testPoint_of_not_over ?_).symm
      have still : (s.windowTaken pfe).rsq.window.state.settled = false := by
        rw [not_and] at kept
        cases h : s.rsq.window.state <;> simp_all [State.windowTaken, Window.cycle, WindowState.settled]
      simp [State.pointOver, still]

/-- A counted cycle in MEASURING is one change and one test. -/
theorem State.countCycle_measuring {stamp : Word} (phase : s.rsq.phase = .measuring)
    (measures : ∀ ch, s.live ch = true → s.mask.has ch = true ∧ s.rsq.received.get ch = none) (goesOn : s.pointOver = false) :
    ∃ v rs, s.WorksBoth v rs ∧ (∀ ch, CycleAt stamp ch (s.blocks ch) (v.blocks ch) (rs.get ch)) ∧
      s.countCycle stamp = (v.windowTaken s.pfe).testPoint := by
  obtain ⟨v, rs, both, acts, eq⟩ := State.bothChannels (s := s) (op := fun ch s => s.channelCycle ch stamp) (Q := CycleAt stamp)
    (fun ch w _ _ goesOn => State.channelCycle_works goesOn)
    (fun u r works ended => ⟨State.channelCycle_idle State.endPoint_not_live,
      .of_idle (works.idle_of_over (by decide) (measures .b) (State.pointOver_iff.1 ended).2.2.1)⟩) goesOn
  refine ⟨v, rs, both, acts, ?_⟩
  rw [State.countCycle, eq]
  refine State.testPoint_then (op := fun v => v.rsqCycle s.pfe) (fun ended => ⟨State.rsqCycle_idle (.inr State.endPoint_phase.1),
    State.windowTaken_settled (State.pointOver_iff.1 ended).2.2.2⟩) (State.rsqCycle_measuring ?_)
  simpa [both.rsq] using phase
end

/-- What a counted cycle leaves in MEASURING. -/
structure State.CycleLeaves (s t : State) (stamp : Word) (v : State) (rs : PerChan (Option OutcomeRecord)) : Prop where
  both : s.WorksBoth v rs
  acts : ∀ ch, CycleAt stamp ch (s.blocks ch) (v.blocks ch) (rs.get ch)
  zc : t.pfe.zc = s.pfe.zc
  outcomes : t.ecu.outcomes = rs.orElse s.ecu.outcomes
  tested : s.Tested t (rs.orElse s.rsq.received) (s.rsq.window.cycle s.windowLength (s.pfe.snapshot s.rsq.window.input))
    (s.rsq.window.cycleFigure s.windowLength (s.pfe.snapshot s.rsq.window.input) s.rsq.figure)
  goesOn : (∃ ch, s.mask.has ch = true ∧ (rs.orElse s.rsq.received).get ch = none) ∨
      (s.rsq.window.cycle s.windowLength (s.pfe.snapshot s.rsq.window.input)).state.settled = false →
    t.rsq.runState = s.rsq.runState ∧ t.rsq.phase = .measuring ∧ t.bli = s.bli ∧ ∀ ch, t.engine ch = v.engine ch ∧ t.dwell ch = v.dwell ch

theorem State.countCycle_leaves {s : State} {stamp : Word} (phase : s.rsq.phase = .measuring) (run : s.rsq.runState = .measuring)
    (measures : ∀ ch, s.live ch = true → s.mask.has ch = true ∧ s.rsq.received.get ch = none) (goesOn : s.pointOver = false) :
    ∃ v rs, s.CycleLeaves (s.countCycle stamp).relamp stamp v rs := by
  obtain ⟨v, rs, both, acts, eq⟩ := State.countCycle_measuring (stamp := stamp) phase measures goesOn
  have window : (v.windowTaken s.pfe).rsq = { s.rsq with
      received := rs.orElse s.rsq.received
      window := s.rsq.window.cycle s.windowLength (s.pfe.snapshot s.rsq.window.input)
      figure := s.rsq.window.cycleFigure s.windowLength (s.pfe.snapshot s.rsq.window.input) s.rsq.figure } := by
    simp only [State.windowTaken, State.mapRsq, State.windowLength, State.current, State.descriptor, both.rsq, both.plt]
  have mask : (v.windowTaken s.pfe).mask = s.mask := by
    simp only [State.mask, State.current, State.descriptor, window, show (v.windowTaken s.pfe).plt = v.plt from rfl, both.plt]
  have tested := State.tested (s := s) (w := v.windowTaken s.pfe) (by rw [window]; exact phase) (by rw [window]; simp [run]) mask
    (by simp only [State.runNumber, window]) (by rw [window])
  rw [← eq] at tested
  refine ⟨v, rs, both, acts, by simp [eq, State.windowTaken, both.zc], by simp [eq, State.windowTaken, both.outcomes],
    by simpa only [window] using tested, fun lacks => ?_⟩
  have on : (v.windowTaken s.pfe).pointOver = false := by
    rw [Bool.eq_false_iff]
    intro ended
    obtain ⟨all, settled⟩ := (State.pointOver_of_measuring (s := s) (w := v.windowTaken s.pfe) (rs.orElse s.rsq.received)
      (by rw [window]; exact phase) mask (by rw [window])).1 ended
    rcases lacks with ⟨ch, has, none⟩ | unsettled
    · exact all ch has none
    · rw [window, unsettled] at settled
      exact absurd settled (by simp)
  rw [eq, State.testPoint_of_not_over on]
  refine ⟨by simp [window], by simp [window, phase], by simp [State.windowTaken, both.bli], fun ch => ?_⟩
  simp [State.windowTaken]

/-- Settles O12: the cycle reaches both channels and the window, and one test of the point end follows. -/
theorem countedCycleInMeasuring : Obligations.CountedCycleInMeasuring := by
  unfold Obligations.CountedCycleInMeasuring
  intro s f last alive present edge low high phase run point goesOn measures
  have maskIs : s.mask = f.mask := by simp [State.mask, point]
  let counted := (s.mapZc fun z => z.accept s.time.counter).mapZc fun z => { z with cycles := z.cycles + 1 }
  have exec := State.exec_zcEdge_of alive (since := some (s.time.counter - last).toNat) (by rw [edge]; rfl) _
    (State.zcEdge_counts low high present)
  obtain ⟨v, rs, leaves⟩ := State.countCycle_leaves (s := counted) (stamp := s.time.counter) phase run (by rw [← maskIs] at measures; exact measures)
    goesOn
  have length : counted.windowLength = f.window := by
    rw [State.windowLength, show counted.current = s.current from rfl, point]
    rfl
  have tested := leaves.tested
  rw [length] at tested
  -- A channel that measures without a record keeps the point going.
  have on (ch : Channel) (live : s.live ch = true) (none : rs.get ch = none) :
      (counted.countCycle s.time.counter).relamp.engine ch = v.engine ch ∧ (counted.countCycle s.time.counter).relamp.dwell ch = v.dwell ch := by
    obtain ⟨has, lacks⟩ := measures ch live
    obtain ⟨-, -, -, blocks⟩ := leaves.goesOn (.inl ⟨ch, (congrArg (·.has ch) maskIs).trans has, by
      rw [PerChan.orElse_get, none]
      exact lacks⟩)
    exact blocks ch
  have received (ch : Channel) {z : OutcomeRecord} (record : rs.get ch = some z) :
      (counted.countCycle s.time.counter).relamp.rsq.received.get ch = some z := by
    rw [tested.received, PerChan.orElse_get, record]
    rfl
  refine ⟨_, exec, leaves.zc, fun ch runs => ?_, fun ch stopped counting => ?_, fun waiting => ?_, fun running => ⟨fun goes => ?_, fun ends => ?_⟩, ?_⟩
  · have live := State.live_of_runs runs
    obtain ⟨held, taken⟩ := (leaves.acts ch).engine runs
    refine ⟨fun pulse => ?_, fun pulse => ⟨fun tg => ?_, fun tg => ?_⟩⟩
    · obtain ⟨engine, none⟩ := held pulse
      exact (on ch live none).1.trans engine
    · obtain ⟨engine, none⟩ := (taken pulse).1 tg
      exact (on ch live none).1.trans engine
    · obtain ⟨z, record, outcome⟩ := (taken pulse).2 tg
      exact ⟨z, received ch record, by rw [leaves.outcomes, PerChan.orElse_get, record]; rfl, outcome⟩
  · have live : s.live ch = true := by simp [State.live, counting]
    obtain ⟨held, taken⟩ := (leaves.acts ch).dwell stopped counting
    refine ⟨fun pulse => ?_, fun pulse => ⟨fun len => ?_, fun len => ?_⟩⟩
    · obtain ⟨dwell, none⟩ := held pulse
      exact (on ch live none).2.trans dwell
    · obtain ⟨dwell, none⟩ := (taken pulse).1 len
      exact (on ch live none).2.trans dwell
    · exact received ch ((taken pulse).2 len)
  · rw [tested.figure, tested.window]
    simp [Window.cycle, Window.cycleFigure, counted, State.mapZc, waiting, Pfe.snapshot, Pfe.ref]
  · rw [tested.figure, tested.window]
    simp [Window.cycle, Window.cycleFigure, counted, State.mapZc, running, goes]
  · rw [tested.figure, tested.window]
    simp [Window.cycle, Window.cycleFigure, counted, State.mapZc, running, ends, Window.figure, Pfe.snapshot, Pfe.ref]
  · intro complete
    refine ⟨fun ⟨records, settled⟩ => ?_, fun goes => ?_⟩
    · rw [tested.received] at records
      rw [tested.window] at settled
      have done := tested.ends (fun ch has => records ch ((congrArg (·.has ch) maskIs).symm.trans has)) settled
      rw [← tested.received, ← tested.figure, show counted.mask = f.mask from maskIs] at done
      exact done
    · have lacks : (∃ ch, s.mask.has ch = true ∧ (rs.orElse s.rsq.received).get ch = none) ∨
          (s.rsq.window.cycle f.window (counted.pfe.snapshot s.rsq.window.input)).state.settled = false := by
        by_contra none
        rw [not_or, Bool.not_eq_false, not_exists] at none
        refine goes ⟨fun ch has => ?_, ?_⟩
        · rw [tested.received]
          exact fun empty => none.1 ch ⟨(congrArg (·.has ch) maskIs).trans has, empty⟩
        · rw [tested.window]
          exact none.2
      rw [← length] at lacks
      obtain ⟨runState, phaseT, bli, -⟩ := leaves.goesOn lacks
      exact ⟨runState.trans run, phaseT, bli⟩

end Sys2Proof.Machine
end


section
/-! PROOFS. Entry to MEASURING (R19, R35, R50, R51, R54, R59, R60). -/

set_option Elab.async false

namespace Sys2Proof.Machine

/-- The state in which the channels of the point find themselves: the point copy taken, the window set up (R35, R59). -/
def State.atMeasuring (s : State) : State :=
  (s.mapEcu fun e => { e with
    copy := s.pointCopy, acc := ⟨Accumulator.reset, Accumulator.reset⟩, outcomes := ⟨none, none⟩ }).mapRsq fun q =>
      { q with runState := .measuring, phase := .measuring, window := s.freshWindow, figure := none }

/-- What a gate engine starts with (R19). -/
def State.armedEngine (s : State) (ch : Channel) : GateEngine := { GateEngine.reset with state := .armed, params := s.gateParams ch }

/-- What a dwell count starts with (R54). -/
def State.armedDwell (s : State) : Dwell := { Dwell.reset with
  state := .counting, kind := s.current.kind, length := (s.current.dwell.map DwellFields.length).getD 0
  number := (s.current.dwell.map DwellFields.number).getD 0 }

/-- What entry to MEASURING does to a channel, told by the state before: nothing outside the mask, a record where it is held or mains is
absent, and a fresh input and consumer elsewhere. -/
structure ArmAt (s : State) (ch : Channel) (x y : ChannelBlocks) (r : Option OutcomeRecord) : Prop where
  outside : s.mask.has ch = false → r = none
  held : s.mask.has ch = true → s.sys.holds.chan ch = true → ∃ z, r = some z ∧ z.outcome = .invalidHeld
  mains : s.mask.has ch = true → s.sys.holds.chan ch = false → s.pfe.zc.present = false → ∃ z, r = some z ∧ z.outcome = .invalidMains
  armed : s.mask.has ch = true → s.sys.holds.chan ch = false → s.pfe.zc.present = true → r = none ∧ y.meter = x.meter.goLive ∧
    (s.current.kind = .accuracy → y.engine = s.armedEngine ch) ∧ (s.current.kind ≠ .accuracy → y.dwell = s.armedDwell)

section
variable {s w u : State} {ch : Channel} {r : Option OutcomeRecord}

theorem ArmAt.of_outside {x y : ChannelBlocks} (h : s.mask.has ch = false) : ArmAt s ch x y none :=
  ⟨fun _ => rfl, fun m => absurd m (by simp [h]), fun m => absurd m (by simp [h]), fun m => absurd m (by simp [h])⟩

theorem State.armChannel_outside (h : s.mask.has ch = false) : s.armChannel ch = s := by simp [State.armChannel, h]

theorem State.armGates_works (current : w.current = s.current) (sys : w.sys = s.sys) (zc : w.pfe.zc = s.pfe.zc)
    (has : s.mask.has ch = true) (kind : s.current.kind = .accuracy) (goesOn : w.pointOver = false) :
    ∃ u r, w.Works u ch r ∧ w.armGates ch = u.testPoint ∧ ArmAt s ch (w.blocks ch) (u.blocks ch) r := by
  have params : w.gateParams ch = s.gateParams ch := by simp only [State.gateParams, State.inputOf, current]
  have inside : s.mask.has ch ≠ false := by simp [has]
  cases held : s.sys.holds.chan ch with
  | true =>
    obtain ⟨u, works, test, -⟩ := State.endGates_works (s := w.mapEngine ch fun _ => { GateEngine.reset with params := w.gateParams ch })
      (ch := ch) .held
    refine ⟨u, _, (State.works_mapEngine _).trans works, ?_, fun h => absurd h inside, fun _ _ =>
      ⟨_, rfl, (accuracyRecord_judgedBy _ _ .held).held rfl⟩, fun _ h => absurd held (by simp [h]), fun _ h => absurd held (by simp [h])⟩
    rw [← test]
    simp [State.armGates, sys, held]
  | false =>
    cases present : s.pfe.zc.present with
    | false =>
      obtain ⟨u, works, test, -⟩ := State.endGates_works (s := w.mapEngine ch fun _ => { GateEngine.reset with params := w.gateParams ch })
        (ch := ch) .mains
      refine ⟨u, _, (State.works_mapEngine _).trans works, ?_, fun h => absurd h inside, fun _ h => absurd held (by simp [h]), fun _ _ _ =>
        ⟨_, rfl, (accuracyRecord_judgedBy _ _ .mains).mains rfl⟩, fun _ _ h => absurd present (by simp [h])⟩
      rw [← test]
      simp [State.armGates, sys, held, zc, present]
    | true =>
      have works := (State.works_mapEngine (s := w) (ch := ch) fun _ => { GateEngine.reset with params := w.gateParams ch, state := .armed }).trans
        (State.works_mapMeter MeterInput.goLive)
      refine ⟨_, none, works, ?_, fun h => absurd h inside, fun _ h => absurd held (by simp [h]), fun _ _ h => absurd present (by simp [h]),
        fun _ _ _ => ⟨rfl, State.mapMeter_meter .., fun _ => ?_, fun h => absurd kind h⟩⟩
      · rw [← works.tested goesOn]
        simp [State.armGates, sys, held, zc, present]
      · simp [State.blocks, State.armedEngine, params]

theorem State.armDwell_works (current : w.current = s.current) (sys : w.sys = s.sys) (zc : w.pfe.zc = s.pfe.zc)
    (has : s.mask.has ch = true) (kind : s.current.kind ≠ .accuracy) (goesOn : w.pointOver = false) :
    ∃ u r, w.Works u ch r ∧ w.armDwell ch = u.testPoint ∧ ArmAt s ch (w.blocks ch) (u.blocks ch) r := by
  have inside : s.mask.has ch ≠ false := by simp [has]
  cases held : s.sys.holds.chan ch with
  | true =>
    obtain ⟨u, works, test⟩ := State.endDwell_works (s := w.mapDwell ch fun _ => { w.armedDwell with state := .off }) (ch := ch) .invalidHeld
    refine ⟨u, _, (State.works_mapDwell _).trans works, ?_, fun h => absurd h inside, fun _ _ => ⟨_, rfl, rfl⟩,
      fun _ h => absurd held (by simp [h]), fun _ h => absurd held (by simp [h])⟩
    rw [← test]
    simp [State.armDwell, sys, held, State.armedDwell, Dwell.reset]
  | false =>
    cases present : s.pfe.zc.present with
    | false =>
      obtain ⟨u, works, test⟩ := State.endDwell_works (s := w.mapDwell ch fun _ => { w.armedDwell with state := .off }) (ch := ch) .invalidMains
      refine ⟨u, _, (State.works_mapDwell _).trans works, ?_, fun h => absurd h inside, fun _ h => absurd held (by simp [h]), fun _ _ _ =>
        ⟨_, rfl, rfl⟩, fun _ _ h => absurd present (by simp [h])⟩
      rw [← test]
      simp [State.armDwell, sys, held, zc, present, State.armedDwell, Dwell.reset]
    | true =>
      have works := (State.works_mapDwell (s := w) (ch := ch) fun _ => w.armedDwell).trans (State.works_mapMeter MeterInput.goLive)
      refine ⟨_, none, works, ?_, fun h => absurd h inside, fun _ h => absurd held (by simp [h]), fun _ _ h => absurd present (by simp [h]),
        fun _ _ _ => ⟨rfl, State.mapMeter_meter .., fun h => absurd h kind, fun _ => ?_⟩⟩
      · rw [← works.tested goesOn]
        simp [State.armDwell, sys, held, zc, present, State.armedDwell]
      · simp [State.blocks, State.armedDwell, current]

theorem State.armChannel_works (current : w.current = s.current) (sys : w.sys = s.sys) (zc : w.pfe.zc = s.pfe.zc)
    (kind : s.current.kind ≠ .none) (goesOn : w.pointOver = false) :
    ∃ u r, w.Works u ch r ∧ w.armChannel ch = u.testPoint ∧ ArmAt s ch (w.blocks ch) (u.blocks ch) r := by
  have mask : w.mask = s.mask := by simp only [State.mask, current]
  cases has : s.mask.has ch with
  | false =>
    exact ⟨w, none, .refl, by rw [State.armChannel_outside (by rw [mask, has]), State.testPoint_of_not_over goesOn], .of_outside has⟩
  | true =>
    cases k : s.current.kind with
    | none => exact absurd k kind
    | accuracy =>
      have arm : w.armChannel ch = w.armGates ch := by simp [State.armChannel, mask, has, current, k]
      rw [arm]
      exact State.armGates_works current sys zc has k goesOn
    | creep | start =>
      have arm : w.armChannel ch = w.armDwell ch := by simp [State.armChannel, mask, has, current, k]
      rw [arm]
      exact State.armDwell_works current sys zc has (by simp [k]) goesOn

/-- Entry to MEASURING is one change of each channel and one test. -/
theorem State.enterMeasuring_works (kind : s.current.kind ≠ .none) (received : s.rsq.received = ⟨none, none⟩) :
    ∃ v rs, s.atMeasuring.WorksBoth v rs ∧ (∀ ch, ArmAt s ch (s.blocks ch) (v.blocks ch) (rs.get ch)) ∧
      s.enterMeasuring = v.testPoint := by
  have current : s.atMeasuring.current = s.current := rfl
  have mask : s.atMeasuring.mask = s.mask := rfl
  have lacks (ch : Channel) : s.atMeasuring.rsq.received.get ch = none := by
    rw [show s.atMeasuring.rsq.received = s.rsq.received from rfl, received]
    cases ch <;> rfl
  by_cases empty : ∀ ch, s.mask.has ch = false
  · refine ⟨s.atMeasuring, ⟨none, none⟩, ?_, fun ch => ?_, ?_⟩
    · exact .of .refl .refl
    · cases ch
      exacts [.of_outside (empty .a), .of_outside (empty .b)]
    · rw [show s.enterMeasuring = ((s.atMeasuring.armChannel .a).armChannel .b).testPoint from rfl,
        State.armChannel_outside (s := s.atMeasuring) (empty .a),
        State.armChannel_outside (s := s.atMeasuring) (empty .b)]
  · have goesOn : s.atMeasuring.pointOver = false := by
      rw [Bool.eq_false_iff]
      intro ended
      obtain ⟨-, a, b, -⟩ := State.pointOver_iff.1 ended
      refine empty fun ch => Bool.eq_false_iff.2 fun has => ?_
      have record : s.atMeasuring.hasRecord ch = true := by cases ch; exacts [a, b]
      exact State.hasRecord_iff.1 record has (lacks ch)
    obtain ⟨v, rs, both, acts, eq⟩ := State.bothChannels (s := s.atMeasuring) (op := fun ch w => w.armChannel ch) (Q := ArmAt s)
      (fun ch w r works goesOn => State.armChannel_works works.current works.sys works.zc kind goesOn)
      (fun u r works ended => by
        have outside : s.mask.has .b = false := Bool.eq_false_iff.2 fun has =>
          State.hasRecord_iff.1 (State.pointOver_iff.1 ended).2.2.1 (by rw [works.mask]; exact has)
            (by rw [works.received_other (by decide)]; exact lacks .b)
        have kept : u.endPoint.mask = s.mask := by
          rw [← mask, ← works.mask]
          simp [State.mask, State.current, State.descriptor]
        exact ⟨State.armChannel_outside (by rw [kept, outside]), .of_outside outside⟩)
      goesOn
    refine ⟨v, rs, both, acts, ?_⟩
    rw [show s.enterMeasuring = ((s.atMeasuring.armChannel .a).armChannel .b).testPoint from rfl, eq, State.testPoint_testPoint]
end

/-- Is the channel armed at entry to MEASURING? -/
def State.Arms (s : State) (f : PointFields) (ch : Channel) : Prop :=
  f.mask.has ch = true ∧ s.sys.holds.chan ch = false ∧ s.pfe.zc.present = true

/-- What entry to MEASURING leaves, told by the state before. -/
structure State.MeasuringEntered (s t : State) (f : PointFields) : Prop where
  held : ∀ ch, f.mask.has ch = true → s.sys.holds.chan ch = true → ∃ r, t.ecu.outcomes.get ch = some r ∧ r.outcome = .invalidHeld
  mains : ∀ ch, f.mask.has ch = true → s.sys.holds.chan ch = false → s.pfe.zc.present = false →
    ∃ r, t.ecu.outcomes.get ch = some r ∧ r.outcome = .invalidMains
  meter : ∀ ch, s.Arms f ch → t.meter ch = (s.meter ch).goLive
  engine : ∀ ch, s.Arms f ch → s.current.kind = .accuracy → t.engine ch = s.armedEngine ch
  dwell : ∀ ch, s.Arms f ch → s.current.kind ≠ .accuracy → t.dwell ch = s.armedDwell
  goesOn : s.Arms f .a ∨ s.Arms f .b ∨ f.window ≠ 0 ∧ s.pfe.zc.present = true →
    t.rsq.runState = .measuring ∧ t.rsq.phase = .measuring ∧ t.bli.coord = s.bli.coord ∧ t.rsq.figure = none ∧
      t.rsq.window.state = if f.window = 0 ∨ s.pfe.zc.present = false then .absent else .waiting
  ends : ¬ s.Arms f .a → ¬ s.Arms f .b → f.window = 0 ∨ s.pfe.zc.present = false → t.rsq.runState = .barrier ∧ t.rsq.phase = .ended ∧
    ∃ chans, .done s.runNumber s.rsq.seq f.mask none chans ∈ t.bli.coord ++ t.bli.waiting

theorem State.enterMeasuring_entered {s : State} {f : PointFields} (kind : s.current.kind ≠ .none)
    (received : s.rsq.received = ⟨none, none⟩) (point : s.current.point = some f) : s.MeasuringEntered s.enterMeasuring.relamp f := by
  obtain ⟨v, rs, both, acts, eq⟩ := State.enterMeasuring_works kind received
  have maskIs : s.mask = f.mask := by simp [State.mask, point]
  have rsq := both.rsq
  have vReceived (ch : Channel) : v.rsq.received.get ch = rs.get ch := by
    rw [rsq, PerChan.orElse_get, show s.atMeasuring.rsq.received = s.rsq.received from rfl, received]
    cases ch <;> exact Option.or_none
  have vOutcomes (ch : Channel) : v.ecu.outcomes.get ch = rs.get ch := by
    rw [both.outcomes, PerChan.orElse_get, show s.atMeasuring.ecu.outcomes = ⟨none, none⟩ from rfl]
    cases ch <;> exact Option.or_none
  have windowState : v.rsq.window.state = if f.window = 0 ∨ s.pfe.zc.present = false then .absent else .waiting := by
    rw [rsq, show s.atMeasuring.rsq.window = s.freshWindow from rfl]
    simp [State.freshWindow, point]
  have phase : v.rsq.phase = .measuring := by rw [rsq]; rfl
  have run : v.rsq.runState = .measuring := by rw [rsq]; rfl
  have mask : v.mask = s.mask := both.mask
  have tested := State.tested (s := s) phase (by simp [run]) mask (by rw [State.runNumber, rsq]; rfl) (by rw [rsq]; rfl)
  rw [← eq] at tested
  have over_iff := State.pointOver_of_measuring (s := s) v.rsq.received phase mask rfl
  have gives {ch : Channel} {o : ChanOutcome} : (∃ z, rs.get ch = some z ∧ z.outcome = o) →
      ∃ r, s.enterMeasuring.relamp.ecu.outcomes.get ch = some r ∧ r.outcome = o := by
    rintro ⟨z, record, outcome⟩
    refine ⟨z, (State.relamp_outcome _ ch).trans ?_, outcome⟩
    simp [eq, vOutcomes, record]
  have armed {ch : Channel} (h : s.Arms f ch) := (acts ch).armed (maskIs ▸ h.1) h.2.1 h.2.2
  -- A channel that is armed, and a window that waits, keep the point going.
  have on (h : v.pointOver = false) : s.enterMeasuring.relamp = v.relamp := by rw [eq, State.testPoint_of_not_over h]
  have armedOn {ch : Channel} (h : s.Arms f ch) : v.pointOver = false := by
    rw [Bool.eq_false_iff]
    intro ended
    exact (over_iff.1 ended).1 ch (maskIs ▸ h.1) ((vReceived ch).trans (armed h).1)
  refine ⟨fun ch has held => gives ((acts ch).held (maskIs ▸ has) held),
    fun ch has free absent => gives ((acts ch).mains (maskIs ▸ has) free absent), fun ch h => ?_, fun ch h k => ?_, fun ch h k => ?_,
    fun h => ?_, fun a b window => ?_⟩
  · rw [on (armedOn h), State.relamp_meter]
    exact (armed h).2.1
  · rw [on (armedOn h), State.relamp_engine]
    exact (armed h).2.2.1 k
  · rw [on (armedOn h), State.relamp_dwell]
    exact (armed h).2.2.2 k
  · have goes : v.pointOver = false := by
      rcases h with a | b | ⟨length, present⟩
      · exact armedOn a
      · exact armedOn b
      · rw [Bool.eq_false_iff]
        intro ended
        have settled := (over_iff.1 ended).2
        rw [windowState, if_neg (by simp [length, present])] at settled
        exact absurd settled (by decide)
    rw [on goes]
    exact ⟨by simpa using run, by simpa using phase, by simp [both.bli, State.atMeasuring], by simp [rsq, State.atMeasuring],
      by simpa using windowState⟩
  · have records (ch : Channel) (has : s.mask.has ch = true) : v.rsq.received.get ch ≠ none := by
      rw [vReceived]
      have idle : ¬ s.Arms f ch := by cases ch; exacts [a, b]
      have given : ∃ z, rs.get ch = some z := by
        cases held : s.sys.holds.chan ch with
        | true =>
          obtain ⟨z, record, -⟩ := (acts ch).held has held
          exact ⟨z, record⟩
        | false =>
          cases present : s.pfe.zc.present with
          | true => exact absurd ⟨maskIs ▸ has, held, present⟩ idle
          | false =>
            obtain ⟨z, record, -⟩ := (acts ch).mains has held present
            exact ⟨z, record⟩
      obtain ⟨z, record⟩ := given
      simp [record]
    obtain ⟨runT, phaseT, done⟩ := tested.ends records (by rw [windowState, if_pos window]; rfl)
    rw [rsq, maskIs] at done
    exact ⟨runT, phaseT, _, done⟩

/-- A state from which the point enters MEASURING, told by the state `s` before the command. -/
structure State.Enters (s w : State) (mains : Bool) : Prop where
  current : w.current = s.current
  received : w.rsq.received = ⟨none, none⟩
  sys : w.sys = s.sys
  meter : ∀ ch, w.meter ch = s.meter ch
  coord : w.bli.coord = s.bli.coord
  present : w.pfe.zc.present = mains
  run : w.rsq.run = s.rsq.run
  seq : w.rsq.seq = s.rsq.seq

section
variable {s : State}

/-- A settling cycle, in a station whose channels do not measure (R50). -/
theorem State.countCycle_settling {stamp : Word} (a : s.live .a = false) (b : s.live .b = false) (phase : s.rsq.phase = .settling) :
    s.countCycle stamp = if s.rsq.settle + 1 = s.settleTime then (s.mapRsq fun q => { q with settle := q.settle + 1 }).enterMeasuring
      else s.mapRsq fun q => { q with settle := q.settle + 1 } := by
  rw [State.countCycle, State.channelCycle_idle a, State.channelCycle_idle b]
  simp [State.rsqCycle, phase]

/-- The loss of mains while a point settles (R50). -/
theorem State.loseMains_settling (a : s.live .a = false) (b : s.live .b = false) (phase : s.rsq.phase = .settling) :
    s.loseMains = ((s.mapPfe fun p => { p with zc := { p.zc with present := false } }).raise .mainsLost).enterMeasuring := by
  have kept (c : Channel) : ((s.mapPfe fun p => { p with zc := { p.zc with present := false } }).raise .mainsLost).live c = s.live c :=
    State.live_congr (by simp) (by simp)
  rw [State.loseMains, State.channelLoss_idle ((kept .a).trans a), State.channelLoss_idle ((kept .b).trans b)]
  simp [State.rsqLoss, phase]

/-- The state that settles, before the test for S and mains (R50). -/
def State.settled (s : State) : State :=
  (s.mapRsq fun q => { q with runState := .settling, phase := .settling, settle := 0, received := ⟨none, none⟩ }).takePrescalers

theorem State.settled_current : s.settled.current = s.current := by simp [State.settled, State.current, State.descriptor]

theorem State.enterSettling_at_once {f : PointFields} (point : s.current.point = some f) (h : f.settle = 0 ∨ s.pfe.zc.present = false) :
    s.enterSettling = s.settled.enterMeasuring := by
  refine if_pos ?_
  have settle : s.settled.settleTime = f.settle := by rw [State.settleTime, State.settled_current, point]; rfl
  refine h.imp settle.trans fun absent => ?_
  simpa using absent

theorem State.exec_loadReady_waitLoad {run n : Half} {d : Byte} (takes : s.takesFrames = true) (isRun : s.rsq.run = some run)
    (wait : s.rsq.runState = .waitLoad) (seq : n.toNat = s.rsq.seq) (desc : d.toNat = s.rsq.desc) :
    exec (.loadReady run n d) s = .next s.enterSettling.relamp := by
  rw [exec_loadReady, execLoadReady, State.taken_act _ _ takes, State.takeLoadReady, if_pos (by simp [State.inRun, isRun])]
  simp [State.loadReady, wait, State.loadInWait, seq, desc, State.finish]
end

/-- Settles O11, by the three ways into MEASURING. -/
theorem entryToMeasuringArmsTheChannels : Obligations.EntryToMeasuringArmsTheChannels := by
  unfold Obligations.EntryToMeasuringArmsTheChannels
  intro c s f alive unclashed point kind cycle loaded lost mains arms gives fresh
  have settleTime : s.settleTime = f.settle := by simp [State.settleTime, point]
  refine ⟨?_, fun way => ?_⟩
  · rintro follows ⟨rfl, present, phase, liveA, liveB, last, edge, low, high⟩ goes
    refine (State.exec_zcEdge_of alive (by rw [edge]; rfl) _ (State.zcEdge_counts low high present)).trans ?_
    rw [State.countCycle_settling (s := (s.mapZc _).mapZc _) liveA liveB phase, if_neg (by rw [← settleTime] at goes; exact goes)]
    have drives : ((s.mapZc fun z => { z.accept s.time.counter with cycles := z.cycles + 1 }).mapRsq fun q =>
        { q with settle := q.settle + 1 }).LampsFollow := by
      rw [State.LampsFollow, State.lampDrives_congr s]
      · exact follows
      all_goals simp [State.mapZc]
    exact State.finish_of_follows _ drives
  obtain ⟨w, exec, enters⟩ : ∃ w, exec c s = .next w.enterMeasuring.relamp ∧ s.Enters w mains := by
    rcases way with ⟨⟨⟨rfl, present, phase, liveA, liveB, last, edge, low, high⟩, ends⟩ | ⟨rfl, present, silence, phase, liveA, liveB⟩, received⟩ |
      ⟨run, n, d, rfl, takes, isRun, wait, seq, desc, atOnce⟩
    · refine ⟨_, (State.exec_zcEdge_of alive (by rw [edge]; rfl) _ (State.zcEdge_counts low high present)).trans (by
        rw [State.countCycle_settling (s := (s.mapZc _).mapZc _) liveA liveB phase, if_pos (by rw [← settleTime] at ends; exact ends)]), ?_⟩
      exact ⟨rfl, received, rfl, fun ch => rfl, rfl, by simp [mains, State.mapZc, Zc.accept, present], rfl, rfl⟩
    · refine ⟨((s.mapZc fun z => { z with silence := none }).mapPfe fun p => { p with zc := { p.zc with present := false } }).raise .mainsLost,
        ?_, ?_⟩
      · rw [exec_silenceTimerExpiry, execSilenceTimerExpiry, if_pos (Option.isSome_iff_ne_none.2 silence), if_pos present,
          State.loseMains_settling (s := s.mapZc _) liveA liveB phase]
        rfl
      · constructor <;> simp [State.mapZc, State.current, State.descriptor, received, State.meter, mains]
    · refine ⟨s.settled, (State.exec_loadReady_waitLoad takes isRun wait seq desc).trans (by rw [State.enterSettling_at_once point atOnce]), ?_⟩
      constructor <;> simp [State.settled, State.current, State.descriptor, State.meter, mains]
  have pointW : w.current.point = some f := by rw [enters.current, point]
  have entered := State.enterMeasuring_entered (by rw [enters.current]; exact kind) enters.received pointW
  have armsIff (ch : Channel) : w.Arms f ch ↔ arms ch := by rw [State.Arms, enters.sys, enters.present]
  refine ⟨_, exec, fun ch has => ⟨fun held => entered.held ch has (by rw [enters.sys]; exact held),
    fun free absent => entered.mains ch has (by rw [enters.sys]; exact free) (by rw [enters.present]; exact absent),
    fun arm accuracy a g isA isG => ⟨?_, ?_⟩, fun arm other d isD => ⟨?_, ?_⟩⟩, fun h => ?_, fun a b window => ?_⟩
  · exact (entered.meter ch ((armsIff ch).2 arm)).trans (congrArg MeterInput.goLive (enters.meter ch))
  · rw [entered.engine ch ((armsIff ch).2 arm) (by rw [enters.current]; exact accuracy)]
    simp only [State.armedEngine, State.gateParams, State.inputOf, enters.current, isA, isG]
    rfl
  · exact (entered.meter ch ((armsIff ch).2 arm)).trans (congrArg MeterInput.goLive (enters.meter ch))
  · rw [entered.dwell ch ((armsIff ch).2 arm) (by rw [enters.current]; exact other)]
    simp only [State.armedDwell, enters.current, isD]
    rfl
  · rw [← armsIff, ← armsIff, ← enters.present] at h
    rw [← enters.present, ← enters.coord]
    obtain ⟨run, phase, coord, figure, window⟩ := entered.goesOn h
    exact ⟨run, phase, coord, figure, window⟩
  · rw [← armsIff] at a b
    rw [← enters.present] at window
    obtain ⟨run, phase, chans, done⟩ := entered.ends a b window
    rw [State.runNumber, enters.run, enters.seq] at done
    exact ⟨run, phase, chans, done⟩

end Sys2Proof.Machine
end


section
/-! PROOFS. Frames on the line and their contents (chapter 6), and the point verdict with its figure set (R46, R61, R62). -/

set_option Elab.async false

namespace Sys2Proof.Machine

/-! ### Bytes at their places (R88) -/

theorem field_byte (p : List Byte) (i : Nat) : field p i 1 = (p.getD i 0).toNat := by
  rcases lt_or_ge i p.length with h | h
  · rw [field, List.drop_eq_getElem_cons h, List.getD_eq_getElem _ _ h, List.take_succ_cons, List.take_zero,
      fromLe, fromLe, Nat.mul_zero, Nat.add_zero]
  · rw [field, List.drop_of_length_le h, List.getD_eq_default _ _ h]
    rfl

theorem field_one_lt (p : List Byte) (i : Nat) : field p i 1 < 256 := by
  rw [field_byte]
  exact (p.getD i 0).isLt

theorem List.getD_append_left' {α : Type} (a b : List α) (d : α) {i : Nat} (h : i < a.length) : (a ++ b).getD i d = a.getD i d := by
  simp [List.getD, List.getElem?_append_left h]

theorem reverse6_senderByte (addr : Nat) : reverse6 ((senderByte addr).setWidth 6) = BitVec.ofNat 6 addr := by
  have back : ∀ a : BitVec 6, reverse6 (((reverse6 a).setWidth 8).setWidth 6) = a := by decide
  exact back _

theorem senderByte_lt (addr : Nat) : (senderByte addr).toNat < 64 := by
  have low : ∀ a : BitVec 6, ((reverse6 a).setWidth 8).toNat < 64 := by decide
  exact low _

/-! ### A frame off the line (R94, R101) -/

/-- Header and payload of a frame: what its check is over. -/
def frameBody (sender kind target : Nat) (payload : List Byte) : List Byte :=
  senderByte sender :: BitVec.ofNat 8 kind :: BitVec.ofNat 8 target :: BitVec.ofNat 8 payload.length :: payload

/-- The stage that has taken the beginning of a frame whose body is so long. -/
def stageAfter (body : Nat) (done : List Byte) : RxStage := { RxStage.lead with bytes := done, check := frameCheck (done.take body) }

theorem stageAfter_nil (body : Nat) : stageAfter body [] = RxStage.lead := by
  rw [stageAfter, List.take_nil]
  rfl

theorem frameCheck_concat (l : List Byte) (b : Byte) : frameCheck (l ++ [b]) = checkByte (frameCheck l) b := by
  simp [frameCheck, List.foldl_append]

section
variable {sender kind target : Nat} {payload : List Byte}

theorem frameBody_length : (frameBody sender kind target payload).length = 4 + payload.length := by
  simp [frameBody]
  omega

theorem frameBytes_eq : frameBytes sender kind target payload = frameBody sender kind target payload ++
    leBytes 2 (frameCheck (frameBody sender kind target payload)).toNat := rfl

theorem frameBytes_length : (frameBytes sender kind target payload).length = 6 + payload.length := by
  rw [frameBytes_eq, List.length_append, frameBody_length, leBytes_length]
  omega

variable (fits : target < 64) (short : payload.length ≤ 48) {done rest : List Byte}
  (split : done ++ rest = frameBytes sender kind target payload)
include split

/-- The characters in hand are the frame's own. -/
theorem done_getD {i : Nat} (h : i < done.length) : done.getD i 0 = (frameBytes sender kind target payload).getD i 0 := by
  rw [← split, List.getD_append_left' _ _ _ h]

include short

theorem stageAfter_length (h : 4 ≤ done.length) : (stageAfter (4 + payload.length) done).length = payload.length := by
  have at3 : done.getD 3 0 = BitVec.ofNat 8 payload.length := by
    rw [done_getD split (by omega)]
    rfl
  rw [RxStage.length, stageAfter, field_byte, at3, BitVec.toNat_ofNat]
  omega

theorem stageAfter_complete : (stageAfter (4 + payload.length) done).complete = true ↔ rest = [] := by
  have total : done.length + rest.length = 6 + payload.length := by rw [← List.length_append, split, frameBytes_length]
  rw [RxStage.complete, Bool.and_eq_true, decide_eq_true_iff, decide_eq_true_iff, ← List.length_eq_zero_iff]
  constructor
  · rintro ⟨four, all⟩
    rw [stageAfter_length short split four] at all
    change done.length = _ at all
    omega
  · intro none
    have four : 4 ≤ done.length := by omega
    refine ⟨four, ?_⟩
    rw [stageAfter_length short split four]
    change done.length = _
    omega

include fits

/-- No character of a frame sent is a bad one. -/
theorem stageAfter_good : (stageAfter (4 + payload.length) done).badCharacter = false := by
  have at0 (h : done.length = 1) : field done 0 1 < 64 := by
    rw [field_byte, done_getD split (by omega)]
    exact senderByte_lt sender
  have at2 (h : done.length = 3) : field done 2 1 < 64 := by
    rw [field_byte, done_getD split (by omega)]
    change (BitVec.ofNat 8 target).toNat < 64
    rw [BitVec.toNat_ofNat]
    omega
  have at3 (h : done.length = 4) : field done 3 1 ≤ 48 := (stageAfter_length short split h.ge).trans_le short
  unfold RxStage.badCharacter
  change (match done.length with
    | 1 => decide (64 ≤ field done 0 1)
    | 3 => decide (64 ≤ field done 2 1)
    | 4 => decide (48 < field done 3 1)
    | _ => false) = false
  split
  · exact decide_eq_false (Nat.not_le.2 (at0 ‹_›))
  · exact decide_eq_false (Nat.not_le.2 (at2 ‹_›))
  · exact decide_eq_false (Nat.not_lt.2 (at3 ‹_›))
  · rfl
end

/-- A further character of the frame leads to the next such stage. -/
theorem stageAfter_take {sender kind target : Nat} {payload : List Byte} (short : payload.length ≤ 48) {done rest : List Byte} {b : Byte}
    (split : done ++ b :: rest = frameBytes sender kind target payload) :
    (stageAfter (4 + payload.length) done).take b = stageAfter (4 + payload.length) (done ++ [b]) := by
  have counts : (decide ((stageAfter (4 + payload.length) done).bytes.length < 4) ||
      decide ((stageAfter (4 + payload.length) done).bytes.length < 4 + (stageAfter (4 + payload.length) done).length)) =
      decide (done.length < 4 + payload.length) := by
    change (decide (done.length < 4) || decide (done.length < 4 + _)) = _
    rcases lt_or_ge done.length 4 with h | h
    · simp [h, show done.length < 4 + payload.length by omega]
    · rw [stageAfter_length short split h]
      simp [h.not_gt]
  unfold RxStage.take
  rw [counts]
  by_cases inBody : done.length < 4 + payload.length
  · have all : done.take (4 + payload.length) = done := List.take_of_length_le inBody.le
    have all' : (done ++ [b]).take (4 + payload.length) = done ++ [b] := List.take_of_length_le (by simpa using inBody)
    simp [stageAfter, inBody, all, all', frameCheck_concat]
  · have past : (done ++ [b]).take (4 + payload.length) = done.take (4 + payload.length) :=
      List.take_append_of_le_length (Nat.not_lt.1 inBody)
    simp [stageAfter, inBody, past]

theorem receive_rest {sender kind target : Nat} {payload : List Byte} (fits : target < 64) (short : payload.length ≤ 48)
    (rest : List Byte) : ∀ done, done ++ rest = frameBytes sender kind target payload →
      (stageAfter (4 + payload.length) done).receive rest =
        (stageAfter (4 + payload.length) (frameBytes sender kind target payload)).judge := by
  induction rest with
  | nil =>
    intro done split
    rw [List.append_nil] at split
    rw [split]
    rfl
  | cons b rest ih =>
    intro done split
    have split' : (done ++ [b]) ++ rest = frameBytes sender kind target payload := by rw [List.append_assoc]; exact split
    have incomplete := Bool.eq_false_iff.2 (mt (stageAfter_complete short split).1 (List.cons_ne_nil b rest))
    rw [RxStage.receive, if_neg (by simp [incomplete])]
    dsimp only
    rw [stageAfter_take short split, stageAfter_good fits short split', if_neg (by simp)]
    exact ih _ split'

/-- Settles O18: the stage holds the characters sent so far, and their check, after each of them. -/
theorem receiverReadsTheFrameSent : Obligations.ReceiverReadsTheFrameSent := by
  unfold Obligations.ReceiverReadsTheFrameSent
  intro sender target kind payload _ fits _ short
  have start : receiveFrame (frameBytes sender kind target payload) =
      (stageAfter (4 + payload.length) (frameBytes sender kind target payload)).judge := by
    rw [receiveFrame, ← stageAfter_nil (4 + payload.length)]
    exact receive_rest fits short _ [] (List.nil_append _)
  have whole := List.append_nil (frameBytes sender kind target payload)
  have length := stageAfter_length short whole (by rw [frameBytes_length]; omega)
  have complete := (stageAfter_complete short whole).2 rfl
  have agrees : (stageAfter (4 + payload.length) (frameBytes sender kind target payload)).checkAgrees = true := by
    rw [RxStage.checkAgrees, decide_eq_true_iff, length]
    change (frameCheck ((frameBytes sender kind target payload).take _)).toNat = field (frameBytes sender kind target payload) _ 2
    rw [frameBytes_eq, List.take_left' frameBody_length, field_past _ _ _ _ frameBody_length.le, frameBody_length, Nat.sub_self,
      ← List.append_nil (leBytes 2 _), field_head]
    exact (Nat.mod_eq_of_lt (BitVec.isLt _)).symm
  have taken : ((frameBytes sender kind target payload).drop 4).take payload.length = payload := by
    rw [frameBytes_eq]
    exact List.take_left' rfl
  rw [start, RxStage.judge, complete, agrees, RxStage.frame, length]
  simp only [Bool.not_true, Bool.false_eq_true, if_false, if_true, stageAfter]
  rw [taken]
  congr 2
  · exact reverse6_senderByte sender
  · change (BitVec.ofNat 8 target).setWidth 6 = BitVec.ofNat 6 target
    bv_omega

end Sys2Proof.Machine
end


section
/-! PROOFS. What peers read of coordination frames (R100, R103), and the point verdict with its figure set (R46, R61, R62). -/

set_option Elab.async false

namespace Sys2Proof.Machine

/-! ### The list of a LAPSE as a set (R103) -/

theorem lapseSet_testBit (l : List Nat) (k : Nat) : (lapseSet l).testBit k = decide (k ∈ l) := by
  have fold : ∀ acc, (l.foldl (fun acc k => acc ||| 2 ^ k) acc).testBit k = (acc.testBit k || decide (k ∈ l)) := by
    induction l with
    | nil => simp
    | cons x l ih =>
      intro acc
      rw [List.foldl_cons, ih, Nat.testBit_or, Nat.testBit_two_pow]
      by_cases h : x = k
      · simp [h]
      · simp [h, Ne.symm h]
  simpa [lapseSet] using fold 0

theorem lapseSetOk_lapseSet {l : List Nat} (some : l ≠ []) (inside : ∀ k ∈ l, 1 ≤ k ∧ k ≤ 60) :
    lapseSetOk (BitVec.ofNat 64 (lapseSet l)) = true := by
  have bit (k : Nat) (h : k < 64) : (BitVec.ofNat 64 (lapseSet l)).getLsbD k = decide (k ∈ l) := by
    rw [BitVec.getLsbD_ofNat, lapseSet_testBit]
    simp [h]
  have outside (k : Nat) (h : k = 0 ∨ 60 < k) : k ∉ l := fun mem => by
    have := inside k mem
    omega
  obtain ⟨k, mem⟩ := List.exists_mem_of_ne_nil l some
  have range := inside k mem
  have filled : BitVec.ofNat 64 (lapseSet l) ≠ 0 := fun empty => by
    have on := bit k (by omega)
    rw [empty] at on
    simp [mem] at on
  rw [lapseSetOk, bit 0 (by omega), bit 61 (by omega), bit 62 (by omega), bit 63 (by omega)]
  simp only [ne_eq, filled, outside 0 (by omega), outside 61 (by omega), outside 62 (by omega), outside 63 (by omega), not_false_eq_true,
    decide_true, decide_false, Bool.not_false, Bool.and_self]

/-! ### The fields of the coordination frames (R103) -/

theorem field_at (a : List Byte) (n v : Nat) (p : List Byte) : field (a ++ (leBytes n v ++ p)) a.length n = v % 256 ^ n := by
  rw [field_past _ _ _ _ le_rfl, Nat.sub_self, field_head]

theorem ofNat_mod_bytes (n v : Nat) : BitVec.ofNat (8 * n) (v % 256 ^ n) = BitVec.ofNat (8 * n) v := by
  have wide : 256 ^ n = 2 ^ (8 * n) := by rw [pow_mul]; rfl
  apply BitVec.eq_of_toNat_eq
  rw [BitVec.toNat_ofNat, BitVec.toNat_ofNat, wide, Nat.mod_mod]

theorem half_ofNat_mod (v : Nat) : BitVec.ofNat 16 (v % 65536) = BitVec.ofNat 16 v := ofNat_mod_bytes 2 v
theorem byte_ofNat_mod (v : Nat) : BitVec.ofNat 8 (v % 256) = BitVec.ofNat 8 v := ofNat_mod_bytes 1 v
theorem word_ofNat_mod (v : Nat) : BitVec.ofNat 32 (v % 4294967296) = BitVec.ofNat 32 v := ofNat_mod_bytes 4 v
theorem set_ofNat_mod (v : Nat) : BitVec.ofNat 64 (v % 18446744073709551616) = BitVec.ofNat 64 v := ofNat_mod_bytes 8 v

theorem half_ofNat_toNat (h : Half) : BitVec.ofNat 16 (h.toNat % 65536) = h := by rw [half_ofNat_mod, BitVec.ofNat_toNat]; simp

theorem Mask.ofCode_code {m : Mask} (h : m.code ≠ 0) : Mask.ofCode m.code = some m := by
  revert h
  obtain ⟨a, b⟩ := m
  cases a <;> cases b <;> decide

theorem Mask.code_lt (m : Mask) : m.code < 256 := by
  obtain ⟨a, b⟩ := m
  cases a <;> cases b <;> decide

theorem doneChannelBytes_length (r : Option OutcomeRecord) : (doneChannelBytes r).length = if r.isSome then 10 else 0 := by
  cases r with
  | none => rfl
  | some r => simp [doneChannelBytes]

theorem field_whole (n v : Nat) : field (leBytes n v) 0 n = v % 256 ^ n := by
  rw [← List.append_nil (leBytes n v), field_head]

/-- Settles O19, by the kind of the frame. -/
theorem peersReadTheCoordinationFrames : Obligations.PeersReadTheCoordinationFrames := by
  unfold Obligations.PeersReadTheCoordinationFrames
  intro x tgt run n list serial reads
  refine ⟨?_, fun _ m fig ch code chans figure => ?_, fun _ some inside => ?_, fun _ r => ?_, fun _ => ?_, fun a v h _ _ _ => ?_⟩
  · simp [reads, coordPayload, frameCommand, formFits, field_whole, half_ofNat_toNat]
  · have length : (doneChannelBytes ch.a).length + (doneChannelBytes ch.b).length = 10 * m.count := by
      rw [doneChannelBytes_length, doneChannelBytes_length, show ch.a.isSome = m.a from chans .a, show ch.b.isSome = m.b from chans .b,
        Mask.count, Nat.mul_add]
      cases m.a <;> cases m.b <;> rfl
    have mask : Mask.ofCode (m.code % 256) = some m := by rw [Nat.mod_eq_of_lt m.code_lt, Mask.ofCode_code code]
    refine ⟨?_, ?_⟩
    · cases fig <;> simp [coordPayload, frameCommand, field_past, field_head, half_ofNat_mod, byte_ofNat_mod, word_ofNat_mod]
    · simp [coordPayload, formFits, field_past, field_head, mask, length]
      omega
  · simp [reads, coordPayload, frameCommand, formFits, field_past, field_head, field_whole, half_ofNat_mod, set_ofNat_mod,
      lapseSetOk_lapseSet some inside]
  · simp [reads, coordPayload, frameCommand, formFits, field_past, field_head, field_whole, half_ofNat_mod, byte_ofNat_mod]
  · simp [reads, coordPayload, frameCommand, formFits, field_past, field_head, field_whole, half_ofNat_mod, word_ofNat_mod]
  · simp [reads, coordPayload, frameCommand, formFits, field_past, field_head, field_whole, byte_ofNat_mod, word_ofNat_mod, half_ofNat_toNat]

/-! ### The figure set (R46) -/

/-- The value counts once for each other station that is enrolled, has done the point and gave that figure. -/
theorem State.count_peerFigures (s : State) (v : Nat) : (s.peerFigures s.rsq.seq).count v = ((List.range' 1 60).filter fun x =>
    let e := rosterAt s.rsq.roster x
    x ≠ s.sys.address ∧ e.status = .enrolled ∧ e.lastDone = some s.rsq.seq ∧ e.figure = some v).length := by
  rw [← List.countP_eq_length_filter, List.count, State.peerFigures, List.countP_filterMap,
    show List.range 61 = 0 :: List.range' 1 60 by decide, List.countP_cons_of_neg]
  · refine List.countP_congr fun x _ => ?_
    dsimp only
    cases (rosterAt s.rsq.roster x).figure <;> split <;> simp_all
  · simp [rosterAt, RosterEntry.reset]

/-! ### The verdict of a point (R48, R61, R62) -/

theorem PerChan.any_iff {α : Type} (p : PerChan (Option α)) (q : α → Bool) :
    (p.a.any q || p.b.any q) = true ↔ ∃ ch r, p.get ch = some r ∧ q r = true := by
  rw [Bool.or_eq_true, Option.any_eq_true, Option.any_eq_true]
  constructor
  · rintro (⟨r, h⟩ | ⟨r, h⟩)
    exacts [⟨.a, r, h⟩, ⟨.b, r, h⟩]
  · rintro ⟨ch, r, h⟩
    cases ch
    exacts [.inl ⟨r, h⟩, .inr ⟨r, h⟩]

theorem pointVerdict_invalid (recs : PerChan (Option OutcomeRecord)) :
    pointVerdict recs = .invalid ↔ ∃ ch r, recs.get ch = some r ∧ r.outcome.isInvalid = true := by
  rw [← PerChan.any_iff recs fun r => r.outcome.isInvalid]
  simp only [pointVerdict]
  split_ifs <;> simp_all

theorem pointVerdict_fail (recs : PerChan (Option OutcomeRecord)) :
    pointVerdict recs = .fail ↔ (¬ ∃ ch r, recs.get ch = some r ∧ r.outcome.isInvalid = true) ∧
      ∃ ch r, recs.get ch = some r ∧ r.outcome.isFail = true := by
  rw [← PerChan.any_iff recs fun r => r.outcome.isInvalid, ← PerChan.any_iff recs fun r => r.outcome.isFail]
  simp only [pointVerdict]
  split_ifs with invalid fail
  · simp [invalid]
  · simp [invalid, fail]
  · simp [invalid, fail]

theorem OutcomeRecord.disagree_isInvalid (r : OutcomeRecord) : r.disagree.outcome.isInvalid = true := by
  unfold OutcomeRecord.disagree
  split
  · assumption
  · rfl

theorem afterDeviation_disagree (m d : Nat) (recs : PerChan (Option OutcomeRecord)) (ch : Channel) :
    (afterDeviation (.disagree m d) recs).get ch = (recs.get ch).map OutcomeRecord.disagree := by
  cases ch <;> rfl

/-- Settles O16: the figure set by its counts, the verdict by its classes. -/
theorem pointVerdictTakesTheWorstClass : Obligations.PointVerdictTakesTheWorstClass := by
  unfold Obligations.PointVerdictTakesTheWorstClass
  refine ⟨fun s => ⟨s.peerFigures s.rsq.seq, rfl, s.count_peerFigures⟩, ?_⟩
  intro dev recs after has
  refine ⟨pointVerdict_invalid after, pointVerdict_fail after, ?_, fun other => ?_⟩
  · rintro ⟨m, d, rfl⟩
    refine ⟨fun ⟨ch, r, given⟩ => (pointVerdict_invalid after).2 ⟨ch, r.disagree, ?_, r.disagree_isInvalid⟩,
      fun ch => afterDeviation_disagree m d recs ch⟩
    rw [afterDeviation_disagree, given]
    rfl
  · cases dev with
    | disagree m d => exact absurd rfl (other m d)
    | unchecked | agree m d => rfl

end Sys2Proof.Machine
end


section
/-! PROOFS. The own send: its turn, its line, and the frame it takes (R90, R91, R93, R97, R98). -/

set_option Elab.async false

namespace Sys2Proof.Machine

/-! ### The line as a command shows it (R91, R97) -/

theorem Bli.edge_coord (b : Bli) (r : List CoordFrame) (e : LineEdge) : ({ b with coord := r } : Bli).edge e = { b.edge e with coord := r } := by
  simp only [Bli.edge, Bli.goesDominant, Bli.goesRecessive]
  split_ifs <;> rfl

theorem Bli.edges_coord (line : List LineEdge) (r : List CoordFrame) : ∀ b : Bli,
    line.foldl Bli.edge { b with coord := r } = { line.foldl Bli.edge b with coord := r } := by
  induction line with
  | nil => exact fun _ => rfl
  | cons e line ih =>
    intro b
    rw [List.foldl_cons, List.foldl_cons, Bli.edge_coord, ih]

/-- What the line shows does not depend on the frames that wait. -/
theorem Bli.see_coord (b : Bli) (r : List CoordFrame) (line : List LineEdge) :
    ({ b with coord := r } : Bli).see line = { b.see line with coord := r } := by
  simp only [Bli.see, Bli.edges_coord]
  split <;> rfl

theorem Bli.edge_dominant (b : Bli) (ago : Nat) : (b.edge ⟨true, ago⟩).low = true := by
  simp only [Bli.edge, Bli.goesDominant]
  split_ifs <;> simp_all

theorem Bli.edge_recessive {b : Bli} (low : b.low = true) (ago : Nat) : b.edge ⟨false, ago⟩ = { b with low := false, quiet := ago } := by
  simp [Bli.edge, Bli.goesRecessive, low]

theorem Bli.edge_fall {b : Bli} (low : b.low = false) (ago : Nat) :
    b.edge ⟨true, ago⟩ = { b with low := true, quiet := 0, afterStuck := b.afterStuck && decide (b.quiet < guardTime + ago) } := by
  simp [Bli.edge, Bli.goesDominant, low]

/-- A 1 ms that is over stays over. -/
theorem Bli.edges_afterStuck (line : List LineEdge) : ∀ b : Bli, b.afterStuck = false → (line.foldl Bli.edge b).afterStuck = false := by
  induction line with
  | nil => exact fun _ h => h
  | cons e line ih =>
    intro b h
    refine ih _ ?_
    simp only [Bli.edge, Bli.goesDominant, Bli.goesRecessive]
    split_ifs <;> simp [h]

theorem Bli.see_afterStuck (b : Bli) (line : List LineEdge) : (b.see line).afterStuck = (line.foldl Bli.edge b).afterStuck := by
  simp only [Bli.see]
  split <;> rfl

theorem State.see_lineShown (s : State) (line : List LineEdge) : s.LineShown line (s.see line) where
  still h low := by
    subst h
    simp [State.see, Bli.see_nil, low]
  dominant before ago h := by
    subst h
    simp [State.see, Bli.see, List.foldl_append, Bli.edge_dominant]
  recessive before fell rose h := by
    subst h
    simp [State.see, Bli.see, List.foldl_append, Bli.edge_recessive (Bli.edge_dominant _ _)]
  released rose h low := by
    subst h
    simp [State.see, Bli.see_recessive, low]
  guarded fell rest h low passed := by
    subst h
    rw [State.see, State.mapBli_bli, Bli.see_afterStuck, List.foldl_cons]
    refine Bli.edges_afterStuck _ _ ?_
    simp [Bli.edge_fall low, Nat.not_lt.2 passed]
  broken fell rose h low soon := by
    subst h
    simp [State.see, Bli.see_afterStuck, Bli.edge_fall low, Bli.edge_recessive, soon]

/-! ### The turn (R90, R91, R97) -/

section
variable {s : State} {line : List LineEdge}

theorem rank_eq (own : Nat) (w : BitVec 6) : rank own w = (own + 64 - w.toNat + 63) % 64 := by
  have := w.isLt
  rw [rank]
  congr 1
  omega

theorem LineRate.bitTime_eq (r : LineRate) : r.bitTime = if r = .r125 then 8 else if r = .r250 then 4 else 2 := by cases r <;> rfl

theorem Bli.recovering_false (b : Bli) : b.recovering = false ↔ (b.afterStuck = true → 1000 ≤ b.quiet) := by
  rw [Bli.recovering, Bool.and_eq_false_imp, decide_eq_false_iff_not, Nat.not_lt]
  rfl

theorem State.mayStart_iff (s : State) : s.mayStart = true ↔ s.alive = true ∧ s.bli.quietRuns = true ∧
    ¬ (s.bli.coord = [] ∧ s.bli.report = []) ∧ s.bli.low = false ∧ s.wait * s.sys.rate.bitTime ≤ s.bli.quiet ∧
      (s.bli.afterStuck = true → 1000 ≤ s.bli.quiet) := by
  rw [← Bli.recovering_false]
  simp only [State.mayStart, State.waited, Bool.and_eq_true, Bool.not_eq_true', decide_eq_true_iff,
    Bool.eq_false_iff, ne_eq, List.isEmpty_iff]
  tauto

theorem State.see_quietRuns : (s.see line).bli.quietRuns = s.bli.quietRuns := by simp [Bli.quietRuns]
theorem State.see_alive : (s.see line).alive = s.alive := rfl
theorem State.freeCount_congr {u : State} (h : u.rst = s.rst) : u.freeCount = s.freeCount := by
  have same (n : Nat) : u.slotFree n = s.slotFree n := by simp only [State.slotFree, State.slot, h]
  simp only [State.freeCount, same]

/-- The contents of a STATUS take nothing of the line's level, and of the frames that wait. -/
theorem State.see_statusPayload : (s.see line).statusPayload = s.statusPayload := by
  have free : (s.see line).freeCount = s.freeCount := State.freeCount_congr (by simp)
  unfold State.statusPayload State.rosterCount State.runNumber
  rw [free]
  simp

/-- The number of frames that may be dropped, and one more. -/
theorem State.see_frames : (s.see line).bli.coord.length + (s.see line).bli.waiting.length = s.bli.coord.length + s.bli.waiting.length := by
  simp

/-- A command that finds the line clear and the wait over goes on to the first frame. -/
theorem State.exec_sendAttemptStart_starts (alive : s.alive = true) (clear : s.bli.quietRuns = true) (may : (s.see line).mayStart = true) :
    exec (.sendAttemptStart line) s =
      .next ((s.see line).formAttempt (s.bli.coord.length + s.bli.waiting.length + 1)).relamp := by
  rw [exec_sendAttemptStart, execSendAttemptStart, if_pos (by simp [alive, clear])]
  dsimp only
  rw [if_pos may, State.see_frames]
  rfl

/-- One that does not defers. -/
theorem State.exec_sendAttemptStart_defers (alive : s.alive = true) (clear : s.bli.quietRuns = true) (may : (s.see line).mayStart = false) :
    exec (.sendAttemptStart line) s = .next (s.see line).relamp := by
  rw [exec_sendAttemptStart, execSendAttemptStart, if_pos (by simp [alive, clear])]
  dsimp only
  rw [if_neg (by simp [may])]
  rfl
end

/-! ### The frame that goes (R93, R98) -/

section
variable {s : State} {line : List LineEdge}

/-- The state whose attempt has gone onto the line. -/
def State.attempting (s : State) (part : TxPart) (kind target : Nat) (payload : List Byte) (list : List Nat) : State :=
  s.mapBli fun b => { b with
    quiet := 0, afterStuck := false
    attempt := some ⟨part, frameBytes s.sys.address kind target payload, list, 0, false, s.time.counter, b.quiet⟩ }

theorem State.exec_sends (follows : s.LampsFollow) (alive : s.alive = true) (clear : s.bli.quietRuns = true)
    (may : (s.see line).mayStart = true) {part : TxPart} {kind target : Nat} {payload : List Byte} {list : List Nat}
    (forms : ∀ n, (s.see line).formAttempt (n + 1) = (s.see line).attempting part kind target payload list) :
    exec (.sendAttemptStart line) s = .next ((s.see line).attempting part kind target payload list) := by
  rw [State.exec_sendAttemptStart_starts alive clear may, forms]
  exact State.finish_unlit follows (by simp [State.attempting]) (by simp [State.attempting]) (by simp [State.attempting])

theorem State.formAttempt_coord {f : CoordFrame} {rest : List CoordFrame} (head : s.bli.coord = f :: rest)
    (claim : ∀ run, f ≠ .claim run) (lapse : ∀ run n, f ≠ .lapse run n) (n : Nat) :
    s.formAttempt (n + 1) = s.attempting .coordination (coordPayload f [] 0).1 63 (coordPayload f [] 0).2 [] := by
  cases f with
  | claim run => exact absurd rfl (claim run)
  | lapse run n => exact absurd rfl (lapse run n)
  | enrol | done | withdraw | void => simp only [State.formAttempt, head]; rfl

theorem State.formAttempt_lapse {run : Half} {n : Nat} {rest : List CoordFrame} (head : s.bli.coord = .lapse run n :: rest)
    (behind : s.lapseListFor n ≠ []) (k : Nat) : s.formAttempt (k + 1) = s.attempting .coordination 35 63
      (leBytes 2 run.toNat ++ leBytes 2 n ++ leBytes 8 (lapseSet (s.lapseListFor n))) (s.lapseListFor n) := by
  simp only [State.formAttempt, head, if_neg behind]
  rfl

theorem State.formAttempt_lapse_dropped {run : Half} {n : Nat} {rest : List CoordFrame} (head : s.bli.coord = .lapse run n :: rest)
    (behind : s.lapseListFor n = []) (waiting : s.bli.waiting = []) (k : Nat) :
    s.formAttempt (k + 1) = (s.mapBli fun b => { b with coord := rest }).formAttempt k := by
  simp only [State.formAttempt, head, if_pos behind]
  congr 1
  simp only [State.dropHead, State.mapBli]
  rw [Bli.refill_of_none { s.bli with coord := s.bli.coord.drop 1 } waiting, head]
  rfl

theorem State.formAttempt_report {f : ReportFrame} {rest : List ReportFrame} (empty : s.bli.coord = []) (head : s.bli.report = f :: rest)
    (n : Nat) : s.formAttempt (n + 1) =
      s.attempting .reporting (reportPayload f s.statusPayload).1 0 (reportPayload f s.statusPayload).2 [] := by
  simp only [State.formAttempt, empty, head]
  rfl

theorem State.formAttempt_nothing (empty : s.bli.coord = []) (none : s.bli.report = []) (n : Nat) : s.formAttempt n = s := by
  cases n with
  | zero => rfl
  | succ n => simp only [State.formAttempt, empty, none]

theorem State.lapseListFor_eq (s : State) (n : Nat) : s.lapseListFor n = (List.range 61).filter fun x =>
    (rosterAt s.rsq.roster x).status = .enrolled ∧ (rosterAt s.rsq.roster x).reached n = false := by
  simp only [State.lapseListFor]
  congr 1
  funext x
  cases (rosterAt s.rsq.roster x).reached n <;> simp

/-- Dropping a LAPSE with an empty list is as if it had not been there. -/
theorem State.exec_sendAttemptStart_dropped {run : Half} {n : Nat} {rest : List CoordFrame} (alive : s.alive = true)
    (clear : s.bli.quietRuns = true) (may : (s.see line).mayStart = true) (head : s.bli.coord = .lapse run n :: rest)
    (behind : s.lapseListFor n = []) (waiting : s.bli.waiting = []) :
    exec (.sendAttemptStart line) s = exec (.sendAttemptStart line) (s.mapBli fun b => { b with coord := rest }) := by
  have seen : (s.mapBli fun b => { b with coord := rest }).see line = (s.see line).mapBli fun b => { b with coord := rest } := by
    simp only [State.see, State.mapBli, Bli.see_coord]
  have clear' : (s.mapBli fun b => { b with coord := rest }).bli.quietRuns = true := clear
  rw [State.exec_sendAttemptStart_starts alive clear may, head, waiting, List.length_cons, List.length_nil, Nat.add_zero,
    State.formAttempt_lapse_dropped (s := s.see line) (by simpa using head) behind (by simpa using waiting)]
  obtain ⟨-, runs, -, low, wait, guard⟩ := (State.mayStart_iff _).1 may
  by_cases empty : rest = [] ∧ s.bli.report = []
  · rw [State.formAttempt_nothing (by exact empty.1) (by simpa using empty.2),
      State.exec_sendAttemptStart_defers (s := s.mapBli _) alive clear' ?_, seen]
    rw [Bool.eq_false_iff, seen, ne_eq, State.mayStart_iff]
    exact fun ⟨_, _, frames, _⟩ => frames (by simpa using empty)
  · rw [State.exec_sendAttemptStart_starts (s := s.mapBli _) alive clear' ?_, seen]
    · simp [waiting]
    · rw [seen, State.mayStart_iff]
      exact ⟨alive, runs, by simpa using empty, low, wait, guard⟩
end

/-- Settles O20, by the line, the wait, and the first frame of the parts. -/
theorem attemptWaitsItsTurnAndTakesCoordinationFirst : Obligations.AttemptWaitsItsTurnAndTakesCoordinationFirst := by
  unfold Obligations.AttemptWaitsItsTurnAndTakesCoordinationFirst
  intro s line follows alive address r bit shown clear waited c goes told reports count
  have clearIff : clear ↔ s.bli.quietRuns = true := by
    rw [Bli.quietRuns_iff]
    exact ⟨fun ⟨a, b, c⟩ => ⟨a, c, b⟩, fun ⟨a, b, c⟩ => ⟨a, c, b⟩⟩
  have waitIs : shown.wait * shown.sys.rate.bitTime = (40 + 8 * r) * bit := by
    rw [State.wait, rank_eq, LineRate.bitTime_eq, show shown.bli.w = s.bli.w by simp [shown]]
    rfl
  have mayIff (h : clear) : shown.mayStart = true ↔ ¬ (s.bli.coord = [] ∧ s.bli.report = []) ∧ waited := by
    rw [State.mayStart_iff, waitIs, State.see_quietRuns, ← clearIff]
    simp only [shown, State.see_alive, State.see_frame, alive, h, true_and]
    rfl
  refine ⟨State.see_lineShown s line, fun busy => ?_, fun isClear idle => ?_, fun isClear wait => ?_⟩
  · rw [exec_sendAttemptStart, execSendAttemptStart, if_neg (by simp [← clearIff, busy])]
    exact State.finish_of_follows s follows
  · have may : shown.mayStart = false := by
      rw [Bool.eq_false_iff, ne_eq, mayIff isClear]
      tauto
    rw [State.exec_sendAttemptStart_defers alive (clearIff.1 isClear) may]
    exact State.finish_unlit follows
  have coordination {f : CoordFrame} {rest : List CoordFrame} (head : s.bli.coord = f :: rest) : shown.mayStart = true :=
    (mayIff isClear).2 ⟨by simp [head], wait⟩
  have tells {f : CoordFrame} {rest : List CoordFrame} (head : s.bli.coord = f :: rest) (claim : ∀ run, f ≠ .claim run)
      (lapse : ∀ run n, f ≠ .lapse run n) : told (coordPayload f [] 0).1 (coordPayload f [] 0).2 :=
    State.exec_sends follows alive (clearIff.1 isClear) (coordination head) (State.formAttempt_coord (by simpa using head) claim lapse)
  have replies (f : ReportFrame) : reports f (reportPayload f s.statusPayload).1 (reportPayload f s.statusPayload).2 := by
    intro rest empty head
    refine State.exec_sends follows alive (clearIff.1 isClear) ((mayIff isClear).2 ⟨by simp [head], wait⟩) fun n => ?_
    rw [State.formAttempt_report (s := s.see line) (by simpa using empty) (by simpa using head), State.see_statusPayload]
  refine ⟨fun run rest head => tells head (by simp) (by simp), fun run n m fig chans rest head => tells head (by simp) (by simp), ?_,
    fun run n reason rest head => tells head (by simp) (by simp), fun run x v h rest head => tells head (by simp) (by simp),
    fun cause free damaged last => replies _, fun drops entries => replies _, ?_, fun p => replies _, fun sum damaged => replies _⟩
  · intro run n rest head behind
    have list : s.lapseListFor n = behind := State.lapseListFor_eq s n
    refine ⟨fun filled => ?_, fun none waiting _ =>
      State.exec_sendAttemptStart_dropped alive (clearIff.1 isClear) (coordination head) head (list.trans none) waiting⟩
    have seen : (s.see line).lapseListFor n = behind := list
    refine State.exec_sends follows alive (clearIff.1 isClear) (coordination head) fun k => ?_
    rw [State.formAttempt_lapse (s := s.see line) (by simpa using head) (by rw [seen]; exact filled), seen]
  · have status : reports .status 40 s.statusPayload := replies .status
    have same : ∀ p, s.statusPayload = p → reports .status 40 p := fun p h => h ▸ status
    refine same _ ?_
    unfold State.statusPayload State.rosterCount
    cases s.rrp.lastRefusal <;> cases s.plt.fault <;> simp only [Option.map_none, Option.map_some, Option.getD_none, Option.getD_some,
      Option.bind_none, Option.bind_some, List.append_assoc, count] <;> rfl

end Sys2Proof.Machine
end


section
/-! PROOFS. Trouble on the line (R91, R92, R94, R97). -/

set_option Elab.async false

namespace Sys2Proof.Machine

/-! ### What an event adds to the reporting part (R135, R137) -/

section
variable (s : State) (e : Event)

/-- An event that stands already, or that the mask does not hold, calls for no STATUS. -/
theorem State.raise_quiet (h : e.isIn s.rrp.mask = false ∨ e.isIn s.rrp.flags = true) :
    s.raise e = s.mapRrp fun r => { r with flags := r.flags ||| e.flag } := by
  rcases h with h | h <;> simp [State.raise, h]

/-- A new event in the mask calls for a STATUS. -/
theorem State.raise_calls (mask : e.isIn s.rrp.mask = true) (flag : e.isIn s.rrp.flags = false) :
    s.raise e = (s.mapRrp fun r => { r with flags := r.flags ||| e.flag }).callStatus := by
  simp [State.raise, mask, flag]

/-- A STATUS called for is queued in an empty part. -/
theorem State.callStatus_empty (clashed : s.rsq.runState ≠ .clashed) (starting : s.rsq.runState ≠ .starting) (empty : s.bli.report = []) :
    s.callStatus.bli.report = [.status] := by
  have waits : s.bli.statusWaits = false := by
    simp only [Bli.statusWaits, empty]
    split <;> rfl
  simp [State.callStatus, State.offerReport, clashed, starting, waits, State.reportRoom, empty, State.mapBli]
end

/-! ### The time since the last dominant bit that the line followed (R91, R92) -/

section
variable {a : Attempt} {bit : Nat} {now : Word}

theorem takeWhile_reverse_of_recessive (pre rest : List Bool) (h : ∀ d ∈ rest, d = false) :
    ((pre ++ true :: rest).reverse.takeWhile fun dominant => !dominant).length = rest.length := by
  have quiet : ∀ d ∈ rest.reverse, (!d) = true := fun d mem => by simp [h d (List.mem_reverse.1 mem)]
  rw [List.reverse_append, List.reverse_cons, List.append_assoc, List.takeWhile_append_of_pos quiet]
  simp

/-- The bits up to the one that was not followed end with recessive ones behind a dominant one. -/
theorem Attempt.recessiveFor_behind {pre rest : List Bool} (bits : lineBits a.bytes = pre ++ true :: rest)
    (time : pre.length * bit + bit ≤ elapsed a.begun now) (pos : 0 < bit)
    (quiet : ∀ d ∈ rest.take (elapsed a.begun now / bit - pre.length - 1), d = false) :
    a.recessiveFor bit now = elapsed a.begun now - (pre.length + 1) * bit := by
  have reached : pre.length + 1 ≤ elapsed a.begun now / bit := (Nat.le_div_iff_mul_le pos).2 (by rw [Nat.succ_mul]; exact time)
  have taken : (lineBits a.bytes).take (elapsed a.begun now / bit) =
      pre ++ true :: rest.take (elapsed a.begun now / bit - pre.length - 1) := by
    rw [bits, List.take_append, List.take_of_length_le (by omega)]
    obtain ⟨k, eq⟩ : ∃ k, elapsed a.begun now / bit - pre.length = k + 1 := ⟨_, (Nat.succ_pred_eq_of_pos (by omega)).symm⟩
    rw [eq, List.take_succ_cons, Nat.add_sub_cancel]
  have length : (pre ++ true :: rest.take (elapsed a.begun now / bit - pre.length - 1)).length =
      pre.length + 1 + (rest.take (elapsed a.begun now / bit - pre.length - 1)).length := by
    simp
    omega
  simp only [Attempt.recessiveFor, taken, takeWhile_reverse_of_recessive _ _ quiet, length]
  rw [if_neg (by omega), Nat.add_sub_cancel]

/-- A bit of the lead-in was not followed: the one before it was the last dominant one. -/
theorem Attempt.recessiveFor_leadIn {k : Nat} (one : 1 ≤ k) (lead : k < 12) (from_ : k * bit ≤ elapsed a.begun now)
    (upto : elapsed a.begun now < (k + 1) * bit) : a.recessiveFor bit now = elapsed a.begun now - k * bit := by
  obtain ⟨j, rfl⟩ : ∃ j, k = j + 1 := ⟨k - 1, by omega⟩
  have pos : 0 < bit := by
    rcases Nat.eq_zero_or_pos bit with h | h
    · simp [h] at upto
    · exact h
  have at_ : elapsed a.begun now / bit = j + 1 := by
    exact Nat.div_eq_of_lt_le from_ upto
  have bits : lineBits a.bytes = List.replicate j true ++ true :: (List.replicate (11 - j) true ++ ([false] ++ a.bytes.flatMap fun b =>
      true :: (List.range 8).map (fun k => !b.getLsbD k) ++ [false])) := by
    have twelve : List.replicate 12 true = List.replicate j true ++ true :: List.replicate (11 - j) true := by
      rw [← List.replicate_succ, ← List.replicate_add]
      congr 1
      omega
    rw [lineBits, twelve]
    simp
  have behind := Attempt.recessiveFor_behind (now := now) bits (by rw [List.length_replicate, ← Nat.succ_mul]; exact from_) pos
    (by rw [at_, List.length_replicate, Nat.add_sub_cancel_left, Nat.sub_self, List.take_zero]; simp)
  rwa [List.length_replicate] at behind
end

/-! ### The three events of the line (R92, R97) -/

theorem LineRate.bitTime_pos (r : LineRate) : 0 < r.bitTime := by cases r <;> decide

/-- Settles O24, by the event of the line. -/
theorem lineTroubleIsCounted : Obligations.LineTroubleIsCounted := by
  unfold Obligations.LineTroubleIsCounted
  intro s a since follows bit time
  have unlit {u : State} (rsq : u.rsq = s.rsq) (sys : u.sys = s.sys) (seu : u.seu = s.seu) : u.finish = .next u :=
    State.finish_unlit follows rsq sys seu
  refine ⟨fun attempt kept => ⟨?_, ?_⟩, fun alive free => ⟨fun long => ?_, fun short => ?_⟩, fun alive stuck => ⟨?_, ?_⟩⟩
  · simp only [exec_lineLost, execLineLost, attempt, State.lineLost, State.attemptLost, State.removeWithdrawn, kept]
    exact unlit rfl rfl rfl
  · let missed : State := (s.mapBli fun b => { b with
      stage := RxStage.reset, low := false, unseen := 0, quiet := a.recessiveFor bit s.time.counter, attempt := none }).mapBli fun b =>
        { b with lineErrors := bump 65535 b.lineErrors }
    have exec : Machine.exec .lineNotFollowing s = .next (missed.raise .lineError) := by
      simp only [exec_lineNotFollowing, execLineNotFollowing, attempt, State.attemptLost, State.removeWithdrawn, kept]
      exact unlit (by simp) (by simp) (by simp)
    have quiet : (missed.raise .lineError).bli.quiet = a.recessiveFor bit s.time.counter := by simp [missed]
    have frames := List.prefix_iff_eq_take.1 (missed.raise_frames .lineError)
    refine ⟨_, exec, by simp [missed], frames.symm, by simp [missed], by simp [missed], by simp [missed], by simp [missed], fun first => ?_,
      fun k one lead from_ upto => ?_, fun pre rest bits behind recessive => ?_,
      (by simp [missed] : (missed.raise .lineError).bli.lineErrors = bump 65535 s.bli.lineErrors),
      (State.isIn_raise ..).trans (by simp), by simp [missed], by simp [missed], by simp [missed]⟩
    · exact quiet.trans (a.recessiveFor_first bit _ first)
    · exact quiet.trans (Attempt.recessiveFor_leadIn one lead from_ upto)
    · exact quiet.trans (Attempt.recessiveFor_behind bits behind (LineRate.bitTime_pos _) recessive)
  · let stuck : State := s.mapBli fun b => { b with
      stuck := true, dominantSince := since, low := true, unseen := 0, quiet := 0 }
    have exec : Machine.exec (.lineStuck since) s = .next (stuck.raise .lineStuck) := by
      have long' : s.stuckFor since = true := decide_eq_true long
      rw [exec_lineStuck, execLineStuck, if_pos (by simp [alive, free, long'])]
      exact unlit (by simp) (by simp) (by simp)
    exact ⟨_, exec, by simp [stuck], by simp [stuck], by simp [stuck], by simp [stuck], (State.isIn_raise ..).trans (by simp),
      by simp [stuck], by simp [stuck], by simp [stuck]⟩
  · have short' : s.stuckFor since = false := decide_eq_false (Nat.not_lt.2 short)
    rw [exec_lineStuck, execLineStuck, if_neg (by simp [short'])]
    exact State.finish_of_follows s follows
  · rw [exec_lineStuck, execLineStuck, if_neg (by simp [stuck])]
    exact State.finish_of_follows s follows
  · rw [exec_stuckLineReleased, execStuckLineReleased, if_pos (by simp [alive, stuck])]
    exact unlit rfl rfl rfl

/-! ### Frames in error (R94) -/

theorem State.takesFrames_iff (s : State) : s.takesFrames = true ↔ s.alive = true ∧ s.rsq.runState ≠ .starting := by
  simp [State.takesFrames]

/-- What the line shows is told by its level, its quiet and the 1 ms. -/
theorem State.LineShown.congr {s t u : State} {line : List LineEdge} (h : s.LineShown line t) (low : u.bli.low = t.bli.low)
    (quiet : u.bli.quiet = t.bli.quiet) (guard : u.bli.afterStuck = t.bli.afterStuck) : s.LineShown line u := by
  constructor
  · rw [low, quiet, guard]; exact h.still
  · rw [low, quiet]; exact h.dominant
  · rw [low, quiet]; exact h.recessive
  · rw [low, quiet, guard]; exact h.released
  · rw [guard]; exact h.guarded
  · rw [guard]; exact h.broken

/-- Settles O25: both commands end as the same error. -/
theorem receptionErrorIsCounted : Obligations.ReceptionErrorIsCounted := by
  unfold Obligations.ReceptionErrorIsCounted
  intro s c line takes way
  obtain ⟨alive, starting⟩ := (State.takesFrames_iff s).1 takes
  have exec : Machine.exec c s = .next (s.see line).receiveError.relamp := by
    rcases way with ⟨e, rfl⟩ | ⟨bytes, present, e, rfl, error⟩
    · rw [exec_frameReceiveError, execFrameReceiveError, if_pos alive]
      rfl
    · simp only [exec_frameReceived, execFrameReceived, if_pos takes, error]
      rfl
  let missed : State := ((s.see line).mapBli fun b => { b with stage := RxStage.reset }).mapBli fun b =>
    { b with lineErrors := bump 65535 b.lineErrors }
  have raised : (s.see line).receiveError = missed.raise .lineError := rfl
  rw [raised] at exec
  refine ⟨_, exec, by simp [missed], by simp [missed], by simp [missed], by simp [missed],
    (State.see_lineShown s line).congr (by simp [missed]) (by simp [missed]) (by simp [missed]), (by simp [missed] : (missed.raise .lineError).relamp.bli.lineErrors = bump 65535 s.bli.lineErrors), ?_,
    by simp [missed], by simp [missed], by simp [missed], by simp [missed], fun quiet => ?_, fun mask flag empty clashed => ?_⟩
  · rw [show (missed.raise .lineError).relamp.rrp = (missed.raise .lineError).rrp by simp, State.raise_flags]
    simp [missed, Event.flag, Event.bit]
  · rw [State.raise_quiet missed .lineError quiet]
    simp [missed]
  · rw [State.raise_calls missed .lineError mask flag]
    have report := State.callStatus_empty (missed.mapRrp fun r => { r with flags := r.flags ||| Event.lineError.flag })
      (by simpa [missed] using clashed) (by simpa [missed] using starting) (by simpa [missed] using empty)
    simpa using report

end Sys2Proof.Machine
end


section
/-! PROOFS. The ends of a sealing (R147, R151), and the clash that a frame under the own address brings (R167). -/

set_option Elab.async false

namespace Sys2Proof.Machine

/-! ### The store, where the seal unit waits for no completion (R156 to R158) -/

section
variable {s : State} (idle : ¬ (s.seu.claim.state = .recording ∨ s.seu.claim.state = .stroke))
include idle

theorem State.markReported_idle (m : Mark) : s.markReported m = s := if_neg idle

theorem State.beginRequest_idle (q : StoreRequest) : (s.beginRequest q).1.seu = s.seu ∧ (s.beginRequest q).1.rsq = s.rsq := by
  cases q with
  | write job =>
    simp only [State.beginRequest]
    repeat' split
    all_goals simp
  | mark n m seu =>
    simp only [State.beginRequest, State.markReported_idle idle]
    repeat' split
    all_goals simp

theorem State.startList_idle (l : List StoreRequest) : (s.startList l).seu = s.seu ∧ (s.startList l).rsq = s.rsq := by
  induction l generalizing s with
  | nil => exact ⟨rfl, rfl⟩
  | cons q rest ih =>
    obtain ⟨seu, rsq⟩ := State.beginRequest_idle (s := s.mapRst fun r => { r with waiting := rest }) idle q
    simp only [State.startList]
    split
    · exact ⟨seu, rsq⟩
    · obtain ⟨seu', rsq'⟩ := ih (s := ((s.mapRst fun r => { r with waiting := rest }).beginRequest q).1) (by rw [seu]; exact idle)
      exact ⟨seu'.trans seu, rsq'.trans rsq⟩

theorem State.startNext_idle : s.startNext.seu = s.seu ∧ s.startNext.rsq = s.rsq := by
  unfold State.startNext
  split
  · exact ⟨rfl, rfl⟩
  · exact State.startList_idle idle _

theorem State.writeLost_idle (job : WriteJob) : (s.writeLost job).seu = s.seu ∧ (s.writeLost job).rsq = s.rsq := by
  simp only [State.writeLost]
  split
  · simp
  · rw [if_neg (by simpa using fun h => idle (.inl h))]
    simp

theorem State.askStore_idleClaim (q : StoreRequest) : (s.askStore q).seu = s.seu ∧ (s.askStore q).rsq = s.rsq := by
  unfold State.askStore
  split
  · cases q with
    | write job => exact State.writeLost_idle idle job
    | mark n m seu =>
      simp only [State.markReported_idle idle]
      split <;> exact ⟨rfl, rfl⟩
  · exact State.startNext_idle (s := s.mapRst _) idle
end

/-! ### What every operation of the store is made of -/

/-- A relation kept by all that the store and the seal unit's ends do: changes of the store, STORE_FULL, and a seal outcome given. -/
structure StoreRule (R : State → State → Prop) : Prop where
  refl : ∀ s, R s s
  trans : ∀ {s t u}, R s t → R t u → R s u
  store : ∀ s f, R s (s.mapRst f)
  full : ∀ s, R s (s.raise .storeFull)
  given : ∀ s o, R s (s.giveSeal o)

namespace StoreRule
variable {R : State → State → Prop} (rule : StoreRule R)
include rule

theorem markReported (s : State) (m : Mark) : R s (s.markReported m) := by
  unfold State.markReported
  split
  · exact rule.given s _
  · exact rule.refl s

theorem writeLost (s : State) (job : WriteJob) : R s (s.writeLost job) := by
  simp only [State.writeLost]
  split
  · exact rule.full s
  · have freed (f : Rst → Rst) : R s ((s.raise .storeFull).mapRst f) := rule.trans (rule.full s) (rule.store _ f)
    split
    · exact rule.trans (freed _) (rule.given _ _)
    · exact freed _

theorem beginWrite (s : State) (n : Nat) (job : WriteJob) : R s (s.beginWrite n job) := by
  simp only [State.beginWrite, State.beginContent, State.beginOp]
  split
  · exact rule.trans (rule.store s _) (rule.store _ _)
  · exact rule.store s _

theorem beginRequest (s : State) (q : StoreRequest) : R s (s.beginRequest q).1 := by
  cases q with
  | write job =>
    simp only [State.beginRequest]
    split
    · exact rule.beginWrite s _ job
    · split
      · exact rule.beginWrite s _ job
      · exact rule.full s
  | mark n m seu =>
    rw [s.beginRequest_mark]
    split_ifs
    · exact rule.markReported s m
    · exact rule.refl s
    · exact rule.store s fun r => { r with op := some (.mark n m seu), opTimer := some markTime }

theorem startList (s : State) (l : List StoreRequest) : R s (s.startList l) := by
  induction l generalizing s with
  | nil => exact rule.store s _
  | cons q rest ih =>
    have begun := rule.trans (rule.store s fun r => { r with waiting := rest }) (rule.beginRequest _ q)
    simp only [State.startList]
    split
    · exact begun
    · exact rule.trans begun (ih _)

theorem startNext (s : State) : R s s.startNext := by
  unfold State.startNext
  split
  · exact rule.refl s
  · exact rule.startList s _

theorem askStore (s : State) (q : StoreRequest) : R s (s.askStore q) := by
  unfold State.askStore
  split
  · cases q with
    | write job => exact rule.writeLost s job
    | mark n m seu =>
      dsimp only
      split
      · exact rule.markReported s m
      · exact rule.refl s
  · exact rule.trans (rule.store s _) (rule.startNext _)
end StoreRule

/-! ### A sealing that ends without its seal (R147) -/

/-- The state in which the seal outcome has been given. -/
def State.sealGiven (s : State) (o : SealOutcome) : State :=
  (s.mapSeu fun u => { u with claim := { u.claim with serial := none, confirmed := false } }).giveSeal o

section
variable {s t u : State} {o : SealOutcome}

theorem State.giveSeal_seu : (s.giveSeal o).seu =
    { s.seu with claim := { s.seu.claim with state := .sealDone, confirm := none }, outcome := some o } := by
  unfold State.giveSeal
  split <;> rfl

theorem State.giveSeal_rsq : (s.giveSeal o).rsq = if s.rsq.runState = .sealing then { s.rsq with runState := .finished } else s.rsq := by
  unfold State.giveSeal
  split <;> rfl

theorem State.sealGiven_seu : (s.sealGiven o).seu = { s.seu with
    claim := { s.seu.claim with state := .sealDone, serial := none, confirmed := false, confirm := none }, outcome := some o } :=
  State.giveSeal_seu

theorem State.sealGiven_rsq : (s.sealGiven o).rsq = if s.rsq.runState = .sealing then { s.rsq with runState := .finished } else s.rsq :=
  State.giveSeal_rsq

theorem State.sealGiven_rest : (s.sealGiven o).rst = s.rst ∧ (s.sealGiven o).sys = s.sys ∧ (s.sealGiven o).bli = s.bli ∧
    (s.sealGiven o).rrp = s.rrp := by simp [State.sealGiven]

theorem State.endSealing_eq : s.endSealing o = match s.seu.claim.slot with
    | some n => (s.sealGiven o).askStore (.write ⟨(s.sealGiven o).runRecord (some o) none, false, some n⟩)
    | none => s.sealGiven o := rfl

/-- The end of a sealing, at the seal unit and the run sequencer. -/
theorem State.endSealing_given : (s.endSealing o).seu = (s.sealGiven o).seu ∧ (s.endSealing o).rsq = (s.sealGiven o).rsq := by
  rw [State.endSealing_eq]
  split
  · exact State.askStore_idleClaim (by rw [State.sealGiven_seu]; simp) _
  · exact ⟨rfl, rfl⟩

theorem State.runRecord_filed {run : Half} {v : MeterVerdict} (isRun : u.rsq.run = some run) (verdict : u.rsq.verdict = some v)
    (tally : u.rsq.tally = s.rsq.tally) (sys : u.sys = s.sys) (o : Option SealOutcome) (slot : Option Nat) :
    (⟨u.runRecord o none, false, slot⟩ : WriteJob) = s.filedJob run.toNat v o slot := by
  simp only [State.runRecord, State.filedJob, isRun, verdict, tally, sys]
  rfl

/-- The record of a sealing that ends goes to the reserved slot at level FILED (R147). -/
theorem State.endSealing_handsOver {run : Half} {n : Nat} {v : MeterVerdict} (rst : u.rst = s.rst) (slot : u.seu.claim.slot = some n)
    (isRun : u.rsq.run = some run) (verdict : u.rsq.verdict = some v) (tally : u.rsq.tally = s.rsq.tally) (sys : u.sys = s.sys)
    (ht : t.rst = (u.endSealing o).rst)
    (hf : Event.storeFull.isIn (u.endSealing o).rrp.flags = true → Event.storeFull.isIn t.rrp.flags = true) :
    s.HandsOver t (s.filedJob run.toNat v (some o) (some n)) := by
  have job := State.runRecord_filed (u := u.sealGiven o) (s := s) (by simpa [State.sealGiven] using isRun)
    (by simpa [State.sealGiven] using verdict) (by simpa [State.sealGiven] using tally) (by simpa [State.sealGiven] using sys) (some o) (some n)
  simp only [State.endSealing_eq, slot, job] at ht hf
  exact State.handsOver_of_askStore (u := u.sealGiven o) ((State.sealGiven_rest (o := o)).1.trans rst) ht hf
end

/-- The ends of a sealing, for a relation that the seal unit's own items do not enter. -/
theorem StoreRule.endSealing {R : State → State → Prop} (rule : StoreRule R)
    (unit : ∀ s f, R s (s.mapSeu f)) (s : State) (o : SealOutcome) :
    R s (s.endSealing o) := by
  have given : R s (s.sealGiven o) := rule.trans (unit s _) (rule.given _ o)
  rw [State.endSealing_eq]
  split
  · exact rule.trans given (rule.askStore _ _)
  · exact given

/-- In a clashed station no event calls for a STATUS (R137, R167). -/
def State.KeepsDue (s t : State) : Prop :=
  s.rsq.runState = .clashed → t.rsq.runState = .clashed ∧ t.rrp.statusDue = s.rrp.statusDue

theorem State.KeepsDue.rule : StoreRule State.KeepsDue where
  refl _ h := ⟨h, rfl⟩
  trans h1 h2 h := by
    obtain ⟨on, due⟩ := h1 h
    exact ⟨(h2 on).1, (h2 on).2.trans due⟩
  store _ _ h := ⟨h, rfl⟩
  full s h := by simp [State.raise, State.callStatus, h]
  given s o h := by simp [State.giveSeal, h]

theorem State.takeIncomplete_keepsDue {s : State} : s.KeepsDue s.takeIncomplete := fun h =>
  State.KeepsDue.rule.askStore (s.mapRsq fun q => { q with verdict := some .incomplete }) _ h

theorem State.answer_keepsDue {s : State} (f : RxFrame) : s.KeepsDue (s.answer f) := fun h => by
  refine ⟨by simpa using h, ?_⟩
  simp only [State.answer, State.answerRecord, State.answerSum]
  split_ifs <;> simp [State.callStatus, h]

theorem State.takeRequests_keepsDue {s : State} (l : List RxFrame) : s.KeepsDue (s.takeRequests l) := by
  induction l generalizing s with
  | nil => exact State.KeepsDue.rule.refl s
  | cons f rest ih =>
    simp only [State.takeRequests]
    split
    · have taken : s.KeepsDue (s.mapBli fun b => { b with buffer := b.buffer.erase f }) := fun h => ⟨h, rfl⟩
      exact State.KeepsDue.rule.trans taken (State.KeepsDue.rule.trans (State.answer_keepsDue f) ih)
    · exact ih

/-- A due STATUS is queued, and in a clashed station none comes due behind it. -/
theorem State.reportLeft_due {s : State} (h : s.rsq.runState = .clashed) (due : s.rrp.statusDue = false) : s.reportLeft.rrp.statusDue = false := by
  have queued : s.queueDueStatus = s := by simp [State.queueDueStatus, due]
  have kept := (State.takeRequests_keepsDue s.bli.buffer h).2
  simpa [State.reportLeft, queued, due] using kept

/-! ### The address clash (R167) -/

section
variable {s v : State}

/-- Two states alike in all that a clash settles. -/
structure State.SameSettling (s v : State) : Prop where
  rsq : v.rsq = s.rsq
  rst : v.rst = s.rst
  seu : v.seu = s.seu
  sys : v.sys = s.sys
  plt : v.plt = s.plt

theorem State.clashStops_rsq : v.clashStops.rsq.runState = .clashed ∧ v.clashStops.rsq.verdict = v.rsq.verdict ∧
    v.clashStops.rsq.run = v.rsq.run ∧ v.clashStops.rsq.tally = v.rsq.tally := by
  simp [State.clashStops, State.enter]

/-- What the entry to CLASHED leaves at every block that it does not stop. -/
theorem State.enterClashed_leaves : v.enterClashed.rst = v.clashSettles.rst ∧ v.enterClashed.seu = v.clashSettles.seu ∧
    v.enterClashed.rsq = v.clashSettles.rsq ∧ v.enterClashed.sys = v.clashSettles.sys ∧ v.enterClashed.plt = v.clashSettles.plt ∧
    v.enterClashed.rrp.flags = v.clashSettles.rrp.flags := by
  rw [State.enterClashed_eq]
  split <;> simp

theorem State.clashStops_keeps : v.clashStops.rst = v.rst ∧ v.clashStops.seu = v.seu ∧ v.clashStops.sys = v.sys ∧
    v.clashStops.plt = v.plt ∧ v.clashStops.rrp.flags = v.rrp.flags := by simp [State.clashStops]

theorem State.unsettled_not_sealing (h : v.unsettled = true) : v.rsq.runState ≠ .sealing := by
  intro sealing
  simp [State.unsettled, sealing, RunState.inPoints] at h

theorem State.clashSettles_unsettled (h : v.unsettled = true) : v.clashSettles = v.clashStops.takeIncomplete := by
  simp [State.clashSettles, h, State.unsettled_not_sealing h]

theorem State.clashSettles_sealing (h : v.rsq.runState = .sealing) : v.clashSettles = v.clashStops.abortSeal v.runNumber := by
  have settled : v.unsettled ≠ true := fun unsettled => State.unsettled_not_sealing unsettled h
  simp [State.clashSettles, settled, h]

theorem State.clashSettles_other (unsettled : v.unsettled = false) (sealing : v.rsq.runState ≠ .sealing) : v.clashSettles = v.clashStops := by
  simp [State.clashSettles, unsettled, sealing]

/-- What a clash settles is nothing, a run or a sealing. -/
theorem State.clashSettles_cases : v.clashSettles = v.clashStops ∨ v.clashSettles = v.clashStops.takeIncomplete ∨
    v.clashSettles = v.clashStops.abortSeal v.runNumber := by
  cases h : v.unsettled with
  | true => exact .inr (.inl (State.clashSettles_unsettled h))
  | false =>
    by_cases sealing : v.rsq.runState = .sealing
    · exact .inr (.inr (State.clashSettles_sealing sealing))
    · exact .inl (State.clashSettles_other h sealing)

theorem State.abortSeal_storeReports {run : Half} : v.StoreReports (v.abortSeal run) := by
  have withdrawn (p : CoordFrame → Bool) : v.StoreReports (v.withdrawFrames p) := .of_eq (by simp) (by simp) (by simp)
  unfold State.abortSeal
  dsimp only
  split
  · split
    · exact (withdrawn _).trans ((State.giveSeal_storeReports _ _).from_eq rfl rfl rfl)
    · exact withdrawn _
  · exact (withdrawn _).trans (State.endSealing_storeReports _ _)
  · exact (withdrawn _).trans (State.endSealing_storeReports _ _)
  all_goals exact withdrawn _

theorem State.abortSeal_keepsDue {run : Half} : v.KeepsDue (v.abortSeal run) := by
  have withdrawn (p : CoordFrame → Bool) : v.KeepsDue (v.withdrawFrames p) := fun h => ⟨by simpa using h, by simp⟩
  have ends (p : CoordFrame → Bool) (o : SealOutcome) := State.KeepsDue.rule.trans (withdrawn p)
    (State.KeepsDue.rule.endSealing (fun _ _ h => ⟨h, rfl⟩) (v.withdrawFrames p) o)
  unfold State.abortSeal
  dsimp only
  split
  · split
    · exact State.KeepsDue.rule.trans (withdrawn _) (State.KeepsDue.rule.trans (State.KeepsDue.rule.store _ _) (State.KeepsDue.rule.given _ _))
    · exact withdrawn _
  · exact ends _ _
  · exact ends _ _
  all_goals exact withdrawn _

/-- Over what a clash settles the flags stand, and no STATUS comes due. -/
theorem State.clashSettles_reports : v.clashStops.StoreReports v.clashSettles ∧ v.clashStops.KeepsDue v.clashSettles := by
  rcases State.clashSettles_cases (v := v) with h | h | h
  · exact h ▸ ⟨.refl _, State.KeepsDue.rule.refl _⟩
  · exact h ▸ ⟨State.takeIncomplete_storeReports _, State.takeIncomplete_keepsDue⟩
  · exact h ▸ ⟨State.abortSeal_storeReports, State.abortSeal_keepsDue⟩

/-- A clashed station has no timer of the run, and its other blocks stand. -/
theorem State.clashSettles_leaves : v.clashSettles.rsq.enrolWindow = none ∧ v.clashSettles.rsq.allowance = none ∧
    v.clashSettles.rsq.barrier = .stopped ∧ v.clashSettles.plt = v.plt ∧ v.clashSettles.sys = v.sys := by
  rcases State.clashSettles_cases (v := v) with h | h | h <;>
    simp [h, State.clashStops, State.enter, State.takeIncomplete, State.handRecord, State.stopRunTimers]

theorem State.clashSettles_verdict : v.clashSettles.rsq.verdict = if v.unsettled then some .incomplete else v.rsq.verdict := by
  cases h : v.unsettled with
  | true => simp [State.clashSettles_unsettled h, State.takeIncomplete, State.handRecord]
  | false =>
    by_cases sealing : v.rsq.runState = .sealing
    · simp [State.clashSettles_sealing sealing, State.clashStops_rsq]
    · simp [State.clashSettles_other h sealing, State.clashStops_rsq]

/-- A run without a verdict hands over its record with INCOMPLETE. -/
theorem State.clashSettles_incomplete (same : s.SameSettling v) (h : v.unsettled = true) {t : State} (rst : t.rst = v.clashSettles.rst)
    (flags : t.rrp.flags = v.clashSettles.rrp.flags) : s.HandsOver t (s.incompleteJob ((s.rsq.run.map BitVec.toNat).getD 0)) := by
  obtain ⟨-, -, run, tally⟩ := State.clashStops_rsq (v := v)
  obtain ⟨stopped, -, sys, -, -⟩ := State.clashStops_keeps (v := v)
  refine State.takeIncomplete_handsOver (u := v.clashStops) (stopped.trans same.rst) ?_ (by rw [rst, State.clashSettles_unsettled h])
    (by rw [flags, State.clashSettles_unsettled h]; exact id)
  simp only [State.incompleteJob, State.filedJob, run, tally, sys, same.rsq, same.sys]

theorem State.abortSeal_unreserved {run : Half} (claim : v.seu.claim.state = .none) (asked : v.rst.reserveAsked = true) :
    (v.abortSeal run).seu.outcome = some .aborted ∧ (v.abortSeal run).rst = { v.rst with reserveAsked := false } := by
  simp [State.abortSeal, claim, asked, State.giveSeal_seu]

theorem State.abortSeal_claimed {run : Half} (claim : v.seu.claim.state = .claimWait ∨ v.seu.claim.state = .claimOpen) :
    v.abortSeal run = (v.withdrawFrames (isSealOf run)).endSealing .aborted := by
  rcases claim with h | h <;> simp [State.abortSeal, h]

theorem State.abortSeal_confirmed {run : Half} (claim : v.seu.claim.state = .recording ∨ v.seu.claim.state = .stroke ∨ v.seu.claim.state = .sealDone) :
    v.abortSeal run = v.withdrawFrames (isSealOf run) := by
  rcases claim with h | h | h <;> simp [State.abortSeal, h]

/-- A sealing whose claim has not been confirmed ends with ABORTED, its record handed over for the reserved slot. -/
theorem State.clashSettles_aborted (same : s.SameSettling v) (sealing : v.rsq.runState = .sealing)
    (claim : v.seu.claim.state = .claimWait ∨ v.seu.claim.state = .claimOpen) {run : Half} {n : Nat} {verdict : MeterVerdict}
    (isRun : v.rsq.run = some run) (slot : v.seu.claim.slot = some n) (isVerdict : v.rsq.verdict = some verdict) {t : State}
    (rst : t.rst = v.clashSettles.rst) (flags : t.rrp.flags = v.clashSettles.rrp.flags) :
    v.clashSettles.seu.outcome = some .aborted ∧ s.HandsOver t (s.filedJob run.toNat verdict (some .aborted) (some n)) := by
  obtain ⟨stopped, seu, sys, -, -⟩ := State.clashStops_keeps (v := v)
  obtain ⟨-, verdictKept, runKept, tally⟩ := State.clashStops_rsq (v := v)
  have ends : v.clashSettles = (v.clashStops.withdrawFrames (isSealOf v.runNumber)).endSealing .aborted := by
    rw [State.clashSettles_sealing sealing, State.abortSeal_claimed (by rw [seu]; exact claim)]
  refine ⟨by rw [ends, State.endSealing_given.1, State.sealGiven_seu], State.endSealing_handsOver
    (u := v.clashStops.withdrawFrames (isSealOf v.runNumber)) ?_ ?_ ?_ ?_ ?_ ?_ (by rw [rst, ends]) (by rw [flags, ends]; exact id)⟩
  · simpa using stopped.trans same.rst
  · simpa [seu] using slot
  · simpa using runKept.trans isRun
  · simpa using verdictKept.trans isVerdict
  · simpa [same.rsq] using tally
  · simpa using sys.trans same.sys
end

/-! ### A frame under the own address (R95, R167) -/

/-- What the reception of a frame sent leaves before its judgement. -/
theorem State.exec_frameReceived_good {s : State} (takes : s.takesFrames = true) {sender kind target : Nat} {payload : List Byte}
    {line : List LineEdge} {present : Bool} (hs : sender < 64) (hk : kind < 256) (ht : target < 64) (hp : payload.length ≤ 48) :
    exec (.frameReceived ⟨frameBytes sender kind target payload, line, present⟩) s =
      .next ((((s.see line).charactersEnded (frameBytes sender kind target payload) 0).acceptFrame
        ⟨BitVec.ofNat 6 sender, BitVec.ofNat 8 kind, BitVec.ofNat 6 target, payload⟩ present).relamp) := by
  have good : receiveFrame (frameBytes sender kind target payload) = .good _ := receiverReadsTheFrameSent sender target kind payload hs ht hk hp
  simp only [exec_frameReceived, execFrameReceived, if_pos takes, good]
  rfl

theorem State.clash_enters {s : State} (h : s.rsq.runState ≠ .clashed) : s.clash = (s.raise .addressClash).enterClashed := if_neg h

/-- Settles O27, by the state of the run and of the claim. -/
theorem ownAddressHeardClashes : Obligations.OwnAddressHeardClashes := by
  unfold Obligations.OwnAddressHeardClashes
  intro s kind target payload line present takes low high unclashed ht hk hp
  let f : RxFrame := ⟨BitVec.ofNat 6 s.sys.address, BitVec.ofNat 8 kind, BitVec.ofNat 6 target, payload⟩
  let heard : State := ((s.see line).charactersEnded (frameBytes s.sys.address kind target payload) 0).heard f
  let v : State := heard.raise .addressClash
  have same : s.SameSettling v := ⟨by simp [v, heard], by simp [v, heard], by simp [v, heard], by simp [v, heard], by simp [v, heard]⟩
  have own : f.sender.toNat = s.sys.address := by
    simp only [f, BitVec.toNat_ofNat]
    omega
  have enters : ((s.see line).charactersEnded (frameBytes s.sys.address kind target payload) 0).acceptFrame f present = v.enterClashed := by
    have clash : heard.clash = v.enterClashed := State.clash_enters (by simpa [heard] using unclashed)
    simp only [State.acceptFrame]
    rw [if_pos (by simpa using own), ← clash]
  have exec := State.exec_frameReceived_good (line := line) (present := present) takes (by omega) hk ht hp (sender := s.sys.address)
  rw [enters] at exec
  obtain ⟨rst, seu, rsq, sys, plt, flags⟩ := State.enterClashed_leaves (v := v)
  obtain ⟨enters, coord, report, waiting, attempt, phase⟩ := v.enterClashed_silent
  obtain ⟨stopped, claim, -, -, stoppedFlags⟩ := State.clashStops_keeps (v := v)
  obtain ⟨reports, keepsDue⟩ := State.clashSettles_reports (v := v)
  obtain ⟨window, allowance, barrier, plan, station⟩ := State.clashSettles_leaves (v := v)
  have raised : Event.addressClash.isIn v.rrp.flags = true := by simp only [v, State.isIn_raise, decide_true, Bool.or_true]
  have slots := (v.enterClashed_acts).slots
  have alike : v.unsettled = s.unsettled := by simp only [State.unsettled, same.rsq]
  have state : v.rsq.runState = s.rsq.runState := congrArg Rsq.runState same.rsq
  have due : v.enterClashed.rrp.statusDue = false := by
    have settled := (keepsDue (State.clashStops_rsq (v := v)).1).2
    rw [State.enterClashed_eq]
    split
    · exact settled
    · exact State.reportLeft_due (rsq ▸ enters) settled
  have storeFull : Event.storeFull.isIn v.enterClashed.relamp.rrp.flags = Event.storeFull.isIn v.clashSettles.rrp.flags := by
    simp only [State.relamp_frame, flags]
  refine ⟨_, exec, by simpa using enters, ?_, by simpa using coord, by simpa using report, by simpa using waiting, by simpa using attempt,
    by simpa using due, by simpa using phase, by simpa [rsq] using window, by simpa [rsq] using allowance, by simpa [rsq] using barrier,
    by simpa [plt, plan] using same.plt, ?_, by simpa [sys, station] using same.sys, ?_, ?_, ?_, ?_⟩
  · simp only [State.relamp_frame, flags]
    exact reports.raised _ (stoppedFlags ▸ raised)
  · simp only [State.relamp_frame, slots]
    simp [stopped, same.rst]
  · simp only [State.relamp_frame, rsq, State.clashSettles_verdict, alike, same.rsq]
  · exact fun h => (State.clashSettles_incomplete same (alike.trans h) rst (by rw [flags])).relamp
  · intro h sealing
    simp only [State.relamp_frame]
    rw [rst, State.clashSettles_other (alike.trans h) (by rwa [state]), stopped, same.rst]
  · intro sealing
    have sealingToo := state.trans sealing
    have ends := State.clashSettles_sealing sealingToo
    have seuSame : v.clashStops.seu = s.seu := claim.trans same.seu
    have rstSame : v.clashStops.rst = s.rst := stopped.trans same.rst
    refine ⟨fun none asked => ?_, fun run n w waits isRun slot isVerdict => ?_, fun goesOn => ?_⟩
    · obtain ⟨outcome, kept⟩ := State.abortSeal_unreserved (v := v.clashStops) (run := v.runNumber) (by rw [seuSame]; exact none)
        (by rw [rstSame]; exact asked)
      simp only [State.relamp_frame, seu, rst, ends, outcome, kept, rstSame, and_self]
    · obtain ⟨outcome, hands⟩ := State.clashSettles_aborted same sealingToo (by rw [same.seu]; exact waits) (by rw [same.rsq]; exact isRun)
        (by rw [same.seu]; exact slot) (by rw [same.rsq]; exact isVerdict) rst (by rw [flags])
      exact ⟨by simp only [State.relamp_frame, seu, outcome], hands.relamp⟩
    · simp only [State.relamp_frame, rst, seu, ends, State.abortSeal_confirmed (by rw [seuSame]; exact goesOn.imp_right .inl)]
      simp [rstSame, seuSame]

end Sys2Proof.Machine
end


section
/-! PROOFS. The commands that chapter 6 gives no valid frame, and those under the own address (R84, R95, R100, R167). -/

set_option Elab.async false

namespace Sys2Proof.Machine

section
variable {s : State}

/-- What a clash makes of a station that has not clashed before. -/
theorem State.clash_leaves (h : s.rsq.runState ≠ .clashed) : s.clash.rsq.runState = .clashed ∧ Event.addressClash.isIn s.clash.rrp.flags = true ∧
    s.clash.bli.coord = [] ∧ s.clash.bli.report = [] := by
  rw [State.clash_enters h]
  obtain ⟨-, -, -, -, -, flags⟩ := State.enterClashed_leaves (v := s.raise .addressClash)
  obtain ⟨enters, coord, report, -, -, -⟩ := (s.raise .addressClash).enterClashed_silent
  obtain ⟨-, -, -, -, stopped⟩ := State.clashStops_keeps (v := s.raise .addressClash)
  refine ⟨enters, ?_, coord, report⟩
  rw [flags]
  refine State.clashSettles_reports.1.raised _ ?_
  simp only [stopped, State.isIn_raise, decide_true, Bool.or_true]

theorem State.stray_finish (follows : s.LampsFollow) : s.stray.finish =
    .next (s.mapBli fun b => { b with strays := if b.strays < 65535 then b.strays + 1 else b.strays }) :=
  State.finish_unlit (s := s) (t := s.stray) follows

theorem State.taken_malformed (takes : s.takesFrames = true) (act : State → State) : s.taken false act = s.stray := by
  simp [State.taken, takes]

theorem State.fromPeer_malformed (takes : s.takesFrames = true) {x : BitVec 6} (other : x.toNat ≠ s.sys.address) {form : Bool}
    (wrong : (isPosition x && form) = false) (act : State → State) : s.fromPeer x form act = s.stray := by
  simp [State.fromPeer, takes, other, wrong]

theorem State.fromPeer_own (takes : s.takesFrames = true) {x : BitVec 6} (own : x.toNat = s.sys.address) (form : Bool) (act : State → State) :
    s.fromPeer x form act = s.clash := by
  simp [State.fromPeer, takes, own]

theorem readPlanPut_long {p : List Byte} (h : 48 < p.length) : readPlanPut p = none := by
  have long (k : Kind) (m : Mask) : ¬ p.length = planPutLength k m.count := by
    have two : m.count ≤ 2 := by rcases m with ⟨a, b⟩; cases a <;> cases b <;> decide
    cases k <;> simp only [planPutLength] <;> omega
  simp only [readPlanPut, if_neg (show ¬ p.length < 4 by omega), if_neg (show ¬ p.length < 5 by omega), long, and_false, if_false]
  split
  · rfl
  · rw [if_neg (by omega)]
  · split <;> rfl

end

/-- A command from a peer goes to the clash check first. -/
theorem exec_fromPeer {c : Instr} {x : BitVec 6} (h : c.sender = some x) :
    ∃ (form : Bool) (act : State → State), c.wf = (isPosition x && form) ∧ ∀ s, exec c s = (s.fromPeer x form act).finish := by
  cases c with
  | enrol y run =>
    cases h
    exact ⟨true, _, by simp [Instr.wf], fun _ => rfl⟩
  | withdraw y run seq reason =>
    cases h
    exact ⟨true, _, by simp [Instr.wf], fun _ => rfl⟩
  | sealClaim y run serial =>
    cases h
    exact ⟨true, _, by simp [Instr.wf], fun _ => rfl⟩
  | sealVoid y run claimer serial mark =>
    cases h
    exact ⟨true, _, by simp [Instr.wf], fun _ => rfl⟩
  | done y run seq mask figure =>
    cases h
    exact ⟨_, _, rfl, fun _ => rfl⟩
  | lapse y run seq addrs =>
    cases h
    exact ⟨_, _, rfl, fun _ => rfl⟩
  | _ => cases h

/-- A command of no sender that has no valid frame is stray. -/
theorem exec_malformed {c : Instr} {s : State} (takes : s.takesFrames = true) (h : c.sender = none) (wrong : c.wf = false) :
    exec c s = s.stray.finish := by
  have stray {form : Bool} (wrong : form = false) (act : State → State) : (s.taken form act).finish = s.stray.finish := by
    rw [wrong, State.taken_malformed takes]
  cases c with
  | planPut payload =>
    have long : 48 < payload.length := by simpa [Instr.wf] using wrong
    rw [exec_planPut, execPlanPut, s.taken_act _ takes, State.takePlanPut, readPlanPut_long long]
  | planTail run tail => exact stray wrong _
  | recordAsk selector => exact stray wrong _
  | recordMark slot number => exact stray wrong _
  | storeSumAsk count => exact stray wrong _
  | enrol | withdraw | sealClaim | sealVoid | done | lapse => cases h
  | _ => cases wrong

/-- Settles O28, by whether the command has a sender. -/
theorem illFormedCommandsAreStray : Obligations.IllFormedCommandsAreStray := by
  unfold Obligations.IllFormedCommandsAreStray
  refine fun c s takes follows => ⟨fun other wrong => ?_, fun x sender own unclashed => ?_⟩
  · rw [← State.stray_finish follows]
    cases sender : c.sender with
    | none => exact exec_malformed takes sender wrong
    | some x =>
      obtain ⟨form, act, wf, exec⟩ := exec_fromPeer sender
      rw [exec, State.fromPeer_malformed takes (other x sender) (wf ▸ wrong)]
  · obtain ⟨form, act, -, exec⟩ := exec_fromPeer sender
    obtain ⟨enters, raised, coord, report⟩ := State.clash_leaves unclashed
    exact ⟨s.clash.relamp, by rw [exec, State.fromPeer_own takes own]; rfl, by simp [enters], by simp [raised],
      by simpa using coord, by simpa using report, by simp⟩

end Sys2Proof.Machine
end


section
/-! PROOFS. The own claim, the claims and voids heard, and the end of the stroke (chapter 9). -/

set_option Elab.async false

namespace Sys2Proof.Machine

section
variable {s t u v : State}

/-! ### Common facts -/

theorem State.relamp_lamps (s : State) : ∃ l, s.relamp.seu = { s.seu with lamps := l } := ⟨_, s.relamp_seu⟩

/-- A command that leaves the lamps, and all that they depend on. -/
theorem State.finish_of_lamps (follows : s.LampsFollow) (rsq : t.rsq = s.rsq) (sys : t.sys = s.sys) (lamps : t.seu.lamps = s.seu.lamps) :
    t.finish = .next t := by
  refine t.finish_of_follows ?_
  rw [State.LampsFollow, s.lampDrives_congr t (by rw [rsq]) (by rw [rsq]) (by rw [rsq]) (by rw [sys]), lamps]
  exact follows

@[simp] theorem Event.isIn_raised (e : Event) (set : Half) : e.isIn (set ||| e.flag) = true := by
  have own := Event.isIn_flag e e
  rw [decide_eq_true rfl] at own
  rw [Event.isIn, BitVec.getLsbD_or, ← Event.isIn, ← Event.isIn, own, Bool.or_true]

theorem RunState.ne_clashed_of_takesSeal {r : RunState} (h : r.takesSeal = true) : r ≠ .clashed := by
  rintro rfl
  cases h

/-- A frame offered joins the coordination part or the frames kept for it. -/
theorem State.offerCoord_joins (on : s.rsq.runState ≠ .clashed) (f : CoordFrame) : f ∈ (s.offerCoord f).bli.coord ++ (s.offerCoord f).bli.waiting := by
  rw [State.offerCoord, if_neg on, State.mapBli_bli]
  split <;> simp

theorem State.offerCoord_queued (on : s.rsq.runState ≠ .clashed) (room : s.bli.coord.length < 6) (none : s.bli.waiting = []) (f : CoordFrame) :
    (s.offerCoord f).bli.coord = s.bli.coord ++ [f] := by
  rw [State.offerCoord, if_neg on, State.mapBli_bli, if_pos ⟨room, none⟩]

theorem joinVoid_eq (l : List (Nat × Nat)) (p : Nat × Nat) : joinVoid l p = (if l.length < 8 then l else l.drop 1) ++ [p] := by
  rw [joinVoid]
  by_cases h : l.length < 8
  · rw [if_neg (by omega), if_pos h]
  · rw [if_pos (by omega), if_neg h]

/-! ### Claims and voids heard (R141, R142, R146) -/

theorem State.sealOpen_eq {run : Half} (current : s.rsq.run = some run) (takes : s.rsq.runState.takesSeal = true) : s.sealOpen run = true := by
  simp [State.sealOpen, State.inRun, current, takes]

theorem State.exec_sealClaim_heard {x : BitVec 6} {run : Half} {v : Word} (takes : s.takesFrames = true) (low : 1 ≤ x.toNat) (high : x.toNat ≤ 60)
    (other : x.toNat ≠ s.sys.address) (current : s.rsq.run = some run) (on : s.rsq.runState.takesSeal = true) :
    exec (.sealClaim x run v) s = (s.hearClaim x.toNat v.toNat run).finish := by
  rw [exec_sealClaim, execSealClaim, s.fromPeer_act x _ takes low high other, State.takeSealClaim, if_pos (State.sealOpen_eq current on)]

theorem State.exec_sealVoid_heard {x : BitVec 6} {run : Half} {a : Byte} {v h : Word} (takes : s.takesFrames = true) (low : 1 ≤ x.toNat)
    (high : x.toNat ≤ 60) (other : x.toNat ≠ s.sys.address) (current : s.rsq.run = some run) (on : s.rsq.runState.takesSeal = true) :
    exec (.sealVoid x run a v h) s = (if a.toNat = s.sys.address
      then (s.mapSeu fun u => u.hearVoid a.toNat v.toNat h.toNat).voidOwn v.toNat
      else s.mapSeu fun u => u.hearVoid a.toNat v.toNat h.toNat).finish := by
  rw [exec_sealVoid, execSealVoid, s.fromPeer_act x _ takes low high other, State.takeSealVoid, if_pos (State.sealOpen_eq current on)]

/-- A stale claim raises SEAL_CONFLICT, and changes nothing of the claim, the run and the store. -/
theorem State.answerStale_keeps (x v : Nat) (run : Half) : Event.sealConflict.isIn (s.answerStale x v run).rrp.flags = true ∧
    (s.answerStale x v run).seu.watermark = s.seu.watermark ∧ (s.answerStale x v run).seu.claim = s.seu.claim ∧
    (s.answerStale x v run).rsq = s.rsq ∧ (s.answerStale x v run).rst = s.rst := by
  simp only [State.answerStale]
  split_ifs <;> simp

/-- A pair voided already, or a part with no room, calls for no void. -/
theorem State.answerStale_quiet {x v : Nat} (run : Half) (h : (x, v) ∈ s.seu.voids ∨ ¬ (s.bli.coord.length < 6 ∧ s.bli.waiting = [])) :
    s.answerStale x v run = s.raise .sealConflict := by
  simp only [State.answerStale, List.contains_iff_mem]
  split
  · rfl
  · next fresh => rw [if_neg (h.resolve_left fresh)]

/-- Else the void carries the present H, and the pair joins the list. -/
theorem State.answerStale_voids {x v : Nat} (run : Half) (fresh : (x, v) ∉ s.seu.voids) (room : s.bli.coord.length < 6) (none : s.bli.waiting = []) :
    s.answerStale x v run = ((s.raise .sealConflict).offerCoord (.void run x v s.seu.watermark)).mapSeu fun u =>
      { u with voids := joinVoid u.voids (x, v) } := by
  simp only [State.answerStale, List.contains_iff_mem]
  rw [if_neg fresh, if_pos ⟨room, none⟩]

/-- Settles O45, by whether the claim is above H. -/
theorem claimHeardRaisesOrIsVoided : Obligations.ClaimHeardRaisesOrIsVoided := by
  unfold Obligations.ClaimHeardRaisesOrIsVoided
  intro s x run v takes low high other current on
  have unclashed := RunState.ne_clashed_of_takesSeal on
  rw [State.exec_sealClaim_heard takes low high other current on]
  refine ⟨fun above follows => ?_, fun stale => ⟨_, rfl, ?_⟩⟩
  · rw [State.hearClaim, if_pos above]
    exact State.finish_of_follows _ follows
  · obtain ⟨raised, mark, claim, rsq, rst⟩ := State.answerStale_keeps (s := s) x.toNat v.toNat run
    rw [State.hearClaim, if_neg (by omega)]
    simp only [State.relamp_frame]
    refine ⟨raised, mark, claim, rsq, rst, fun quiet => ?_, fun fresh room none => ?_⟩
    · rw [State.answerStale_quiet run (quiet.imp_right fun full => by omega)]
      simp
    · rw [State.answerStale_voids run fresh room none]
      refine ⟨?_, by simp [joinVoid_eq]⟩
      have queued := State.offerCoord_queued (s := s.raise .sealConflict) (by simpa using unclashed) (by simpa using room) (by simpa using none)
        (.void run x.toNat v.toNat s.seu.watermark)
      simpa using queued

/-- The void-heard list and the watermark after a void, and nothing else of the seal unit. -/
theorem Seu.hearVoid_eq (u : Seu) (x v h : Nat) : u.hearVoid x v h = { u with
    watermark := max u.watermark h
    voids := if (x, v) ∈ u.voids then u.voids else (if u.voids.length < 8 then u.voids else u.voids.drop 1) ++ [(x, v)] } := by
  simp only [Seu.hearVoid, List.contains_iff_mem, joinVoid_eq]

/-- The claim offered anew behind a void. -/
def Claim.again (c : Claim) : Claim := { c with state := .claimWait, serial := none, confirm := none, attempts := c.attempts + 1 }

/-- The open claim voided, with attempts left. -/
theorem State.claimVoided_again (few : s.seu.claim.attempts < 4) {run : Half} (current : s.rsq.run = some run) :
    s.claimVoided = (s.mapSeu fun u => { u with claim := u.claim.again }).offerCoord (.claim run) := by
  simp only [State.claimVoided, if_pos few]
  simp only [State.offerClaim, State.mapSeu_rsq, current]
  rfl

/-- The open claim voided at its last attempt. -/
theorem State.claimVoided_fails (last : 4 ≤ s.seu.claim.attempts) : s.claimVoided =
    ((s.mapSeu fun u => { u with claim := { u.claim with confirm := none, serial := none } }).raise .sealFailed).endSealing .sealFailed := by
  simp only [State.claimVoided]
  rw [if_neg (by omega)]

/-- Settles O46, by the claimer and the state of the own claim. -/
theorem voidHeardActsOnTheOwnClaim : Obligations.VoidHeardActsOnTheOwnClaim := by
  unfold Obligations.VoidHeardActsOnTheOwnClaim
  intro s x run a v h takes low high other current on c voids
  have unclashed := RunState.ne_clashed_of_takesSeal on
  let heard : State := s.mapSeu fun u => { u with watermark := max u.watermark h.toNat, voids := voids }
  have isHeard : (s.mapSeu fun u => u.hearVoid a.toNat v.toNat h.toNat) = heard := by
    simp only [State.mapSeu, Seu.hearVoid_eq, heard, voids]
  have exec : exec c s = (if a.toNat = s.sys.address then heard.voidOwn v.toNat else heard).finish := by
    rw [State.exec_sealVoid_heard takes low high other current on, isHeard]
  rw [exec]
  refine ⟨fun another follows => ?_, fun own serial => ⟨fun isOpen few => ?_, fun isOpen last => ?_, fun after confirmed => ?_⟩⟩
  · rw [if_neg another]
    exact State.finish_of_follows _ follows
  · have again : heard.voidOwn v.toNat = (heard.mapSeu fun u => { u with claim := u.claim.again }).offerCoord (.claim run) := by
      rw [← State.claimVoided_again (s := heard) few current]
      simp [State.voidOwn, heard, isOpen, serial]
    rw [if_pos own, again]
    refine ⟨_, rfl, ?_, ?_, by simp [heard], by simp [heard]⟩
    · obtain ⟨lamps, lit⟩ := State.relamp_lamps ((heard.mapSeu fun u => { u with claim := u.claim.again }).offerCoord (.claim run))
      have kept : ((heard.mapSeu fun u => { u with claim := u.claim.again }).offerCoord (.claim run)).seu =
          { s.seu with claim := s.seu.claim.again, watermark := max s.seu.watermark h.toNat, voids := voids } := by simp [heard]
      rw [lit, kept]
      rfl
    · simpa using State.offerCoord_joins (s := heard.mapSeu fun u => { u with claim := u.claim.again }) unclashed (.claim run)
  · let failed : State := (heard.mapSeu fun u => { u with claim := { u.claim with confirm := none, serial := none } }).raise .sealFailed
    have fails : heard.voidOwn v.toNat = failed.endSealing .sealFailed := by
      rw [← State.claimVoided_fails (s := heard) last]
      simp [State.voidOwn, heard, isOpen, serial]
    obtain ⟨seu, rsq⟩ := State.endSealing_given (s := failed) (o := .sealFailed)
    rw [State.sealGiven_seu] at seu
    rw [if_pos own, fails]
    refine ⟨_, rfl, ?_⟩
    simp only [State.relamp_frame, seu]
    refine ⟨trivial, trivial, trivial, ?_, by simp [failed, heard], fun n u slot verdict => (State.endSealing_handsOver ?_ ?_ ?_ ?_ ?_ ?_ rfl id).relamp⟩
    · exact (State.endSealing_storeReports failed .sealFailed).raised _ (by simp [failed])
    · simp [failed, heard]
    · simpa [failed, heard] using slot
    · simpa [failed, heard] using current
    · simpa [failed, heard] using verdict
    · simp [failed, heard]
    · simp [failed, heard]
  · have late : heard.voidOwn v.toNat = heard.raise .lateVoid := by
      rcases after with state | state | state <;> simp [State.voidOwn, heard, state, serial, confirmed]
    rw [if_pos own, late]
    refine ⟨_, rfl, ?_⟩
    simp only [State.relamp_frame]
    simp [heard]
end

/-! ### The end of the stroke (R149) -/

/-- Settles O47, by the command and what the press does. -/
theorem strokeEndReleasesThePress : Obligations.StrokeEndReleasesThePress := by
  unfold Obligations.StrokeEndReleasesThePress
  refine fun s follows => ⟨fun claim press => ?_, fun press => ⟨?_, ?_⟩, fun claim press idle free => ⟨fun seen fresh => ?_, fun unseen => ?_,
    fun n timer fresh => ?_⟩⟩
  · have strokes : s.stroking = true := by simp [State.stroking, claim, press]
    rw [exec_strokeInactive, execStrokeInactive, if_pos strokes]
    exact State.finish_of_follows _ follows
  · have still : s.stroking = false := by simp [State.stroking, press]
    rw [exec_strokeInactive, execStrokeInactive, if_neg (by simp [still])]
    exact State.finish_of_follows _ follows
  · have still : s.stroking = false := by simp [State.stroking, press]
    rw [exec_strokeEnd, execStrokeEnd, if_neg (by simp [still])]
    exact State.finish_of_follows _ follows
  · have strokes : s.stroking = true := by simp [State.stroking, claim, press]
    rw [exec_strokeEnd, execStrokeEnd, if_pos (by simp [strokes, seen]), State.askStore_begins _ _ _ _ (by exact idle) (by exact free) (by exact fresh)]
    exact State.finish_of_follows _ follows
  · rw [exec_strokeEnd, execStrokeEnd, if_neg (by simp [unseen])]
    exact State.finish_of_follows _ follows
  · have strokes : s.stroking = true := by simp [State.stroking, claim, press]
    let released : State := (s.mapSeu fun u => { u with press := false, strokeTimer := none }).raise .pressFault
    have faults : s.strokeFault = released.beginOp (.mark s.sealSlot .pressFault true) markTime := by
      refine State.askStore_begins released _ _ _ (by simpa [released] using idle) (by simpa [released] using free) ?_
      rw [State.slot_congr (s := s) (by simp [released])]
      exact fresh
    rw [exec_strokeTimerExpiry, execStrokeTimerExpiry, if_pos (by simp [strokes, timer]), faults]
    exact ⟨_, State.finish_of_lamps follows (by simp [released, State.beginOp]) (by simp [released, State.beginOp]) (by simp [released, State.beginOp]), by simp [released, State.beginOp], by simp [released, State.beginOp],
      by simp [released, State.beginOp], by simp [released, State.beginOp, markTime]⟩

end Sys2Proof.Machine
end


section
/-! PROOFS. The own claim, from its attempt to its confirmation (section 9.3). -/

set_option Elab.async false

namespace Sys2Proof.Machine

section
variable {s t u : State}

/-! ### What forming an attempt leaves (R93) -/

/-- Two states alike but for the bench line. -/
structure State.SameButLine (s t : State) : Prop where
  rsq : t.rsq = s.rsq
  rst : t.rst = s.rst
  seu : t.seu = s.seu
  sys : t.sys = s.sys
  rrp : t.rrp = s.rrp

theorem State.SameButLine.of_mapBli (f : Bli → Bli) : s.SameButLine (s.mapBli f) := ⟨rfl, rfl, rfl, rfl, rfl⟩

theorem State.SameButLine.trans (h : s.SameButLine t) (h' : t.SameButLine u) : s.SameButLine u :=
  ⟨h'.rsq.trans h.rsq, h'.rst.trans h.rst, h'.seu.trans h.seu, h'.sys.trans h.sys, h'.rrp.trans h.rrp⟩

/-- A claim that does not wait for its attempt ends at none: only the line changes. -/
theorem State.formAttempt_sameButLine (n : Nat) (other : s.seu.claim.state ≠ .claimWait) : s.SameButLine (s.formAttempt n) := by
  induction n generalizing s with
  | zero => exact ⟨rfl, rfl, rfl, rfl, rfl⟩
  | succ n ih =>
    have drops : s.SameButLine (s.dropHead.formAttempt n) := (State.SameButLine.of_mapBli _).trans (ih (s := s.dropHead) other)
    have sends (f : CoordFrame) (list : List Nat) (serial : Nat) : s.SameButLine (s.sendCoord f list serial) := ⟨rfl, rfl, rfl, rfl, rfl⟩
    simp only [State.formAttempt]
    split
    · split
      · exact drops
      · exact sends _ _ _
    · next run rest head =>
      split
      · exact sends _ _ _
      · rw [if_neg (by simp [other])]
        exact drops
    · exact sends _ _ _
    · split
      · exact ⟨rfl, rfl, rfl, rfl, rfl⟩
      · exact ⟨rfl, rfl, rfl, rfl, rfl⟩

/-! ### The claim at its attempt (R144) -/

theorem State.claimable_iff {run : Half} (current : s.rsq.run = some run) (waits : s.seu.claim.state = .claimWait) :
    s.claimable run = !s.seu.usedUp := by simp [State.claimable, State.inRun, current, waits]

theorem Seu.usedUp_iff {b : Seu} {s0 s1 : Nat} (block : b.block = some (s0, s1)) : b.usedUp = decide (s1 < b.watermark + 1) := by
  simp [Seu.usedUp, block]

/-- The attempt with a claim's frame, which carries H + 1. -/
def State.claimAttempt (s : State) (run : Half) : Attempt :=
  ⟨.coordination, frameBytes s.sys.address 37 63 (leBytes 2 run.toNat ++ leBytes 4 (s.seu.watermark + 1)), [], s.seu.watermark + 1, false,
    s.time.counter, s.bli.quiet⟩

/-- A claim with a serial left goes onto the line with it. -/
theorem State.formAttempt_claim {run : Half} {rest : List CoordFrame} (head : s.bli.coord = .claim run :: rest)
    (can : s.claimable run = true) (n : Nat) : s.formAttempt (n + 1) =
      s.mapBli fun b => { b with quiet := 0, afterStuck := false, attempt := some (s.claimAttempt run) } := by
  simp only [State.formAttempt, head, if_pos can]
  rfl

/-- One without ends the sealing, and the next frame is taken. -/
theorem State.formAttempt_usedUp {run : Half} {rest : List CoordFrame} (head : s.bli.coord = .claim run :: rest)
    (cannot : s.claimable run = false) (current : s.inRun run = true) (waits : s.seu.claim.state = .claimWait) (n : Nat) :
    s.formAttempt (n + 1) = (s.dropHead.endSealing .exhausted).formAttempt n := by
  simp only [State.formAttempt, head, cannot, current, waits]
  rfl

/-! ### The claim confirmed (R145, R148) -/

/-- The record of a confirmed claim: level SEALED, the reserved slot, the serial claimed. -/
def State.sealedJob (s : State) : WriteJob := ⟨s.runRecord (some .sealed) s.seu.claim.serial, true, s.seu.claim.slot⟩

def State.confirmed (s : State) : State :=
  s.mapSeu fun u => { u with claim := { u.claim with state := .recording, confirmed := true, confirm := none } }

theorem State.confirmClaim_eq : s.confirmClaim = s.confirmed.askStore (.write s.sealedJob) := rfl
end

/-- Settles O21: the claim at its attempt, by whether a serial is left; the confirm timer, by whether the store is idle. -/
theorem ownClaimIsFormedAndConfirmed : Obligations.OwnClaimIsFormedAndConfirmed := by
  unfold Obligations.OwnClaimIsFormedAndConfirmed
  refine ⟨fun s line run rest s0 s1 may head current waits block => ?_, fun s n v isOpen slot serial room clear => ?_⟩
  · obtain ⟨alive, quiet, -⟩ := (State.mayStart_iff _).1 may
    have exec := State.exec_sendAttemptStart_starts (by simpa [State.see_alive] using alive) (by simpa [State.see_quietRuns] using quiet) may
    have headSeen : (s.see line).bli.coord = .claim run :: rest := by simpa using head
    have can := State.claimable_iff (s := s.see line) current waits
    rw [Seu.usedUp_iff (s0 := s0) (s1 := s1) (by simpa using block)] at can
    refine ⟨fun left => ?_, fun used => ?_⟩
    · rw [exec, State.formAttempt_claim headSeen (by rw [can, decide_eq_false (by simpa using left)]; rfl)]
      refine ⟨_, (s.see line).claimAttempt run, rfl, ?_⟩
      simp [State.claimAttempt]
    · have rest : (s.see line).dropHead.rsq = s.rsq ∧ (s.see line).dropHead.seu = s.seu := ⟨rfl, rfl⟩
      have slots : ((s.see line).dropHead.endSealing .exhausted).rst.slots = s.rst.slots := by simp [State.dropHead]
      obtain ⟨seu, rsq⟩ := State.endSealing_given (s := (s.see line).dropHead) (o := .exhausted)
      rw [State.sealGiven_seu] at seu
      rw [State.sealGiven_rsq] at rsq
      rw [rest.2] at seu
      rw [rest.1] at rsq
      rw [exec, State.formAttempt_usedUp headSeen (by rw [can, decide_eq_true (by simpa using used)]; rfl) (by simp [State.inRun, current])
        (by simpa using waits)]
      have same := State.formAttempt_sameButLine (s := (s.see line).dropHead.endSealing .exhausted)
        (s.bli.coord.length + s.bli.waiting.length) (by simp [seu])
      refine ⟨_, rfl, ?_⟩
      simp only [State.relamp_frame, same.rsq, same.rst, same.seu, slots, seu]
      refine ⟨trivial, trivial, trivial, trivial, trivial, fun sealing => by rw [rsq, if_pos sealing],
        fun n v slot verdict => (State.endSealing_handsOver (u := (s.see line).dropHead) ?_ ?_ ?_ ?_ ?_ ?_ same.rst ?_).relamp⟩
      · simp [State.dropHead]
      · simpa [State.dropHead] using slot
      · simpa [State.dropHead] using current
      · simpa [State.dropHead] using verdict
      · simp [State.dropHead]
      · simp [State.dropHead]
      · rw [same.rrp]
        exact id
  · have exec : exec .confirmTimerExpiry s = .next s.confirmClaim.relamp := by
      rw [exec_confirmTimerExpiry, execConfirmTimerExpiry, if_pos isOpen]
      rfl
    have hands : s.HandsOver s.confirmClaim s.sealedJob := State.handsOver_of_askStore (u := s.confirmed) rfl rfl id
    have kept : s.confirmClaim.seu = s.confirmed.seu ∧ s.confirmClaim.rsq = s.confirmed.rsq := by
      rw [State.confirmClaim_eq]
      by_cases idle : s.rst.op = none
      · rw [State.askStore_write_idle s.confirmed s.sealedJob idle (clear.resolve_left (by simp [idle])) (.inl slot)]
        simp
      · rw [State.askStore_waits s.confirmed _ room idle]
        exact ⟨rfl, rfl⟩
    refine ⟨_, s.sealedJob, exec, ?_⟩
    simp only [State.relamp_frame]
    rw [kept.1, kept.2]
    refine ⟨rfl, rfl, rfl, slot, serial, rfl, rfl, rfl, fun busy => ?_, fun idle => ?_⟩
    · exact hands.waits busy room
    · exact (hands.begins idle (clear.resolve_left (by simp [idle])) n (.inl slot)).congr (by simp)

end Sys2Proof.Machine
end


section
/-! PROOFS. What a withdrawal from the run leaves, and a plan fault (R77, R123). -/

set_option Elab.async false

namespace Sys2Proof.Machine

section
variable {s t u : State} {r : WithdrawReason}

/-! ### The own roster entry -/

theorem State.markOwn_ownEntry {st : PeerStatus} (size : s.rsq.roster.length = 60) (low : 1 ≤ s.sys.address) (high : s.sys.address ≤ 60) :
    (s.markOwn st).ownEntry = { s.ownEntry with status := st } := by
  simp only [State.ownEntry, State.markOwn, State.mapEntry_roster, State.mapEntry_frame]
  rw [rosterAt_set _ _ _ _ low (by omega), if_pos rfl]

/-! ### The withdrawal (R123) -/

theorem State.leavesRun_leaves : (s.leavesRun r).plt = s.plt ∧ (s.leavesRun r).pins = s.pins ∧ (s.leavesRun r).rsq.seq = s.rsq.seq ∧
    (s.leavesRun r).rsq.enrolWindow = none ∧ (s.leavesRun r).rsq.allowance = none ∧ (s.leavesRun r).rsq.phase = .none := by
  refine ⟨by simp [State.leavesRun], by simp [State.leavesRun], by simp [State.leavesRun], ?_, ?_, State.leavesRun_phase s r⟩ <;>
    simp [State.leavesRun, State.stopRunTimers]

/-- The state that a station withdraws to. -/
def WithdrawReason.exit (r : WithdrawReason) : RunState := if r = .planFault then .faulted else .withdrawn

/-- What a withdrawal leaves. -/
structure State.Withdraws (s t : State) (r : WithdrawReason) : Prop where
  state : t.rsq.runState = r.exit
  verdict : t.rsq.verdict = some .incomplete
  phase : t.rsq.phase = .none
  barrier : t.rsq.barrier = .stopped
  window : t.rsq.enrolWindow = none
  allowance : t.rsq.allowance = none
  tally : t.rsq.tally = s.rsq.tally
  offered : .withdraw s.runNumber s.rsq.seq r ∈ t.bli.coord ++ t.bli.waiting
  plt : t.plt = s.plt
  pins : t.pins = s.pins
  sys : t.sys = s.sys
  own : s.rsq.roster.length = 60 → 1 ≤ s.sys.address → s.sys.address ≤ 60 → t.ownEntry.status = .withdrawn
  hands : s.HandsOver t (s.incompleteJob ((s.rsq.run.map BitVec.toNat).getD 0))
  inStep : r ≠ .outOfStep → s.ReportsOn t
  outOfStep : r = .outOfStep → Event.outOfStep.isIn t.rrp.flags = true

/-- A record is handed over to the store as it stands, whatever else the station holds. -/
theorem State.HandsOver.of_rst {job : WriteJob} (h : s.HandsOver t job) (rst : s.rst = u.rst) : u.HandsOver t job where
  begins := by
    have same := State.chooseSlot_congr (s := s) (u := u) rst.symm
    intro idle none n writes
    have begins := h.begins (rst ▸ idle) (rst ▸ none) n (by rwa [State.WritesTo, ← same])
    constructor
    · have blank := begins.blank
      simp only [State.NumberFor, State.slot, State.isDamaged, rst] at blank ⊢
      exact blank
    · have used := begins.used
      simp only [State.slot, rst] at used ⊢
      exact used
  full idle none slot chosen := rst ▸ h.full (rst ▸ idle) (rst ▸ none) slot (State.chooseSlot_congr rst ▸ chosen)
  waits := rst ▸ h.waits
  joins idle some room := (h.joins (rst ▸ idle) (rst ▸ some) (rst ▸ room)).trans
    (State.startNext_congr (by simp only [State.mapRst_rst, rst]))
  lost := rst ▸ h.lost

theorem State.leavesRun_ownEntry (size : s.rsq.roster.length = 60) (low : 1 ≤ s.sys.address) (high : s.sys.address ≤ 60) :
    (s.leavesRun r).ownEntry.status = .withdrawn := by
  have marked := State.markOwn_ownEntry (s := s.offerCoord (.withdraw s.runNumber s.rsq.seq r)) (st := .withdrawn) (by simpa using size)
    (by simpa using low) (by simpa using high)
  have kept : (s.leavesRun r).ownEntry = ((s.offerCoord (.withdraw s.runNumber s.rsq.seq r)).markOwn .withdrawn).ownEntry := by
    simp [State.leavesRun, State.ownEntry, State.stopRunTimers]
  rw [kept, marked]

theorem State.withdrawRun_reportsOn (h : r ≠ .outOfStep) : s.ReportsOn (s.withdrawRun r) := by
  have left : s.ReportsOn (s.leavesRun r) := .of_eq (by simp) (by simp)
  rw [State.withdrawRun_eq, if_neg h]
  exact (left.trans (State.takeIncomplete_storeReports _).toReportsOn).trans (.of_eq rfl rfl)

theorem State.withdrawRun_withdraws (on : s.rsq.runState ≠ .clashed) : s.Withdraws (s.withdrawRun r) r := by
  have offered := s.leavesRun_offers r on
  have hands (t : State) (rst : t.rst = (s.leavesRun r).takeIncomplete.rst)
      (flags : Event.storeFull.isIn (s.leavesRun r).takeIncomplete.rrp.flags = true → Event.storeFull.isIn t.rrp.flags = true) :
      s.HandsOver t (s.incompleteJob ((s.rsq.run.map BitVec.toNat).getD 0)) :=
    State.takeIncomplete_handsOver (u := s.leavesRun r) (by simp) (by simp [State.incompleteJob, State.filedJob]) rst flags
  obtain ⟨plt, pins, -, window, allowance, phase⟩ := State.leavesRun_leaves (s := s) (r := r)
  have inStep (h : r ≠ .outOfStep) := State.withdrawRun_reportsOn (s := s) h
  have own := State.leavesRun_ownEntry (s := s) (r := r)
  by_cases h : r = .outOfStep
  · subst h
    rw [State.withdrawRun_outOfStep]
    have handed := hands (((s.leavesRun .outOfStep).takeIncomplete.raise .outOfStep).enter .withdrawn) (by simp) fun full => by
      rw [State.enter_rrp, State.isIn_raise, full, Bool.true_or]
    clear hands
    constructor <;> simp_all [State.takeIncomplete, State.handRecord, WithdrawReason.exit, State.ownEntry]
  · have handed := hands (s.withdrawRun r)
    rw [State.withdrawRun_eq, if_neg h] at inStep handed ⊢
    have handed := handed rfl id
    clear hands
    constructor <;> simp_all [State.takeIncomplete, State.handRecord, WithdrawReason.exit, State.ownEntry]

theorem State.Withdraws.relamp (h : s.Withdraws t r) : s.Withdraws t.relamp r where
  state := by simpa using h.state
  verdict := by simpa using h.verdict
  phase := by simpa using h.phase
  barrier := by simpa using h.barrier
  window := by simpa using h.window
  allowance := by simpa using h.allowance
  tally := by simpa using h.tally
  offered := by simpa using h.offered
  plt := by simpa using h.plt
  pins := by simpa using h.pins
  sys := by simpa using h.sys
  own := by simpa [State.ownEntry] using h.own
  hands := h.hands.relamp
  inStep ne := (h.inStep ne).trans (.of_eq (by simp) (by simp))
  outOfStep eq := by simpa using h.outOfStep eq

theorem State.Withdraws.hands_run (h : s.Withdraws t r) {run : Half} (current : s.rsq.run = some run) : s.HandsOver t (s.incompleteJob run.toNat) := by
  have hands := h.hands
  rwa [current] at hands

/-! ### The plan fault (R77) -/

/-- The station with its fault recorded, before it withdraws. -/
def State.faulting (s : State) (c : PlanCause) : State := (s.raise .planFault).mapPlt fun p =>
  { p with fault := some ⟨c, s.rsq.desc, s.rsq.seq, if c = .stale then s.current.completion else none⟩ }

theorem State.planFault_eq (c : PlanCause) : s.planFault c = (s.faulting c).withdrawRun .planFault := rfl

/-- What a plan fault leaves. -/
structure State.FaultsWith (s t : State) (c : PlanCause) : Prop where
  state : t.rsq.runState = .faulted
  verdict : t.rsq.verdict = some .incomplete
  window : t.rsq.enrolWindow = none
  allowance : t.rsq.allowance = none
  offered : .withdraw s.runNumber s.rsq.seq .planFault ∈ t.bli.coord ++ t.bli.waiting
  raised : Event.planFault.isIn t.rrp.flags = true
  plt : t.plt = { s.plt with fault := some ⟨c, s.rsq.desc, s.rsq.seq, if c = .stale then s.current.completion else none⟩ }
  own : s.rsq.roster.length = 60 → 1 ≤ s.sys.address → s.sys.address ≤ 60 → t.ownEntry.status = .withdrawn
  hands : s.HandsOver t (s.incompleteJob ((s.rsq.run.map BitVec.toNat).getD 0))

theorem State.planFault_faultsWith (on : s.rsq.runState ≠ .clashed) (c : PlanCause) : s.FaultsWith (s.planFault c) c := by
  have withdraws := State.withdrawRun_withdraws (s := s.faulting c) (r := .planFault) (by simpa [State.faulting] using on)
  rw [← State.planFault_eq] at withdraws
  have raised := (withdraws.inStep (by decide)).raised .planFault (by simp [State.faulting])
  refine ⟨withdraws.state, withdraws.verdict, withdraws.window, withdraws.allowance, ?_, raised, withdraws.plt.trans (by simp [State.faulting]),
    ?_, ?_⟩
  · simpa [State.runNumber, State.faulting] using withdraws.offered
  · simpa [State.faulting] using withdraws.own
  · have handed := withdraws.hands.of_rst (u := s) (by simp [State.faulting])
    simpa [State.incompleteJob, State.filedJob, State.faulting] using handed

theorem State.FaultsWith.relamp {c : PlanCause} (h : s.FaultsWith t c) : s.FaultsWith t.relamp c where
  state := by simpa using h.state
  verdict := by simpa using h.verdict
  window := by simpa using h.window
  allowance := by simpa using h.allowance
  offered := by simpa using h.offered
  raised := by simpa using h.raised
  plt := by simpa using h.plt
  own := by simpa [State.ownEntry] using h.own
  hands := h.hands.relamp

/-! ### Take-up (R75 to R77) -/

theorem State.judgeTakeUp_passes (h : s.current.judge s.plt.cyclic = none) : s.judgeTakeUp = s := by
  simp only [State.judgeTakeUp, h]

theorem State.judgeTakeUp_faults {c : PlanCause} (h : s.current.judge s.plt.cyclic = some c) : s.judgeTakeUp = s.planFault c := by
  simp only [State.judgeTakeUp, h]

theorem State.enterWaitLoad_passes {n d : Nat} (h : (s.descriptor d).judge s.plt.cyclic = none) : s.enterWaitLoad n d = s.waitsFor n d :=
  State.judgeTakeUp_passes (s := s.waitsFor n d) h

theorem State.enterWaitLoad_faults {n d : Nat} {c : PlanCause} (h : (s.descriptor d).judge s.plt.cyclic = some c) :
    s.enterWaitLoad n d = (s.waitsFor n d).planFault c := State.judgeTakeUp_faults (s := s.waitsFor n d) h
end

end Sys2Proof.Machine
end


section
/-! PROOFS. The fall of MPRES, the end of the enrol window, PLAN TAIL and PLAN CLEAR (R73, R84, R85, R110, R111, R124). -/

set_option Elab.async false

namespace Sys2Proof.Machine

section
variable {s t : State}

/-! ### Frames withdrawn (R93, R98) -/

/-- With none of them on the line, no frame that is withdrawn stays. -/
theorem State.withdrawFrames_none {p : CoordFrame → Bool} {f : CoordFrame} (still : s.bli.sending p = false)
    (h : f ∈ (s.withdrawFrames p).bli.coord ++ (s.withdrawFrames p).bli.waiting) : p f = false := by
  simp only [State.withdrawFrames, State.mapBli, Bli.withdraw, Bli.refill_frames] at h
  rcases List.mem_append.1 h with queued | waiting
  · cases line : s.bli.coordOnLine with
    | false =>
      rw [line, if_neg Bool.false_ne_true] at queued
      simpa using (List.mem_filter.1 queued).2
    | true =>
      rw [line, if_pos rfl] at queued
      rcases List.mem_append.1 queued with head | rest
      · have sending : s.bli.coord.head?.any p = false := by simpa [Bli.sending, line] using still
        cases frames : s.bli.coord with
        | nil => simp [frames] at head
        | cons g rest =>
          obtain rfl : f = g := by simpa [frames] using head
          simpa [frames] using sending
      · simpa using (List.mem_filter.1 rest).2
  · simpa using (List.mem_filter.1 waiting).2

/-! ### The fall of MPRES (R111, R124) -/

theorem State.meterRemoved_unsettled (h : s.unsettled = true) : s.meterRemoved = s.withdrawRun .meterRemoved := if_pos h

theorem State.unsettled_ne_clashed (h : s.unsettled = true) : s.rsq.runState ≠ .clashed := by
  intro clashed
  simp [State.unsettled, clashed, RunState.inPoints] at h

theorem State.meterRemoved_enrolling (state : s.rsq.runState = .enrolling) (unsent : s.rsq.enrolSent = false) (still : s.enrolOnLine = false) :
    s.meterRemoved = (s.withdrawFrames (isEnrolOf s.runNumber)).markOwn .absent := by
  simp [State.meterRemoved, State.unsettled, state, unsent, still, RunState.inPoints]

theorem State.meterRemoved_outside (points : s.rsq.runState.inPoints = false) (state : s.rsq.runState ≠ .enrolling) : s.meterRemoved = s := by
  simp [State.meterRemoved, State.unsettled, state, points]

/-- Settles O38, by where the station stands in the run. -/
theorem meterRemovalWithdraws : Obligations.MeterRemovalWithdraws := by
  unfold Obligations.MeterRemovalWithdraws
  intro s run alive current sized low high
  let fallen : State := s.mapPins fun p => { p with mpres := false }
  have exec : exec .mpresFall s = fallen.meterRemoved.finish := by
    rw [exec_mpresFall, execMpresFall, if_pos alive]
  have number : fallen.runNumber = run := by simp [State.runNumber, fallen, current]
  rw [exec]
  refine ⟨fun unsettled => ?_, fun state unsent still => ?_, fun points state follows => ?_⟩
  · have removed : fallen.Withdraws fallen.meterRemoved .meterRemoved :=
      State.meterRemoved_unsettled (s := fallen) unsettled ▸ State.withdrawRun_withdraws (State.unsettled_ne_clashed (s := fallen) unsettled)
    have gone := removed.relamp
    refine ⟨_, rfl, gone.state, gone.verdict, gone.own sized.roster low high, gone.phase, gone.barrier, ?_, congrArg Pins.mpres gone.pins, gone.plt,
      (gone.hands_run current).of_rst rfl, (gone.inStep (by decide)).inStep⟩
    exact number ▸ gone.offered
  · rw [State.meterRemoved_enrolling (s := fallen) state unsent still, number]
    have marked := State.markOwn_ownEntry (s := fallen.withdrawFrames (isEnrolOf run)) (st := .absent) (by simpa [fallen] using sized.roster)
      (by simpa [fallen] using low) (by simpa [fallen] using high)
    refine ⟨_, rfl, by simp [fallen, state], ?_, fun queued => ?_, by simp [fallen], by simp [fallen]⟩
    · simpa [State.ownEntry] using congrArg RosterEntry.status marked
    · have kept : CoordFrame.enrol run ∈ (fallen.withdrawFrames (isEnrolOf run)).bli.coord ++ (fallen.withdrawFrames (isEnrolOf run)).bli.waiting := by
        simpa using queued
      have gone := State.withdrawFrames_none (number ▸ still) kept
      simp [isEnrolOf] at gone
  · rw [State.meterRemoved_outside (s := fallen) points state]
    exact State.finish_of_follows _ follows

/-! ### The end of the enrol window (R110, R111) -/

/-- The enrol window closed, before what follows. -/
def State.windowClosed (s : State) : State := s.mapRsq fun q => { q with enrolWindow := none, allowance := some allowanceTime }

theorem State.closeWindow_sent (state : s.rsq.runState = .enrolling) (sent : s.rsq.enrolSent = true) :
    s.closeWindow = s.windowClosed.enterWaitLoad 0 s.plt.head := by
  simp only [State.closeWindow, state, sent]
  rfl

theorem State.closeWindow_unsent (state : s.rsq.runState = .enrolling) (unsent : s.rsq.enrolSent = false) (still : s.enrolOnLine = false) :
    s.closeWindow = (s.windowClosed.withdrawFrames (isEnrolOf s.runNumber)).dropEnrol := by
  simp only [State.closeWindow, state, unsent, still]
  rfl

end

/-! ### The tests of take-up (R76) -/

section
variable (d : Descriptor) (cyclic : Bool)

theorem PerChan.anyOf_iff {α : Type} (p : PerChan (Option α)) (bad : α → Bool) :
    p.anyOf bad = true ↔ ∃ ch x, p.get ch = some x ∧ bad x = true := p.any_iff bad

theorem ChanInput.bad_iff (i : ChanInput) : i.bad = true ↔ i.input ∉ [0, 1] ∨ i.prescaler ∉ [1, 2, 4, 8] := by
  simp [ChanInput.bad, and_assoc]

theorem limitBad_iff (x : Int) : limitBad x = true ↔ x < -999999 ∨ 999999 < x := by simp [limitBad]

theorem Descriptor.faults_zeroGate : d.accuracy.any (fun a => a.chans.anyOf fun c => c.nm = 0) = true ↔ d.Faults cyclic .zeroGate := by
  simp [Option.any_eq_true, PerChan.anyOf_iff, Descriptor.Faults]

theorem Descriptor.faults_discard : d.accuracy.any (fun a => decide (a.repeats ≤ a.discard)) = true ↔ d.Faults cyclic .discard := by
  simp [Option.any_eq_true, Descriptor.Faults]

theorem Descriptor.faults_limits : d.accuracy.any (fun a => decide (a.upper < a.lower)) = true ↔ d.Faults cyclic .limits := by
  simp [Option.any_eq_true, Descriptor.Faults]

theorem Descriptor.faults_range : d.outOfRange = true ↔ d.Faults cyclic .range := by
  simp only [Descriptor.outOfRange, Descriptor.Faults, Bool.or_eq_true, decide_eq_true_iff, Option.any_eq_true, PerChan.anyOf_iff,
    AccuracyFields.bad, DwellFields.bad, ChanInput.bad_iff, limitBad_iff, Bool.and_eq_true, or_assoc]
  refine or_congr_right (or_congr ?_ Iff.rfl)
  exact exists_congr fun f => and_congr_right fun _ => or_comm.trans or_assoc

theorem PlanCause.forall_iff {P : PlanCause → Prop} :
    (∀ e, P e) ↔ P .empty ∧ P .stale ∧ P .zeroGate ∧ P .discard ∧ P .limits ∧ P .range :=
  ⟨fun h => ⟨h _, h _, h _, h _, h _, h _⟩, fun ⟨h1, h2, h3, h4, h5, h6⟩ e => by cases e <;> assumption⟩

theorem Descriptor.judge_iff (c : PlanCause) :
    d.judge cyclic = some c ↔ d.Faults cyclic c ∧ ∀ e : PlanCause, e.code < c.code → ¬ d.Faults cyclic e := by
  have empty : d.kind = .none ↔ d.Faults cyclic .empty := Iff.rfl
  have stale : (!cyclic ∧ d.completed) ↔ d.Faults cyclic .stale := by simp [Descriptor.Faults]
  rw [PlanCause.forall_iff]
  cases c <;> simp only [Descriptor.judge, PlanCause.code, ← empty, ← stale, ← d.faults_zeroGate cyclic, ← d.faults_discard cyclic,
    ← d.faults_limits cyclic, ← d.faults_range cyclic] <;> clear empty stale <;> split_ifs <;> simp_all
end

/-- Settles O32: the judgement by `judge_iff`, the expiry by whether the own ENROL was sent and the head passes take-up. -/
theorem enrolWindowExpiryDecides : Obligations.EnrolWindowExpiryDecides := by
  unfold Obligations.EnrolWindowExpiryDecides
  refine ⟨Descriptor.judge_iff, fun s n window state sized low high => ?_⟩
  have exec : exec .enrolWindowExpiry s = s.closeWindow.finish := by
    rw [exec_enrolWindowExpiry, execEnrolWindowExpiry, if_pos (by simp [window])]
  rw [exec]
  refine ⟨fun sent passes => ?_, fun c sent faults => ?_, fun unsent still => ?_⟩
  · rw [State.closeWindow_sent state sent, State.enterWaitLoad_passes (s := s.windowClosed) passes]
    refine ⟨_, rfl, ?_⟩
    simp [State.windowClosed, State.waitsFor, allowanceTime]
  · rw [State.closeWindow_sent state sent, State.enterWaitLoad_faults (s := s.windowClosed) faults]
    have faulted := (State.planFault_faultsWith (s := s.windowClosed.waitsFor 0 s.plt.head) (by simp [State.waitsFor]) c).relamp
    exact ⟨_, rfl, faulted.state, faulted.verdict, faulted.hands.of_rst rfl, faulted.raised, faulted.own sized.roster low high, faulted.allowance,
      faulted.offered, faulted.plt⟩
  · rw [State.closeWindow_unsent state unsent still]
    let gone : State := s.windowClosed.withdrawFrames (isEnrolOf s.runNumber)
    have marked := State.markOwn_ownEntry (s := gone) (st := .absent) (by simpa [gone, State.windowClosed] using sized.roster)
      (by simpa [gone, State.windowClosed] using low) (by simpa [gone, State.windowClosed] using high)
    refine ⟨_, rfl, by simp [State.dropEnrol], ?_, by simp [State.dropEnrol, State.windowClosed],
      by simp [State.dropEnrol, State.windowClosed, allowanceTime], fun queued => ?_, by simp [State.dropEnrol, State.windowClosed],
      by simp [State.dropEnrol, State.windowClosed]⟩
    · simpa [State.ownEntry, State.dropEnrol, gone] using congrArg RosterEntry.status marked
    · have kept : CoordFrame.enrol s.runNumber ∈ gone.bli.coord ++ gone.bli.waiting := by simpa [State.dropEnrol] using queued
      have dropped := State.withdrawFrames_none (s := s.windowClosed) still kept
      simp [isEnrolOf] at dropped

/-! ### PLAN TAIL and PLAN CLEAR (R73, R84, R85) -/

/-- Settles O30, by the state that the frame finds. -/
theorem planTailAndClear : Obligations.PlanTailAndClear := by
  unfold Obligations.PlanTailAndClear
  intro s run tail takes follows set
  refine ⟨fun inTable => ?_, fun refuses => ?_, fun taken => ?_⟩
  · have exec : exec (.planTail run tail) s = (s.takePlanTail run tail).finish := by
      rw [exec_planTail, execPlanTail, decide_eq_true inTable, s.taken_act _ takes]
    rw [exec]
    refine ⟨fun other => ?_, fun current on => ⟨fun still => ?_, fun paused reachable passes => ?_⟩⟩
    · have ignored : s.takePlanTail run tail = s := if_neg fun h => by
        rcases other with other | other
        · exact other (by simpa [State.inRun] using h.1)
        · simp [other] at h
      rw [ignored]
      exact State.finish_of_follows _ follows
    · rw [State.takePlanTail, if_pos ⟨by simp [State.inRun, current], on⟩, State.setTail]
      rw [if_neg fun h => by rcases still with still | still <;> simp_all]
      exact State.finish_of_follows _ follows
    · rw [State.takePlanTail, if_pos ⟨by simp [State.inRun, current], on⟩, State.setTail]
      dsimp only
      rw [if_pos ⟨paused, reachable⟩, State.enterWaitLoad_passes (s := set) passes]
      refine ⟨_, rfl, ?_⟩
      simp [State.waitsFor, set]
  · rw [exec_planClear, execPlanClear, s.taken_act _ takes, State.takePlanClear, if_pos refuses]
    refine ⟨_, rfl, ?_⟩
    simp [State.refuse, kindPlanClear]
  · rw [exec_planClear, execPlanClear, s.taken_act _ takes, State.takePlanClear, if_neg (by simp [taken])]
    refine ⟨_, rfl, ?_⟩
    dsimp only
    split <;> simp

end Sys2Proof.Machine
end


section
/-! PROOFS. LOAD READY in WAIT_LOAD, PAUSED, ENROLLING, SETTLING and MEASURING (R86, R111 to R113). -/

set_option Elab.async false

namespace Sys2Proof.Machine

/-! ### The prescalers of a point (R9) -/

section
variable {s : State} {f : PointFields} {r : RefName}

/-- A channel's input names a reference input, with its prescaler. -/
def PointFields.Names (f : PointFields) (ch : Channel) (r : RefName) (k : Nat) : Prop :=
  ∃ i, f.inputs.get ch = some i ∧ refOfCode i.input = r ∧ i.prescaler = k

theorem PointFields.prescalerOf_first {k : Nat} (h : f.Names .a r k) : f.prescalerOf r = some k := by
  obtain ⟨i, input, named, rfl⟩ := h
  have first : f.inputs.a = some i := input
  simp [PointFields.prescalerOf, first, named]

theorem PointFields.prescalerOf_second {k : Nat} (first : ∀ j, ¬ f.Names .a r j) (h : f.Names .b r k) : f.prescalerOf r = some k := by
  obtain ⟨i, input, named, rfl⟩ := h
  have second : f.inputs.b = some i := input
  cases isFirst : f.inputs.a with
  | none => simp [PointFields.prescalerOf, isFirst, second, named]
  | some j =>
    have other : refOfCode j.input ≠ r := fun same => first _ ⟨j, isFirst, same, rfl⟩
    simp [PointFields.prescalerOf, isFirst, second, named, other]

theorem PointFields.prescalerOf_none (h : ∀ ch k, ¬ f.Names ch r k) : f.prescalerOf r = none := by
  have other (ch : Channel) (j : ChanInput) (isInput : f.inputs.get ch = some j) : refOfCode j.input ≠ r := fun same => h ch _ ⟨j, isInput, same, rfl⟩
  have first := other .a
  have second := other .b
  simp only [PerChan.get] at first second
  cases isFirst : f.inputs.a <;> cases isSecond : f.inputs.b <;> simp_all [PointFields.prescalerOf]

theorem State.takePrescalers_ref (point : s.current.point = some f) : s.takePrescalers.pfe.ref r =
    (f.prescalerOf r).elim (s.pfe.ref r) (s.pfe.ref r).take := by
  cases r <;> simp only [State.takePrescalers, point, State.mapPfe_pfe] <;> cases f.prescalerOf .rf0 <;> cases f.prescalerOf .rf1 <;> rfl

theorem State.settled_ref (point : s.current.point = some f) :
    s.settled.pfe.ref r = (f.prescalerOf r).elim (s.pfe.ref r) (s.pfe.ref r).take :=
  State.takePrescalers_ref (s := s.mapRsq fun q => { q with
    runState := .settling, phase := .settling, settle := 0, received := ⟨none, none⟩ }) point
end

/-! ### LOAD READY by the run state (R111 to R113) -/

section
variable {s : State} {run n : Half} {d : Byte}

theorem State.exec_loadReady_current (takes : s.takesFrames = true) (current : s.rsq.run = some run) :
    exec (.loadReady run n d) s = (s.loadReady n.toNat d.toNat).finish := by
  rw [exec_loadReady, execLoadReady, s.taken_act _ takes, State.takeLoadReady, if_pos (by simp [State.inRun, current])]

theorem State.thenWait_waits {n d : Nat} (h : s.rsq.runState = .waitLoad) : s.thenWait n d = s.loadInWait n d := if_pos h

theorem State.thenWait_faulted {n d : Nat} (h : s.rsq.runState = .faulted) : s.thenWait n d = s := if_neg (by simp [h])

theorem State.loadReady_waitLoad {n d : Nat} (h : s.rsq.runState = .waitLoad) : s.loadReady n d = s.loadInWait n d := by
  simp only [State.loadReady, h]

theorem State.loadReady_paused {n d : Nat} (h : s.rsq.runState = .paused) : s.loadReady n d = s.loadInPaused n d := by
  simp only [State.loadReady, h]

theorem State.loadReady_point {n d : Nat} (h : s.rsq.runState = .settling ∨ s.rsq.runState = .measuring) :
    s.loadReady n d = if n ≤ s.rsq.seq then s else s.withdrawRun .outOfStep := by
  rcases h with h | h <;> simp only [State.loadReady, h]

theorem State.loadReady_unsent {n d : Nat} (h : s.rsq.runState = .enrolling) (unsent : s.rsq.enrolSent = false) : s.loadReady n d = s := by
  simp [State.loadReady, h, unsent]

theorem State.loadReady_sent {n d : Nat} (h : s.rsq.runState = .enrolling) (sent : s.rsq.enrolSent = true) :
    s.loadReady n d = (s.windowClosed.enterWaitLoad 0 s.plt.head).thenWait n d := by
  simp only [State.loadReady, h, sent, if_true, State.closeWindow_sent h sent]

/-- A station goes on in WAIT_LOAD as one that stands there. -/
theorem State.exec_loadReady_waiting {u : State} (takes : u.takesFrames = true) (current : u.rsq.run = some run) (m e : Nat) :
    exec (.loadReady run n d) (u.waitsFor m e) = ((u.waitsFor m e).loadInWait n.toNat d.toNat).finish := by
  have on : (u.waitsFor m e).takesFrames = true := by
    simp only [State.takesFrames, State.alive, State.waitsFor, Bool.and_eq_true, decide_eq_true_iff] at takes ⊢
    simp_all
  rw [State.exec_loadReady_current (s := u.waitsFor m e) on current, State.loadReady_waitLoad rfl]

end

/-- Settles O34, by the run state and the point that the frame names. -/
theorem loadReadyInWaitLoadAndPaused : Obligations.LoadReadyInWaitLoadAndPaused := by
  unfold Obligations.LoadReadyInWaitLoadAndPaused
  intro s run n d takes follows current leaves
  have number : s.runNumber = run := by simp [State.runNumber, current]
  have withdraws (reason : WithdrawReason) (out : reason ≠ .planFault) (on : s.rsq.runState ≠ .clashed) : leaves (s.withdrawRun reason).relamp reason := by
    have gone := (State.withdrawRun_withdraws (r := reason) on).relamp
    exact ⟨gone.state.trans (if_neg out), gone.phase, number ▸ gone.offered, gone.verdict, gone.plt, gone.hands_run current⟩
  have late (on : s.rsq.runState ≠ .clashed) := (State.withdrawRun_withdraws (s := s) (r := .outOfStep) on).relamp.outOfStep rfl
  have mismatch (on : s.rsq.runState ≠ .clashed) := ((State.withdrawRun_withdraws (s := s) (r := .planMismatch) on).relamp.inStep (by decide)).inStep
  have stays : s.finish = .next s := State.finish_of_follows _ follows
  rw [State.exec_loadReady_current takes current]
  refine ⟨fun state => ?_, fun state => ⟨fun unsent => ?_, fun sent => ⟨fun passes => ?_, fun c faults => ?_⟩⟩, fun state => ?_, fun state => ?_⟩
  · have on : s.rsq.runState ≠ .clashed := by rcases state with h | h <;> simp [h]
    rw [State.loadReady_point state]
    refine ⟨fun old => by rw [if_pos old, stays], fun ahead => ?_⟩
    rw [if_neg (by omega)]
    exact ⟨_, rfl, withdraws _ (by decide) on, late on⟩
  · rw [State.loadReady_unsent state unsent, stays]
  · rw [State.loadReady_sent state sent, State.enterWaitLoad_passes (s := s.windowClosed) passes, State.thenWait_waits rfl]
    exact (State.exec_loadReady_waiting (u := s.windowClosed) takes current 0 s.plt.head).symm
  · have faulted := State.planFault_faultsWith (s := s.windowClosed.waitsFor 0 s.plt.head) (by simp [State.waitsFor]) c
    rw [State.loadReady_sent state sent, State.enterWaitLoad_faults (s := s.windowClosed) faults, State.thenWait_faulted faulted.state]
    have after := faulted.relamp
    have hands := after.hands.of_rst (u := s) rfl
    refine ⟨_, rfl, after.state, after.verdict, after.window, ?_, ?_, after.raised, after.plt⟩
    · simpa [State.incompleteJob, State.filedJob, State.waitsFor, State.windowClosed, current] using hands
    · simpa [State.runNumber, State.waitsFor, State.windowClosed, current] using after.offered
  · have on : s.rsq.runState ≠ .clashed := by simp [state]
    rw [State.loadReady_waitLoad state, State.loadInWait]
    refine ⟨fun old => by rw [if_pos old, stays], fun ahead => ?_, fun now other => ?_, fun f now same point settles present => ?_⟩
    · rw [if_neg (by omega), if_pos ahead]
      obtain ⟨out, -, offered, verdict, plt, hands⟩ := withdraws .outOfStep (by decide) on
      exact ⟨_, rfl, out, offered, late on, verdict, plt, hands⟩
    · rw [if_neg (by omega), if_neg (by omega), if_pos other]
      obtain ⟨out, -, offered, verdict, plt, hands⟩ := withdraws .planMismatch (by decide) on
      exact ⟨_, rfl, out, offered, mismatch on, verdict, plt, hands⟩
    · rw [if_neg (by omega), if_neg (by omega), if_neg (by simpa using same)]
      have settleTime : s.settled.settleTime = f.settle := by rw [State.settleTime, State.settled_current, point]; rfl
      have enters : s.enterSettling = s.settled := if_neg fun h => by
        rcases h with zero | absent
        · exact settles (settleTime.symm.trans zero)
        · simp [present] at absent
      rw [enters]
      intro takesTo names
      have ref (r : RefName) : s.settled.relamp.pfe.ref r = (f.prescalerOf r).elim (s.pfe.ref r) (s.pfe.ref r).take := by
        simp only [State.relamp_frame, State.settled_ref point]
      refine ⟨_, rfl, by simp [State.settled], by simp [State.settled], fun r k named => ?_, fun r k first named => ?_, fun r other => ?_,
        by simp [State.settled], by simp [State.settled], by simp [State.settled], by simp [State.settled], by simp [State.settled],
        by simp [State.settled], by simp [State.settled]⟩
      · exact (ref r).trans (by rw [PointFields.prescalerOf_first named]; rfl)
      · exact (ref r).trans (by rw [PointFields.prescalerOf_second first named]; rfl)
      · exact (ref r).trans (by rw [PointFields.prescalerOf_none other]; rfl)
  · have on : s.rsq.runState ≠ .clashed := by simp [state]
    let extended : State := s.mapPlt fun p => { p with tail := d.toNat }
    rw [State.loadReady_paused state, State.loadInPaused]
    refine ⟨fun other => ?_, fun same inTable => ⟨fun passes => ?_, fun c faults => ?_⟩⟩
    · rw [if_neg (by simp [other])]
      refine ⟨fun old => by rw [if_pos old, stays], fun next => ?_, fun beyond => ?_⟩
      · rw [if_neg (by omega), if_pos next]
        exact ⟨_, rfl, withdraws _ (by decide) on, mismatch on⟩
      · rw [if_neg (by omega), if_neg (by omega)]
        exact ⟨_, rfl, withdraws _ (by decide) on, late on⟩
    · rw [if_pos ⟨same, inTable⟩, State.enterWaitLoad_passes (s := extended) passes, State.thenWait_waits rfl]
      exact (State.exec_loadReady_waiting (u := extended) takes current (s.rsq.seq + 1) d.toNat).symm
    · have faulted := State.planFault_faultsWith (s := extended.waitsFor (s.rsq.seq + 1) d.toNat) (by simp [State.waitsFor]) c
      rw [if_pos ⟨same, inTable⟩, State.enterWaitLoad_faults (s := extended) faults, State.thenWait_faulted faulted.state]
      have after := faulted.relamp
      have hands := after.hands.of_rst (u := s) rfl
      refine ⟨_, rfl, after.state, after.verdict, ?_, after.plt⟩
      simpa [State.incompleteJob, State.filedJob, State.waitsFor, extended, current] using hands

end Sys2Proof.Machine
end


section
/-! PROOFS. RUN ABORT and what acts as RUN ABORT, and RUN CLOSE (R126 to R128, R151). -/

set_option Elab.async false

namespace Sys2Proof.Machine

section
variable {s t : State} {run : Half}

/-! ### The abort by the run state (R126, R127) -/

/-- The station as the abort leaves its point, before the seal unit's part. -/
def State.abortStops (s : State) : State := s.leavePoint.stopRunTimers.withdrawFrames (isAbortedOf s.runNumber)

theorem State.abortRun_unsettled (h : s.unsettled = true) :
    s.abortRun = ((s.abortStops.abortSeal s.runNumber).takeIncomplete.enter .finished).relamp := if_pos h

theorem State.abortRun_enrolling (state : s.rsq.runState = .enrolling) (unsent : s.rsq.enrolSent = false) :
    s.abortRun = (((s.abortStops.abortSeal s.runNumber).markOwn .absent).enter .idle).relamp := by
  simp [State.abortRun, State.unsettled, state, unsent, RunState.inPoints, State.abortStops]

theorem State.abortRun_sealing (state : s.rsq.runState = .sealing) (first : s.seu.aborted = false) :
    s.abortRun = (s.abortStops.abortSeal s.runNumber).mapSeu fun u => { u with aborted := true } := by
  simp [State.abortRun, State.unsettled, state, first, RunState.inPoints, State.abortStops]

theorem State.abortRun_again (state : s.rsq.runState = .sealing) (again : s.seu.aborted = true) : s.abortRun = s := by
  simp [State.abortRun, State.unsettled, state, again, RunState.inPoints]

theorem State.abortStops_keeps : s.abortStops.rst = s.rst ∧ s.abortStops.seu = s.seu ∧ s.abortStops.sys = s.sys ∧ s.abortStops.plt = s.plt ∧
    s.abortStops.rrp = s.rrp ∧ s.abortStops.pins = s.pins ∧ s.abortStops.runNumber = s.runNumber := by
  simp [State.abortStops, State.runNumber, State.stopRunTimers]

theorem State.abortStops_rsq : s.abortStops.rsq.runState = s.rsq.runState ∧ s.abortStops.rsq.verdict = s.rsq.verdict ∧
    s.abortStops.rsq.run = s.rsq.run ∧ s.abortStops.rsq.tally = s.rsq.tally ∧ s.abortStops.rsq.roster = s.rsq.roster ∧
    s.abortStops.rsq.phase = .none ∧ s.abortStops.rsq.enrolWindow = none ∧ s.abortStops.rsq.allowance = none ∧
    s.abortStops.rsq.barrier = .stopped := by
  simp [State.abortStops, State.stopRunTimers, State.leavePoint_phase]

theorem State.leavePoint_not_live (h : s.rsq.phase = .settling ∨ s.rsq.phase = .measuring) (ch : Channel) : s.leavePoint.live ch = false := by
  have engine : s.leavePoint.engine ch = GateEngine.reset := by
    cases ch <;> simp [State.leavePoint, if_pos h, State.engine, State.dropPulses, PerChan.get]
  have dwell : s.leavePoint.dwell ch = Dwell.reset := by
    cases ch <;> simp [State.leavePoint, if_pos h, State.dwell, State.dropPulses, PerChan.get]
  simp [State.live, engine, dwell, GateEngine.reset, GateEngine.runs, Dwell.reset]

theorem State.abortStops_not_live (h : s.rsq.phase = .settling ∨ s.rsq.phase = .measuring) (ch : Channel) : s.abortStops.live ch = false := by
  have gates : s.abortStops.gates = s.leavePoint.gates := by simp [State.abortStops, State.stopRunTimers]
  have ecu : s.abortStops.ecu = s.leavePoint.ecu := by simp [State.abortStops, State.stopRunTimers]
  rw [State.live, State.engine, State.dwell, gates, ecu]
  exact State.leavePoint_not_live h ch

/-! ### The frames that an abort removes -/

theorem State.endSealing_line {o : SealOutcome} : (s.endSealing o).bli.coord = s.bli.coord ∧ (s.endSealing o).bli.waiting = s.bli.waiting := by simp

/-- Of its frames the seal unit keeps those of other runs. -/
theorem State.abortSeal_frames {f : CoordFrame} (still : s.bli.attempt = none)
    (h : f ∈ (s.abortSeal run).bli.coord ++ (s.abortSeal run).bli.waiting) : isSealOf run f = false ∧ f ∈ s.bli.coord ++ s.bli.waiting := by
  have line : (s.abortSeal run).bli.coord = (s.withdrawFrames (isSealOf run)).bli.coord ∧
      (s.abortSeal run).bli.waiting = (s.withdrawFrames (isSealOf run)).bli.waiting := by
    unfold State.abortSeal
    dsimp only
    split
    · split <;> simp
    all_goals simp
  rw [line.1, line.2] at h
  exact ⟨s.withdrawFrames_gone _ f still h, s.withdrawFrames_sub _ f h⟩

theorem State.abortStops_frames {f : CoordFrame} (still : s.bli.attempt = none) (h : f ∈ s.abortStops.bli.coord ++ s.abortStops.bli.waiting) :
    isAbortedOf s.runNumber f = false := by
  refine State.withdrawFrames_gone _ _ f ?_ h
  simpa [State.stopRunTimers] using still

theorem State.abortStops_attempt (still : s.bli.attempt = none) : s.abortStops.bli.attempt = none := by
  simp [State.abortStops, State.withdrawFrames, Bli.withdraw, Bli.coordOnLine, Bli.refill, State.stopRunTimers, still]

theorem State.exec_runAbort_current (takes : s.takesFrames = true) (current : s.rsq.run = some run) : exec (.runAbort run) s = s.abortRun.finish := by
  rw [exec_runAbort, execRunAbort, s.taken_act _ takes, State.takeRunAbort, if_pos (by simp [State.inRun, current])]

/-- With nothing of a sealing to end, the seal unit only withdraws its frames. -/
theorem State.abortSeal_nothing (none : s.seu.claim.state = .none) (asked : s.rst.reserveAsked = false) :
    s.abortSeal run = s.withdrawFrames (isSealOf run) := by
  simp [State.abortSeal, none, asked]

/-- The record of a run ended by an abort goes to the store with INCOMPLETE. -/
theorem State.abortRun_handsOver (h : s.unsettled = true) (none : s.seu.claim.state = .none) (asked : s.rst.reserveAsked = false)
    (current : s.rsq.run = some run) : s.HandsOver s.abortRun (s.incompleteJob run.toNat) := by
  rw [State.abortRun_unsettled h]
  obtain ⟨rst, seu, sys, -, -, -, -⟩ := State.abortStops_keeps (s := s)
  obtain ⟨-, -, isRun, tally, -, -, -, -, -⟩ := State.abortStops_rsq (s := s)
  have quiet : s.abortStops.abortSeal s.runNumber = s.abortStops.withdrawFrames (isSealOf s.runNumber) :=
    State.abortSeal_nothing (by rw [seu]; exact none) (by rw [rst]; exact asked)
  refine State.HandsOver.relamp (State.takeIncomplete_handsOver (u := s.abortStops.abortSeal s.runNumber) ?_ ?_ rfl id)
  · rw [quiet]
    simpa using rst
  · rw [quiet]
    simp [State.incompleteJob, State.filedJob, isRun, tally, sys, current]

end

/-- Settles O36, by the state that the abort finds. -/
theorem runAbortGivesIncomplete : Obligations.RunAbortGivesIncomplete := by
  unfold Obligations.RunAbortGivesIncomplete
  intro s run takes follows current sized still low high
  have number : s.runNumber = run := by simp [State.runNumber, current]
  obtain ⟨rst, seu, sys, plt, rrp, pins, -⟩ := State.abortStops_keeps (s := s)
  obtain ⟨runState, verdict, isRun, tally, roster, phase, window, allowance, barrier⟩ := State.abortStops_rsq (s := s)
  have stopped := State.abortStops_attempt still
  have sealGone {f : CoordFrame} (h : f ∈ (s.abortStops.abortSeal run).bli.coord ++ (s.abortStops.abortSeal run).bli.waiting) :=
    State.abortSeal_frames stopped h
  rw [State.exec_runAbort_current takes current]
  refine ⟨fun unsettled => ⟨_, rfl, ?_⟩, fun state unsent none asked => ⟨_, rfl, ?_⟩, fun state again => ?_, fun state first none asked => ⟨_, rfl, ?_⟩,
    fun state first goesOn => ?_, fun state first waits => ⟨_, rfl, ?_⟩, fun after => ?_⟩
  · have hands := fun none asked => (State.abortRun_handsOver unsettled none asked current).relamp
    rw [State.abortRun_unsettled unsettled, number] at hands ⊢
    refine ⟨?_, ?_, ?_, ?_, ?_, ?_, fun point => ?_, hands, fun f queued => ?_⟩
    · simp
    · simp [State.takeIncomplete, State.handRecord]
    · simp [phase]
    · simp [barrier]
    · simp [allowance]
    · simp [plt]
    · have gone (ch : Channel) : ((((s.abortStops.abortSeal run).takeIncomplete.enter .finished).relamp).relamp).live ch = false := by
        have idle := State.abortStops_not_live point ch
        rw [State.live, State.engine, State.dwell] at idle ⊢
        simpa only [State.relamp_frame, State.enter_gates, State.enter_ecu, State.takeIncomplete_frame, State.abortSeal_frame] using idle
      exact ⟨gone .a, gone .b⟩
    · have kept : f ∈ (s.abortStops.abortSeal run).bli.coord ++ (s.abortStops.abortSeal run).bli.waiting := by simpa using queued
      have gone := State.abortStops_frames still (sealGone kept).2
      rwa [number] at gone
  · rw [State.abortRun_enrolling state unsent, number,
      State.abortSeal_nothing (s := s.abortStops) (by rw [seu]; exact none) (by rw [rst]; exact asked)]
    have marked := State.markOwn_ownEntry (s := s.abortStops.withdrawFrames (isSealOf run)) (st := .absent)
      (by simpa [roster] using sized.roster) (by simpa [sys] using low) (by simpa [sys] using high)
    refine ⟨by simp, by simp [verdict], ?_, by simp [rst], by simp [plt]⟩
    simpa [State.ownEntry] using congrArg RosterEntry.status marked
  · rw [State.abortRun_again state again]
    exact State.finish_of_follows _ follows
  · have sealing : s.abortStops.rsq.runState = .sealing := runState.trans state
    obtain ⟨outcome, store⟩ := State.abortSeal_unreserved (v := s.abortStops) (run := run) (by rw [seu]; exact none) (by rw [rst]; exact asked)
    rw [State.abortRun_sealing state first, number]
    refine ⟨?_, by simpa using outcome, by simpa [rst] using store⟩
    simp [State.abortSeal, seu, none, rst, asked, State.giveSeal_rsq, sealing]
  · let ended : State := (s.abortStops.withdrawFrames (isSealOf run)).mapSeu fun u => { u with aborted := true }
    have aborts : s.abortRun = ended := by
      rw [State.abortRun_sealing state first, number, State.abortSeal_confirmed (by rw [seu]; exact goesOn.imp_right .inl)]
    have drives : ended.lampDrives = s.lampDrives :=
      s.lampDrives_congr ended (by simpa [ended] using runState) (by simpa [ended] using verdict) (by simpa [ended] using roster) (by simp [ended, sys])
    have lit : ended.LampsFollow := by
      rw [State.LampsFollow, drives, show ended.seu.lamps = s.seu.lamps by simp [ended, seu]]
      exact follows
    rw [aborts]
    refine ⟨ended, State.finish_of_follows _ lit, by simp [ended, runState, state], by simp [ended, verdict], by simp [ended, rst], by simp [ended, seu],
      fun f queued => ?_⟩
    exact State.withdrawFrames_gone s.abortStops _ f stopped (by simpa [ended] using queued)
  · have sealing : s.abortStops.rsq.runState = .sealing := runState.trans state
    have ends := State.abortSeal_claimed (v := s.abortStops) (run := run) (by rw [seu]; exact waits)
    obtain ⟨seuEnds, rsqEnds⟩ := State.endSealing_given (s := s.abortStops.withdrawFrames (isSealOf run)) (o := .aborted)
    rw [State.sealGiven_seu] at seuEnds
    rw [State.sealGiven_rsq] at rsqEnds
    have gone {f : CoordFrame} := sealGone (f := f)
    rw [ends] at gone
    rw [State.abortRun_sealing state first, number, ends]
    refine ⟨by simp [rsqEnds, sealing], by simp [verdict], by simp [seuEnds], by simp [seuEnds], by simp [seuEnds],
      fun n v slot isVerdict => State.HandsOver.relamp (State.endSealing_handsOver (u := s.abortStops.withdrawFrames (isSealOf run)) ?_ ?_ ?_ ?_ ?_ ?_ rfl id),
      fun f queued => (gone (by simpa using queued)).1⟩
    · simpa using rst
    · simpa [seu] using slot
    · simpa [isRun] using current
    · simpa [verdict] using isVerdict
    · simpa using tally
    · simpa using sys
  · rw [State.abortRun_idle (by rcases after with h | h | h <;> simp [State.unsettled, h, RunState.inPoints])
      (by rcases after with h | h | h <;> simp [h]) (by rcases after with h | h | h <;> simp [h])]
    exact State.finish_of_follows _ follows

section
variable {s : State} {run : Half}

theorem State.exec_runClose_current (takes : s.takesFrames = true) (current : s.rsq.run = some run) : exec (.runClose run) s = s.closeRun.finish := by
  rw [exec_runClose, execRunClose, s.taken_act _ takes, State.takeRunClose, if_pos (by simp [State.inRun, current])]

/-- A station of a run that is not unsettled has not sent its ENROL. -/
theorem State.enrolling_of_settled (h : s.rsq.runState.inPoints = true ∨ s.rsq.runState = .enrolling) (settled : s.unsettled = false) :
    s.rsq.runState = .enrolling ∧ s.rsq.enrolSent = false := by
  simp only [State.unsettled, Bool.or_eq_false_iff, Bool.and_eq_false_iff] at settled
  have state := h.resolve_left (by simp [settled.1])
  exact ⟨state, by simpa [state] using settled.2⟩

/-- What the abort at a point, or in ENROLLING, leaves at the run sequencer. -/
theorem State.abortRun_ends (h : s.rsq.runState.inPoints = true ∨ s.rsq.runState = .enrolling) :
    s.abortRun.rsq.runState = (if s.unsettled then .finished else .idle) ∧
    s.abortRun.rsq.verdict = (if s.unsettled then some .incomplete else s.rsq.verdict) ∧ s.abortRun.plt = s.plt := by
  obtain ⟨-, -, -, plt, -, -, -⟩ := State.abortStops_keeps (s := s)
  obtain ⟨-, verdict, -⟩ := State.abortStops_rsq (s := s)
  cases unsettled : s.unsettled with
  | true =>
    rw [State.abortRun_unsettled unsettled]
    simp [plt, State.takeIncomplete, State.handRecord]
  | false =>
    obtain ⟨state, unsent⟩ := State.enrolling_of_settled h unsettled
    rw [State.abortRun_enrolling state unsent]
    simp [plt, verdict]
end

section
variable {s t u : State}

/-- The station behind a RUN CLOSE at a point or in ENROLLING. -/
theorem State.closeRun_ends (h : s.rsq.runState.inPoints = true ∨ s.rsq.runState = .enrolling) : s.closeRun.rsq.runState = .idle ∧
    s.closeRun.rsq.verdict = s.abortRun.rsq.verdict ∧ s.closeRun.rst = s.abortRun.rst ∧ s.closeRun.rrp = s.abortRun.rrp := by
  obtain ⟨state, -, -⟩ := State.abortRun_ends h
  rw [State.closeRun]
  cases unsettled : s.unsettled with
  | true =>
    rw [if_pos (.inl (by simp [state, unsettled]))]
    exact ⟨rfl, rfl, rfl, rfl⟩
  | false =>
    have idle : s.abortRun.rsq.runState = .idle := by simp [state, unsettled]
    rw [if_neg (by simp [idle]), if_neg (by simp [idle])]
    exact ⟨idle, rfl, rfl, rfl⟩

theorem State.HandsOver.congr {job : WriteJob} (h : s.HandsOver t job) (rst : u.rst = t.rst) (flags : u.rrp.flags = t.rrp.flags) :
    s.HandsOver u job where
  begins idle none n writes := (h.begins idle none n writes).congr rst
  full := rst ▸ flags ▸ h.full
  waits := rst ▸ h.waits
  joins := rst ▸ h.joins
  lost := rst ▸ flags ▸ h.lost
end

/-- Settles O37, by the state that the frame finds. -/
theorem runCloseReturnsToIdle : Obligations.RunCloseReturnsToIdle := by
  unfold Obligations.RunCloseReturnsToIdle
  intro s run takes follows current
  rw [State.exec_runClose_current takes current]
  refine ⟨fun ended => ?_, fun inRun => ⟨_, rfl, ?_⟩, fun state goesOn => ⟨_, rfl, ?_⟩⟩
  · have quiet : s.abortRun = s := State.abortRun_idle (by rcases ended with h | h <;> simp [State.unsettled, h, RunState.inPoints])
      (by rcases ended with h | h <;> simp [h]) (by rcases ended with h | h <;> simp [h])
    rw [State.closeRun, quiet, if_pos ended]
    refine State.finish_of_follows _ ?_
    have drives : (s.enter .idle).lampDrives = s.lampDrives := by
      rcases ended with h | h <;> simp only [State.lampDrives, State.enter_rsq, State.ownEntry, State.enter_sys, h] <;> rfl
    rw [State.LampsFollow, drives]
    exact follows
  · obtain ⟨-, verdict, -⟩ := State.abortRun_ends inRun
    obtain ⟨idle, keeps, rst, rrp⟩ := State.closeRun_ends inRun
    refine ⟨by simpa using idle, by simpa [keeps] using verdict, by simp, fun unsettled none asked => ?_⟩
    exact ((State.abortRun_handsOver unsettled none asked current).congr rst (by rw [rrp])).relamp
  · obtain ⟨rst, seu, -, -, -, -, -⟩ := State.abortStops_keeps (s := s)
    obtain ⟨runState, -⟩ := State.abortStops_rsq (s := s)
    have closes : s.abortRun.rsq.runState = .sealing ∧ s.abortRun.seu.claim = s.seu.claim ∧ s.abortRun.rst = s.rst := by
      cases first : s.seu.aborted with
      | true =>
        rw [State.abortRun_again state first]
        exact ⟨state, rfl, rfl⟩
      | false =>
        rw [State.abortRun_sealing state first, State.abortSeal_confirmed (by rw [seu]; exact goesOn.imp_right .inl)]
        simp [runState, state, seu, rst]
    obtain ⟨sealing, claim, store⟩ := closes
    rw [State.closeRun, if_neg (by simp [sealing]), if_pos sealing]
    simp [State.refuse, kindRunClose, sealing, claim, store]

end Sys2Proof.Machine
end


section
/-! PROOFS. RUN OPEN (R106, R107): malformed, ignored, taken, or judged behind what acts as RUN ABORT. -/

set_option Elab.async false

namespace Sys2Proof.Machine

section
variable {s t u : State} {f : RunOpenFields} {present : Bool}

theorem malformedOpen_iff :
    malformedOpen f = true ↔ f.s0 = 0 ∨ f.s1.toNat < f.s0.toNat ∨ 48 ≤ f.head.toNat ∨ 48 ≤ f.tail.toNat := by
  simp [malformedOpen, or_assoc]

/-- The station with the level of MPRES that came with the command. -/
def State.pinned (s : State) (present : Bool) : State := s.mapPins fun p => { p with mpres := present }

theorem State.pinned_self (h : s.pins.mpres = present) : s.pinned present = s := by
  subst h
  rfl

theorem atLeastOne_eq (n : Nat) : atLeastOne n = max 1 n := by
  simp only [atLeastOne]
  split <;> omega

theorem State.exec_runOpen_eq (takes : s.takesFrames = true) : exec (.runOpen f present) s = (s.takeRunOpen f present).finish := by
  rw [exec_runOpen, execRunOpen, s.taken_act _ takes]

theorem State.takeRunOpen_malformed (h : malformedOpen f = true) : s.takeRunOpen f present = (s.pinned present).stray :=
  if_pos h

theorem State.takeRunOpen_current (h : malformedOpen f = false) (current : s.rsq.run = some f.run) : s.takeRunOpen f present = s.pinned present := by
  simp [State.takeRunOpen, h, State.inRun, current, State.pinned]

theorem State.takeRunOpen_other (h : malformedOpen f = false) (other : s.rsq.run ≠ some f.run) :
    s.takeRunOpen f present = (s.pinned present).judgeOpen f present := by
  simp [State.takeRunOpen, h, State.inRun, other, State.pinned]

/-! ### Behind what acts as RUN ABORT (R106, R127) -/

theorem State.judgeOpen_takes (h : s.abortRun.rsq.runState.takesOpen = true) : s.judgeOpen f present = s.abortRun.openRun f present := if_pos h

theorem State.judgeOpen_sealing (h : s.abortRun.rsq.runState = .sealing) : s.judgeOpen f present = s.abortRun.refuse kindRunOpen .inProgress := by
  simp [State.judgeOpen, h, RunState.takesOpen]

theorem State.judgeOpen_idle (h : s.rsq.runState.takesOpen = true) : s.abortRun = s := by
  refine State.abortRun_idle ?_ ?_ ?_ <;> cases state : s.rsq.runState <;> simp_all [RunState.takesOpen, State.unsettled, RunState.inPoints]

theorem RunState.takesOpen_of_abort (h : s.rsq.runState.inPoints = true ∨ s.rsq.runState = .enrolling) :
    s.abortRun.rsq.runState.takesOpen = true := by
  rw [(State.abortRun_ends h).1]
  split <;> rfl

theorem State.takesFrames_of_state (takes : s.takesFrames = true) (sys : t.sys = s.sys) (state : t.rsq.runState.takesOpen = true) :
    t.takesFrames = true := by
  have alive := s.takesFrames_alive takes
  simp only [State.alive, Bool.and_eq_true, Bool.not_eq_true'] at alive
  cases isState : t.rsq.runState <;> simp_all [State.takesFrames, State.alive, RunState.takesOpen]

theorem State.abortRun_lit (h : s.rsq.runState.inPoints = true ∨ s.rsq.runState = .enrolling) : s.abortRun.LampsFollow := by
  cases unsettled : s.unsettled with
  | true =>
    rw [State.abortRun_unsettled unsettled]
    exact State.relamp_follows _
  | false =>
    obtain ⟨state, unsent⟩ := State.enrolling_of_settled h unsettled
    rw [State.abortRun_enrolling state unsent]
    exact State.relamp_follows _

/-! ### RUN OPEN taken (R107) -/

theorem State.openRun_leaves : (s.openRun f present).rsq.runState = .enrolling ∧ (s.openRun f present).rsq.run = some f.run ∧
    (s.openRun f present).seu.outcome = none ∧ (s.openRun f present).seu.claim = Claim.reset ∧ (s.openRun f present).rst = s.rst ∧
    (s.openRun f present).plt.head = f.head.toNat := by
  simp only [State.openRun, State.enrolSelf]
  split <;> simp [State.openBlocks, Rsq.openRun, Seu.openRun, Plt.openRun]

/-- With no entry queued, no RESULT is called for. -/
theorem State.testResult_empty (h : s.rrp.queue = []) : s.testResult = s := if_neg (by simp [State.resultCalled, h])

/-- The blocks set up, one by one (R1, R74, R107, R130, R139). -/
theorem State.openRun_blocks (queue : s.rrp.queue = []) : (s.openRun f present).plt = s.plt.openRun f ∧
    (s.openRun f present).seu = s.seu.openRun f ∧ (s.openRun f present).rrp = s.rrp.openRun f ∧ (s.openRun f present).pfe = s.pfe.openRun f ∧
    (s.openRun f present).pins = s.pins ∧ (s.openRun f present).gates = s.gates ∧ (s.openRun f present).ecu = s.ecu ∧
    (s.openRun f present).rsq = { s.rsq.openRun f with roster := (s.openRun f present).rsq.roster } := by
  rw [State.openRun, State.testResult_empty]
  · split
    · simp [State.enrolSelf, State.openBlocks, State.markOwn]
      rfl
    · simp [State.openBlocks, Rsq.openRun]
  · split <;> simp [State.enrolSelf, State.openBlocks, Rrp.openRun, queue]

theorem State.openRun_enrols (queue : s.rrp.queue = []) (low : 1 ≤ s.sys.address) (room : s.bli.coord.length < 6) (none : s.bli.waiting = [])
    (enrols : present = true ∧ (s.descriptor f.head.toNat).kind ≠ .none) :
    (s.openRun f present).bli.coord = s.bli.coord ++ [.enrol f.run] ∧
    (s.openRun f present).rsq.roster = (List.replicate 60 RosterEntry.reset).set (s.sys.address - 1) ⟨.enrolled, Option.none, Option.none, 0⟩ := by
  rw [State.openRun, State.testResult_empty]
  · rw [if_pos enrols]
    have queued := State.offerCoord_queued (s := (s.openBlocks f).markOwn .enrolled) (by simp [State.openBlocks, Rsq.openRun])
      (by simpa [State.openBlocks] using room) (by simpa [State.openBlocks] using none) (.enrol f.run)
    refine ⟨by simpa [State.enrolSelf, State.openBlocks] using queued, ?_⟩
    have marked : (((s.openBlocks f).markOwn .enrolled).offerCoord (.enrol f.run)).rsq.roster =
        rosterSet (List.replicate 60 RosterEntry.reset) s.sys.address
          { rosterAt (List.replicate 60 RosterEntry.reset) s.sys.address with status := .enrolled } := by
      simp only [State.offerCoord_frame]
      rfl
    rw [State.enrolSelf, marked, rosterSet_eq_set _ _ low, rosterAt_replicate_reset]
    rfl
  · split <;> simp [State.enrolSelf, State.openBlocks, Rrp.openRun, queue]

theorem State.openRun_stays (queue : s.rrp.queue = []) (stays : ¬ (present = true ∧ (s.descriptor f.head.toNat).kind ≠ .none)) :
    (s.openRun f present).bli.coord = s.bli.coord ∧ (s.openRun f present).rsq.roster = List.replicate 60 RosterEntry.reset := by
  rw [State.openRun, State.testResult_empty]
  · rw [if_neg stays]
    simp [State.openBlocks, Rsq.openRun]
  · split <;> simp [State.enrolSelf, State.openBlocks, Rrp.openRun, queue]
end

/-- Settles O31, by the form of the frame and the state that it finds. -/
theorem runOpenSetsUpEveryBlock : Obligations.RunOpenSetsUpEveryBlock := by
  unfold Obligations.RunOpenSetsUpEveryBlock
  intro s f present takes follows malformed enrols pinned c
  have wellFormed (h : ¬ malformed) : malformedOpen f = false := Bool.eq_false_iff.2 (mt malformedOpen_iff.1 h)
  have exec : exec c s = (s.takeRunOpen f present).finish := State.exec_runOpen_eq takes
  have other (h : ¬ malformed) (run : s.rsq.run ≠ some f.run) : Machine.exec c s = (pinned.judgeOpen f present).finish := by
    rw [exec, State.takeRunOpen_other (wellFormed h) run]
    rfl
  have opened (h : ¬ malformed) (run : s.rsq.run ≠ some f.run) (finished : pinned.abortRun.rsq.runState = .finished) :
      Machine.exec c s = (pinned.abortRun.openRun f present).finish := by
    rw [other h run, State.judgeOpen_takes (by rw [finished]; rfl)]
  obtain ⟨rst, seu, -, plt, -, -, -⟩ := State.abortStops_keeps (s := pinned)
  obtain ⟨runState, verdict, isRun, -⟩ := State.abortStops_rsq (s := pinned)
  have sealing (state : s.rsq.runState = .sealing) : pinned.abortStops.rsq.runState = .sealing := runState.trans state
  refine ⟨fun h => ?_, fun h ignored => ?_, fun h run => ⟨fun r isRun inRun => ?_, fun state again => ?_, fun state first => ⟨fun none asked => ?_,
    fun waits => ?_, fun goesOn => ?_⟩⟩, fun h run idle queue sized low high room none => ?_⟩
  · rw [exec, State.takeRunOpen_malformed (malformedOpen_iff.2 h)]
    exact State.stray_finish (s := s.pinned present) follows
  · by_cases run : s.rsq.run = some f.run
    · rw [exec, State.takeRunOpen_current (wellFormed h) run]
      exact State.finish_of_follows (s.pinned present) follows
    · have state := ignored.resolve_left run
      have quiet : pinned.abortRun = pinned := State.abortRun_idle (by rcases state with h | h <;> simp [State.unsettled, pinned, h, RunState.inPoints])
        (by rcases state with h | h <;> simp [pinned, h]) (by rcases state with h | h <;> simp [pinned, h])
      have ignores : pinned.judgeOpen f present = pinned := by
        rw [State.judgeOpen, quiet]
        rcases state with h | h <;> simp [pinned, h, RunState.takesOpen]
      rw [other h run, ignores]
      exact State.finish_of_follows pinned follows
  · have opens := RunState.takesOpen_of_abort (s := pinned) inRun
    have takes' : pinned.takesFrames = true := takes
    have lit := State.abortRun_lit (s := pinned) inRun
    refine ⟨pinned.abortRun, ?_, opens, ?_⟩
    · rw [State.exec_runAbort_current takes' isRun]
      exact State.finish_of_follows _ lit
    · have runs : pinned.abortRun.takesFrames = true := State.takesFrames_of_state takes' (by simp) opens
      have same : pinned.abortRun.pinned present = pinned.abortRun := State.pinned_self (by simp [pinned])
      rw [other h run, State.judgeOpen_takes opens, State.exec_runOpen_eq runs, State.takeRunOpen_other (wellFormed h) (by simpa [pinned] using run), same,
        State.judgeOpen_takes (by rw [State.judgeOpen_idle opens]; exact opens), State.judgeOpen_idle opens]
  · have stays : pinned.judgeOpen f present = pinned.refuse kindRunOpen .inProgress := by
      have quiet := State.abortRun_again (s := pinned) state again
      rw [State.judgeOpen_sealing (by rw [quiet]; exact state), quiet]
    rw [other h run, stays]
    exact State.finish_of_follows _ follows
  · have quiet := State.abortRun_sealing (s := pinned) state first
    obtain ⟨-, store⟩ := State.abortSeal_unreserved (v := pinned.abortStops) (run := pinned.runNumber) (by rw [seu]; exact none) (by rw [rst]; exact asked)
    have finished : pinned.abortRun.rsq.runState = .finished := by
      rw [quiet]
      simp [State.abortSeal, seu, none, rst, asked, State.giveSeal_rsq, sealing state, show pinned.seu = s.seu from rfl, show pinned.rst = s.rst from rfl]
    obtain ⟨state', run', outcome, claim, keeps, head⟩ := State.openRun_leaves (s := pinned.abortRun) (f := f) (present := present)
    rw [opened h run finished]
    refine ⟨_, rfl, ?_⟩
    simp only [State.relamp_frame, state', run', outcome, claim, keeps, head]
    refine ⟨trivial, trivial, trivial, rfl, ?_, trivial⟩
    rw [quiet, State.mapSeu_rst, store, rst]
    rfl
  · have ends := State.abortSeal_claimed (v := pinned.abortStops) (run := pinned.runNumber) (by rw [seu]; exact waits)
    obtain ⟨-, rsq⟩ := State.endSealing_given (s := pinned.abortStops.withdrawFrames (isSealOf pinned.runNumber)) (o := .aborted)
    rw [State.sealGiven_rsq] at rsq
    have finished : pinned.abortRun.rsq.runState = .finished := by
      rw [State.abortRun_sealing (s := pinned) state first, ends, State.mapSeu_rsq, rsq]
      simp [sealing state]
    obtain ⟨state', run', outcome, claim, -, head⟩ := State.openRun_leaves (s := pinned.abortRun) (f := f) (present := present)
    rw [opened h run finished]
    refine ⟨_, rfl, ?_⟩
    simp only [State.relamp_frame, state', run', outcome, claim, head]
    exact ⟨trivial, trivial, trivial, rfl, trivial⟩
  · have stays : pinned.abortRun = (pinned.abortStops.withdrawFrames (isSealOf pinned.runNumber)).mapSeu fun u => { u with aborted := true } := by
      rw [State.abortRun_sealing (s := pinned) state first, State.abortSeal_confirmed (by rw [seu]; exact goesOn.imp_right .inl)]
    have refuses : pinned.judgeOpen f present = pinned.abortRun.refuse kindRunOpen .inProgress :=
      State.judgeOpen_sealing (by rw [stays]; simpa using sealing state)
    rw [other h run, refuses, stays]
    refine ⟨_, rfl, ?_⟩
    simp [State.refuse, kindRunOpen, sealing state, seu, rst, verdict, isRun, plt, pinned]
  · have opens : pinned.judgeOpen f present = pinned.openRun f present := by
      have quiet := State.judgeOpen_idle (s := pinned) idle
      rw [State.judgeOpen_takes (by rw [quiet]; exact idle), quiet]
    rw [other h run, opens]
    obtain ⟨plt, seu, rrp, pfe, pins, gates, ecu, rsq⟩ := State.openRun_blocks (s := pinned) (f := f) (present := present) queue
    obtain ⟨-, -, -, -, rst, -⟩ := State.openRun_leaves (s := pinned) (f := f) (present := present)
    refine ⟨_, rfl, ?_⟩
    simp only [State.relamp_frame, rst]
    refine ⟨?_, fun enrol => ?_, fun stays => ?_, ?_, ?_, ?_, ?_, ?_, ?_, ?_, ?_, ?_, ?_, ?_, ?_, ?_, pins, rfl, gates, ecu⟩
    · refine rsq.trans ?_
      simp only [Rsq.openRun, atLeastOne_eq]
      rfl
    · exact State.openRun_enrols (s := pinned) queue low room none enrol
    · exact State.openRun_stays (s := pinned) queue stays
    · rw [plt, Plt.openRun, atLeastOne_eq]
      rfl
    · rw [seu]; rfl
    · rw [seu]; rfl
    · rw [seu]; rfl
    · rw [seu]; exact atLeastOne_eq _
    · rw [seu]; rfl
    · rw [seu]; rfl
    · rw [seu]; rfl
    · rw [seu]; rfl
    · rw [seu]; rfl
    · rw [rrp, Rrp.openRun, atLeastOne_eq]
      rfl
    · simp only [State.meter, State.relamp_frame, pfe]
      rfl
    · simp only [State.meter, State.relamp_frame, pfe]
      rfl

end Sys2Proof.Machine
end


section
/-! PROOFS. PLAN PUT: the form of its payload, and what it writes (R70 to R72, R102). -/

set_option Elab.async false

namespace Sys2Proof.Machine

/-! ### Fields of a payload laid out one behind the other -/

theorem field_skip {n v off len : Nat} {p : List Byte} (h : n ≤ off) : field (leBytes n v ++ p) off len = field p (off - n) len := by
  rw [field_past _ _ _ _ (by simpa using h), leBytes_length]

theorem field_take {n v : Nat} {p : List Byte} : field (leBytes n v ++ p) 0 n = v % 256 ^ n := field_head n v p

theorem signedField_skip {n v off len : Nat} {p : List Byte} (h : n ≤ off) :
    signedField (leBytes n v ++ p) off len = signedField p (off - n) len := by
  simp only [signedField, field_skip h]

/-- A signed field of four bytes brings the number that was put into it. -/
theorem signedField_take {v : Int} {p : List Byte} (low : -(2 ^ 31) ≤ v) (high : v < 2 ^ 31) :
    signedField (leBytes 4 (v % (2 ^ (8 * 4) : Nat)).toNat ++ p) 0 4 = v := by
  simp only [signedField, field_head]
  split <;> omega

theorem flags_byte (flags : Byte) : [flags] = leBytes 1 flags.toNat := by simp [leBytes]

theorem flags_testBit (flags : Byte) : (flags.toNat % 256 ^ 1).testBit 0 = flags.getLsbD 0 := by
  rw [show (256 ^ 1 : Nat) = 2 ^ 8 from rfl, Nat.mod_eq_of_lt flags.isLt]
  rfl

theorem field_behind {h p : List Byte} {n off len : Nat} (length : h.length = n) (le : n ≤ off) : field (h ++ p) off len = field p (off - n) len := by
  rw [field_past _ _ _ _ (length ▸ le), length]

theorem signedField_behind {h p : List Byte} {n off len : Nat} (length : h.length = n) (le : n ≤ off) :
    signedField (h ++ p) off len = signedField p (off - n) len := by
  simp only [signedField, field_behind length le]

/-! ### The parts of a descriptor, as they are laid out and read (R102) -/

/-- The bytes of a channel's input. -/
def ChanInput.wire (c : ChanInput) : List Byte := leBytes 1 c.input ++ leBytes 1 c.prescaler

/-- The bytes of a channel's gate fields. -/
def GateChan.wire (g : GateChan) : List Byte := leBytes 2 g.nm ++ leBytes 4 g.k

def PointFields.wire (f : PointFields) : List Byte :=
  leBytes 1 f.mask.code ++ (leBytes 1 f.settle ++ (leBytes 1 f.window ++ (leBytes 2 f.tolerance ++ (leBytes 2 f.barrier ++
    f.inputs.wire ChanInput.wire))))

def AccuracyFields.wire (a : AccuracyFields) : List Byte :=
  leBytes 2 a.tg ++ (leBytes 1 a.repeats ++ (leBytes 1 a.discard ++ (leSigned 4 a.lower ++ (leSigned 4 a.upper ++ (leBytes 4 a.spread ++
    a.chans.wire GateChan.wire)))))

def DwellFields.wire (w : DwellFields) : List Byte := leBytes 2 w.length ++ leBytes 1 w.number

def readPoint (m : Mask) (p : List Byte) : PointFields :=
  { mask := m, settle := field p 5 1, window := field p 6 1, tolerance := field p 7 2, barrier := field p 9 2
    inputs := perChannel m fun j => ⟨field p (11 + 2 * j) 1, field p (12 + 2 * j) 1⟩ }

/-- The accuracy fields of a payload, which stand from `base` on. -/
def readAccuracy (m : Mask) (base : Nat) (p : List Byte) : AccuracyFields :=
  { tg := field p base 2, repeats := field p (base + 2) 1, discard := field p (base + 3) 1
    lower := signedField p (base + 4) 4, upper := signedField p (base + 8) 4, spread := field p (base + 12) 4
    chans := perChannel m fun j => ⟨field p (base + 16 + 6 * j) 2, field p (base + 18 + 6 * j) 4⟩ }

def readDwell (base : Nat) (p : List Byte) : DwellFields := ⟨field p base 2, field p (base + 2) 1⟩

theorem readDescriptor_parts (k : Kind) (m : Mask) (p : List Byte) : readDescriptor k m p =
    { kind := k, next := field p 2 1, last := (field p 3 1).testBit 0, completed := false, completion := none
      point := if k = .none then none else some (readPoint m p)
      accuracy := if k = .accuracy then some (readAccuracy m (11 + 2 * m.count) p) else none
      dwell := if k = .creep ∨ k = .start then some (readDwell (11 + 2 * m.count) p) else none } := rfl

/-- A mask is what the present fields of a channel pair say. -/
theorem Mask.of_present {α : Type} {m : Mask} {p : PerChan (Option α)} (h : ∀ ch, (p.get ch).isSome = m.has ch) : m = ⟨p.a.isSome, p.b.isSome⟩ := by
  obtain ⟨a, b⟩ := m
  exact congrArg₂ Mask.mk (h .a).symm (h .b).symm

/-- The fields of a channel pair are read from where they stand, A first. -/
theorem perChannel_wire {α : Type} {p : PerChan (Option α)} {bytes : α → List Byte} {n : Nat} (read : List Byte → Nat → α)
    (length : ∀ x, (bytes x).length = n) (reads : ∀ ch x, p.get ch = some x → ∀ h r, read (h ++ (bytes x ++ r)) h.length = x) (h r : List Byte) :
    perChannel ⟨p.a.isSome, p.b.isSome⟩ (fun j => read (h ++ (p.wire bytes ++ r)) (h.length + n * j)) = p := by
  obtain ⟨a, b⟩ := p
  have first := reads .a
  have second := reads .b
  simp only [PerChan.get] at first second
  cases a with
  | none =>
    cases b with
    | none => rfl
    | some y => simp [perChannel, PerChan.wire, second y rfl h r]
  | some x =>
    cases b with
    | none => simp [perChannel, PerChan.wire, first x rfl h r]
    | some y =>
      have behind := second y rfl (h ++ bytes x) r
      simp only [List.append_assoc, List.length_append, length] at behind
      simp [perChannel, PerChan.wire, first x rfl h, behind]

section
variable {f : PointFields} {a : AccuracyFields} {w : DwellFields} {h r : List Byte}

theorem PerChan.wire_length {α : Type} {p : PerChan (Option α)} {bytes : α → List Byte} {n : Nat} (length : ∀ x, (bytes x).length = n) :
    (p.wire bytes).length = n * Mask.count ⟨p.a.isSome, p.b.isSome⟩ := by
  obtain ⟨a, b⟩ := p
  cases a <;> cases b <;> simp [PerChan.wire, Mask.count, length, Nat.mul_succ]

theorem PointFields.wire_length (inputs : ∀ ch, (f.inputs.get ch).isSome = f.mask.has ch) : f.wire.length = 7 + 2 * f.mask.count := by
  have channels := PerChan.wire_length (p := f.inputs) (bytes := ChanInput.wire) (n := 2) fun x => by simp [ChanInput.wire]
  rw [← Mask.of_present inputs] at channels
  simp only [PointFields.wire, List.length_append, leBytes_length, channels]
  omega

/-- The fields of every kind but NONE are read as they were laid out. -/
theorem readPoint_wire (head : h.length = 4) (settle : f.settle < 2 ^ 8) (window : f.window < 2 ^ 8) (tolerance : f.tolerance < 2 ^ 16)
    (barrier : f.barrier < 2 ^ 16)
    (inputs : ∀ ch, (f.inputs.get ch).isSome = f.mask.has ch ∧ ∀ i, f.inputs.get ch = some i → i.input < 2 ^ 8 ∧ i.prescaler < 2 ^ 8) :
    readPoint f.mask (h ++ (f.wire ++ r)) = f := by
  have channels := perChannel_wire (p := f.inputs) (bytes := ChanInput.wire) (n := 2) (fun q off => ⟨field q off 1, field q (off + 1) 1⟩) (fun c => by simp [ChanInput.wire])
    (fun ch c isInput h r => by
      obtain ⟨input, prescaler⟩ := (inputs ch).2 c isInput
      refine congrArg₂ ChanInput.mk ?_ ?_
      · rw [ChanInput.wire, List.append_assoc, field_at]
        exact Nat.mod_eq_of_lt input
      · rw [field_past _ _ _ _ (Nat.le_add_right ..), Nat.add_sub_cancel_left, ChanInput.wire, List.append_assoc, field_skip le_rfl, Nat.sub_self, field_take]
        exact Nat.mod_eq_of_lt prescaler)
    (h ++ (leBytes 1 f.mask.code ++ (leBytes 1 f.settle ++ (leBytes 1 f.window ++ (leBytes 2 f.tolerance ++ leBytes 2 f.barrier))))) r
  rw [← Mask.of_present fun ch => (inputs ch).1] at channels
  simp only [List.append_assoc, List.length_append, leBytes_length, head, Nat.reduceAdd] at channels
  obtain ⟨mask, S, W, T, B, inputPair⟩ := f
  simp only at settle window tolerance barrier channels
  have s1 : S % 256 ^ 1 = S := Nat.mod_eq_of_lt settle
  have w1 : W % 256 ^ 1 = W := Nat.mod_eq_of_lt window
  have t2 : T % 256 ^ 2 = T := Nat.mod_eq_of_lt tolerance
  have b2 : B % 256 ^ 2 = B := Nat.mod_eq_of_lt barrier
  have second (j : Nat) : 12 + 2 * j = 11 + 2 * j + 1 := by omega
  simp only [readPoint, second, PointFields.wire, List.append_assoc, channels]
  simp only [field_behind head, Nat.reduceLeDiff, Nat.reduceSub, field_skip, field_take, s1, w1, t2, b2]

/-- The fields of kind ACCURACY are read as they were laid out. -/
theorem readAccuracy_wire {m : Mask} {base : Nat} (head : h.length = base) (tg : a.tg < 2 ^ 16) (repeats : a.repeats < 2 ^ 8) (discard : a.discard < 2 ^ 8)
    (lower : -(2 ^ 31) ≤ a.lower ∧ a.lower < 2 ^ 31) (upper : -(2 ^ 31) ≤ a.upper ∧ a.upper < 2 ^ 31) (spread : a.spread < 2 ^ 32)
    (chans : ∀ ch, (a.chans.get ch).isSome = m.has ch ∧ ∀ g, a.chans.get ch = some g → g.nm < 2 ^ 16 ∧ g.k < 2 ^ 32) :
    readAccuracy m base (h ++ a.wire) = a := by
  have channels := perChannel_wire (p := a.chans) (bytes := GateChan.wire) (n := 6) (fun q off => ⟨field q off 2, field q (off + 2) 4⟩)
    (fun g => by simp [GateChan.wire])
    (fun ch g isChan h r => by
      obtain ⟨nm, k⟩ := (chans ch).2 g isChan
      refine congrArg₂ GateChan.mk ?_ ?_
      · rw [GateChan.wire, List.append_assoc, field_at]
        exact Nat.mod_eq_of_lt nm
      · rw [field_past _ _ _ _ (Nat.le_add_right ..), Nat.add_sub_cancel_left, GateChan.wire, List.append_assoc, field_skip le_rfl, Nat.sub_self,
          field_take]
        exact Nat.mod_eq_of_lt k)
    (h ++ (leBytes 2 a.tg ++ (leBytes 1 a.repeats ++ (leBytes 1 a.discard ++ (leSigned 4 a.lower ++ (leSigned 4 a.upper ++ leBytes 4 a.spread)))))) []
  rw [← Mask.of_present fun ch => (chans ch).1] at channels
  simp only [leSigned, List.append_assoc, List.append_nil, List.length_append, leBytes_length, head, Nat.reduceAdd] at channels
  obtain ⟨T, R, D, L, U, S, pair⟩ := a
  simp only at tg repeats discard lower upper spread channels
  have t2 : T % 256 ^ 2 = T := Nat.mod_eq_of_lt tg
  have r1 : R % 256 ^ 1 = R := Nat.mod_eq_of_lt repeats
  have d1 : D % 256 ^ 1 = D := Nat.mod_eq_of_lt discard
  have s4 : S % 256 ^ 4 = S := Nat.mod_eq_of_lt spread
  have second (j : Nat) : base + 18 + 6 * j = base + 16 + 6 * j + 2 := by omega
  simp only [readAccuracy, second, AccuracyFields.wire, leSigned, channels]
  simp only [field_behind head, signedField_behind head, Nat.le_add_right, Nat.le_refl, Nat.add_sub_cancel_left, Nat.sub_self, Nat.reduceLeDiff,
    Nat.reduceSub, field_skip, signedField_skip, field_take, signedField_take lower.1 lower.2, signedField_take upper.1 upper.2, t2, r1, d1, s4]

/-- The fields of kinds CREEP and START are read as they were laid out. -/
theorem readDwell_wire {base : Nat} (head : h.length = base) (length : w.length < 2 ^ 16) (number : w.number < 2 ^ 8) :
    readDwell base (h ++ w.wire) = w := by
  subst head
  refine congrArg₂ DwellFields.mk ?_ ?_
  · rw [DwellFields.wire, field_at]
    exact Nat.mod_eq_of_lt length
  · rw [field_past _ _ _ _ (Nat.le_add_right ..), Nat.add_sub_cancel_left, DwellFields.wire, field_skip le_rfl, Nat.sub_self, field_whole]
    exact Nat.mod_eq_of_lt number
end

/-! ### What a PLAN PUT reads (R70) -/

theorem readPlanPut_empty {p : List Byte} (index : field p 0 1 < 48) (kind : field p 1 1 = 0) (length : p.length = 4) :
    readPlanPut p = some (field p 0 1, readDescriptor .none ⟨false, false⟩ p) := by
  simp [readPlanPut, kind, Kind.ofCode, index, length]

theorem readPlanPut_point {p : List Byte} {k : Kind} {m : Mask} (index : field p 0 1 < 48) (kind : Kind.ofCode (field p 1 1) = some k)
    (points : k ≠ .none) (mask : Mask.ofCode (field p 4 1) = some m) (length : p.length = planPutLength k m.count) :
    readPlanPut p = some (field p 0 1, readDescriptor k m p) := by
  have long : 14 ≤ p.length := by
    rw [length]
    cases k with
    | none => exact absurd rfl points
    | accuracy | creep | start => simp only [planPutLength]; omega
  have four : ¬ p.length < 4 := by omega
  have five : ¬ p.length < 5 := by omega
  cases k with
  | none => exact absurd rfl points
  | accuracy => simp only [readPlanPut, four, five, if_false, kind, mask, if_pos (And.intro index length)]
  | creep => simp only [readPlanPut, four, five, if_false, kind, mask, if_pos (And.intro index length)]
  | start => simp only [readPlanPut, four, five, if_false, kind, mask, if_pos (And.intro index length)]

/-! ### A descriptor comes through its payload (R102) -/

def Kind.wireCode : Kind → Nat
  | .none => 0
  | .accuracy => 1
  | .creep => 2
  | .start => 3

theorem Kind.ofCode_wireCode (k : Kind) : Kind.ofCode k.wireCode = some k := by cases k <;> rfl

/-- The first four bytes of a PLAN PUT payload. -/
def Descriptor.headWire (d : Descriptor) (i : Nat) (flags : Byte) : List Byte :=
  leBytes 1 i ++ (leBytes 1 d.kind.wireCode ++ (leBytes 1 d.next ++ leBytes 1 flags.toNat))

section
variable {d : Descriptor} {i : Nat} {flags : Byte} {r : List Byte}

theorem Descriptor.headWire_length : (d.headWire i flags).length = 4 := by simp [Descriptor.headWire]

theorem Descriptor.wire_eq : d.wire i flags = d.headWire i flags ++ ((d.point.elim [] PointFields.wire) ++
    ((d.accuracy.elim [] AccuracyFields.wire) ++ (d.dwell.elim [] DwellFields.wire))) := by
  obtain ⟨k, next, last, completed, completion, point, accuracy, dwell⟩ := d
  simp only [Descriptor.wire, Descriptor.headWire, flags_byte, List.append_assoc]
  cases k <;> cases point <;> cases accuracy <;> cases dwell <;> simp only [Option.elim, PointFields.wire, AccuracyFields.wire, DwellFields.wire,
    List.append_assoc] <;> rfl

theorem Descriptor.field_index (index : i < 48) : field (d.headWire i flags ++ r) 0 1 = i := by
  simp only [Descriptor.headWire, List.append_assoc, field_take]
  omega

theorem Descriptor.field_kind : field (d.headWire i flags ++ r) 1 1 = d.kind.wireCode := by
  simp only [Descriptor.headWire, List.append_assoc, field_skip, field_take, Nat.le_refl, Nat.sub_self]
  cases d.kind <;> rfl

theorem Descriptor.field_next (next : d.next < 2 ^ 8) : field (d.headWire i flags ++ r) 2 1 = d.next := by
  simp only [Descriptor.headWire, List.append_assoc, field_skip, field_take, Nat.reduceLeDiff, Nat.reduceSub]
  omega

theorem Descriptor.field_flags : (field (d.headWire i flags ++ r) 3 1).testBit 0 = flags.getLsbD 0 := by
  simp only [Descriptor.headWire, List.append_assoc, field_skip, field_take, Nat.reduceLeDiff, Nat.reduceSub, flags_testBit]

theorem Descriptor.field_mask {f : PointFields} : field (d.headWire i flags ++ (f.wire ++ r)) 4 1 = f.mask.code := by
  rw [field_behind Descriptor.headWire_length le_rfl, PointFields.wire, List.append_assoc, Nat.sub_self, field_take]
  exact Nat.mod_eq_of_lt f.mask.code_lt
end

/-- The bytes behind the fields of a point: its accuracy fields, or its dwell fields. -/
def Descriptor.tailWire (d : Descriptor) : List Byte := d.accuracy.elim [] AccuracyFields.wire ++ d.dwell.elim [] DwellFields.wire

theorem AccuracyFields.wire_length {a : AccuracyFields} {m : Mask} (chans : ∀ ch, (a.chans.get ch).isSome = m.has ch) :
    a.wire.length = 16 + 6 * m.count := by
  have channels := PerChan.wire_length (p := a.chans) (bytes := GateChan.wire) (n := 6) fun x => by simp [GateChan.wire]
  rw [← Mask.of_present chans] at channels
  simp only [AccuracyFields.wire, leSigned, List.length_append, leBytes_length, channels]
  omega

theorem DwellFields.wire_length {w : DwellFields} : w.wire.length = 3 := by simp [DwellFields.wire]

section
variable {d : Descriptor} {f : PointFields} {h : List Byte}

/-- The bytes behind the fields of a point are as many as its kind and mask call for. -/
theorem Descriptor.Carried.tailWire_length (carried : d.Carried) (point : d.point = some f) :
    11 + 2 * f.mask.count + d.tailWire.length = planPutLength d.kind f.mask.count := by
  obtain ⟨points, measures, dwells⟩ := carried.fields
  have kind := points.1 (point ▸ rfl)
  rw [Descriptor.tailWire]
  by_cases accuracy : d.kind = .accuracy
  · obtain ⟨a, isAccuracy⟩ := Option.isSome_iff_exists.1 (measures.2 accuracy)
    have noDwell : d.dwell = none := by simpa [accuracy] using dwells
    obtain ⟨-, -, -, -, -, -, -, -, chans⟩ := carried.accuracy f a point isAccuracy
    simp only [isAccuracy, noDwell, Option.elim, List.append_nil, AccuracyFields.wire_length fun ch => (chans ch).1, accuracy, planPutLength]
    omega
  · have dwelling : d.kind = .creep ∨ d.kind = .start := by revert kind accuracy; cases d.kind <;> simp
    obtain ⟨w, isDwell⟩ := Option.isSome_iff_exists.1 (dwells.2 dwelling)
    have noAccuracy : d.accuracy = none := by simpa [accuracy] using measures
    rcases dwelling with kind | kind <;>
    · simp only [isDwell, noAccuracy, Option.elim, List.nil_append, DwellFields.wire_length, kind, planPutLength]
      omega

/-- Behind the fields of a point its accuracy fields are read as they were laid out. -/
theorem Descriptor.Carried.accuracy_read (carried : d.Carried) (point : d.point = some f) (head : h.length = 11 + 2 * f.mask.count) :
    (if d.kind = .accuracy then some (readAccuracy f.mask (11 + 2 * f.mask.count) (h ++ d.tailWire)) else none) = d.accuracy := by
  obtain ⟨points, measures, dwells⟩ := carried.fields
  by_cases accuracy : d.kind = .accuracy
  · obtain ⟨a, isAccuracy⟩ := Option.isSome_iff_exists.1 (measures.2 accuracy)
    have noDwell : d.dwell = none := by simpa [accuracy] using dwells
    obtain ⟨tg, repeats, discard, lower, lower', upper, upper', spread, chans⟩ := carried.accuracy f a point isAccuracy
    simp only [accuracy, if_true, Descriptor.tailWire, isAccuracy, noDwell, Option.elim, List.append_nil,
      readAccuracy_wire head tg repeats discard ⟨lower, lower'⟩ ⟨upper, upper'⟩ spread chans]
  · rw [if_neg accuracy]
    exact (by simpa [accuracy] using measures : d.accuracy = none).symm

theorem Descriptor.Carried.dwell_read (carried : d.Carried) (head : h.length = 11 + 2 * f.mask.count) :
    (if d.kind = .creep ∨ d.kind = .start then some (readDwell (11 + 2 * f.mask.count) (h ++ d.tailWire)) else none) = d.dwell := by
  obtain ⟨points, measures, dwells⟩ := carried.fields
  by_cases dwelling : d.kind = .creep ∨ d.kind = .start
  · obtain ⟨w, isDwell⟩ := Option.isSome_iff_exists.1 (dwells.2 dwelling)
    have noAccuracy : d.accuracy = none := by rcases dwelling with kind | kind <;> simpa [kind] using measures
    obtain ⟨length, number⟩ := carried.dwell w isDwell
    simp only [dwelling, if_true, Descriptor.tailWire, isDwell, noAccuracy, Option.elim, List.nil_append, readDwell_wire head length number]
  · rw [if_neg dwelling]
    exact (by simpa [dwelling] using dwells : d.dwell = none).symm
end

/-- What a PLAN PUT carries is what is read of it. -/
theorem readPlanPut_wire {d : Descriptor} {i : Nat} {flags : Byte} (index : i < 48) (carried : d.Carried) (last : flags.getLsbD 0 = d.last) :
    readPlanPut (d.wire i flags) = some (i, d) := by
  obtain ⟨completed, completion, next⟩ := carried.fresh
  obtain ⟨points, measures, dwells⟩ := carried.fields
  rw [Descriptor.wire_eq]
  by_cases kind : d.kind = .none
  · have point : d.point = none := by simpa [kind] using points
    have accuracy : d.accuracy = none := by simpa [kind] using measures
    have dwell : d.dwell = none := by simpa [kind] using dwells
    rw [point, accuracy, dwell, Option.elim, Option.elim, Option.elim, readPlanPut_empty (by rw [Descriptor.field_index index]; exact index)
      (by rw [Descriptor.field_kind, kind]; rfl) (by simp [Descriptor.headWire_length]), readDescriptor_parts, Descriptor.field_index index,
      Descriptor.field_next next, Descriptor.field_flags, last, ← kind, ← completed, ← completion]
    obtain ⟨k, n, l, c, v, P, A, W⟩ := d
    simp only at kind point accuracy dwell
    simp [kind, point, accuracy, dwell]
  · obtain ⟨f, point⟩ := Option.isSome_iff_exists.1 (points.2 kind)
    obtain ⟨mask, settle, window, tolerance, barrier, inputs⟩ := carried.point f point
    have head : (d.headWire i flags ++ f.wire).length = 11 + 2 * f.mask.count := by
      rw [List.length_append, Descriptor.headWire_length, PointFields.wire_length fun ch => (inputs ch).1]
      omega
    have length : (d.headWire i flags ++ (f.wire ++ d.tailWire)).length = planPutLength d.kind f.mask.count := by
      rw [← List.append_assoc, List.length_append, head, carried.tailWire_length point]
    have accuracy := carried.accuracy_read point head
    have dwell := carried.dwell_read (f := f) head
    rw [List.append_assoc] at accuracy dwell
    rw [point, Option.elim, ← Descriptor.tailWire, readPlanPut_point (by rw [Descriptor.field_index index]; exact index)
      (by rw [Descriptor.field_kind, Kind.ofCode_wireCode]) kind (by rw [Descriptor.field_mask, Mask.ofCode_code mask]) length,
      readDescriptor_parts, Descriptor.field_index index, Descriptor.field_next next, Descriptor.field_flags, last, accuracy, dwell, if_neg kind,
      readPoint_wire Descriptor.headWire_length settle window tolerance barrier inputs, ← point, ← completed, ← completion]

/-- A PLAN PUT has the wrong form by its index, its kind code, its mask code or its length (R70). -/
theorem readPlanPut_eq_none_iff (p : List Byte) :
    readPlanPut p = none ↔ 48 ≤ (p.getD 0 0).toNat ∨ 3 < (p.getD 1 0).toNat ∨ ((p.getD 1 0).toNat = 0 ∧ p.length ≠ 4) ∨
      ((p.getD 1 0).toNat ≠ 0 ∧ ((p.getD 4 0).toNat = 0 ∨ 3 < (p.getD 4 0).toNat ∨ p.length ≠
        if (p.getD 1 0).toNat = 1 then (if (p.getD 4 0).toNat = 3 then 43 else 35) else if (p.getD 4 0).toNat = 3 then 18 else 16)) := by
  simp only [readPlanPut, field_byte]
  generalize (p.getD 0 0).toNat = index
  generalize (p.getD 1 0).toNat = kind
  generalize (p.getD 4 0).toNat = mask
  match kind with
  | 0 => simp [Kind.ofCode]; omega
  | 1 | 2 | 3 =>
    match mask with
    | 0 => simp [Kind.ofCode, Mask.ofCode]
    | 1 | 2 | 3 => by_cases short : p.length < 5 <;> simp [Kind.ofCode, Mask.ofCode, Mask.count, planPutLength, short] <;> omega
    | n + 4 => simp [Kind.ofCode, Mask.ofCode]
  | n + 4 => simp [Kind.ofCode]

/-- What a PLAN PUT of the right form names: an index of the table, and a descriptor as its fields give it (R70). -/
theorem readPlanPut_some {p : List Byte} {i : Nat} {d : Descriptor} (h : readPlanPut p = some (i, d)) : i < 48 ∧ ∃ k m, d = readDescriptor k m p := by
  rw [readPlanPut] at h
  split at h
  · cases h
  · split at h
    · cases h
    · split at h
      · obtain ⟨rfl, rfl⟩ := by simpa using h
        rename_i form
        exact ⟨form.1, _, _, rfl⟩
      · cases h
    · split at h
      · cases h
      · split at h
        · obtain ⟨rfl, rfl⟩ := by simpa using h
          rename_i form
          exact ⟨form.1, _, _, rfl⟩
        · cases h

/-! ### The plan table takes the descriptor (R70 to R72) -/

section
variable {s : State} {p : List Byte} {i : Nat} {d : Descriptor}

theorem State.exec_planPut_reads (takes : s.takesFrames = true) (reads : readPlanPut p = some (i, d)) :
    exec (.planPut p) s = (s.putDescriptor i d).finish := by
  rw [exec_planPut, execPlanPut, s.taken_act _ takes, State.takePlanPut, reads]

theorem State.putDescriptor_writes (free : ¬ (s.rsq.runState.protects = true ∧ i = s.rsq.desc)) (unjudged : ¬ (s.rsq.runState = .waitLoad ∧ i = s.rsq.desc)) :
    s.putDescriptor i d = s.writeDescriptor i d := by
  rw [State.putDescriptor, if_neg free]
  exact if_neg unjudged

theorem State.putDescriptor_judges (waits : s.rsq.runState = .waitLoad) (own : i = s.rsq.desc) :
    s.putDescriptor i d = (s.writeDescriptor i d).judgeTakeUp := by
  rw [State.putDescriptor, if_neg (by simp [waits, RunState.protects])]
  exact if_pos ⟨waits, own⟩

theorem State.writeDescriptor_current (own : i = s.rsq.desc) (sized : s.Sized) (index : i < 48) : (s.writeDescriptor i d).current = d := by
  subst own
  have inside : s.rsq.desc < s.plt.plan.length := by rw [sized.plan]; exact index
  simp [State.current, State.descriptor, State.writeDescriptor, List.getD, inside]

theorem RunState.protects_iff {r : RunState} : r.protects = true ↔ r = .settling ∨ r = .measuring ∨ r = .barrier := by
  cases r <;> simp [RunState.protects]
end

/-- Settles O29, by the run state and the index. -/
theorem planPutWritesOrIsRefused : Obligations.PlanPutWritesOrIsRefused := by
  unfold Obligations.PlanPutWritesOrIsRefused
  refine ⟨fun i d flags index carried last => readPlanPut_wire index carried last, readPlanPut_eq_none_iff, fun s p takes follows sized => ?_⟩
  refine ⟨fun wrong => ?_, ?_⟩
  · rw [exec_planPut, execPlanPut, s.taken_act _ takes, State.takePlanPut, wrong]
    exact State.stray_finish follows
  intro i d reads written protects
  obtain ⟨index, k, m, fields⟩ := readPlanPut_some reads
  have current (own : i = s.rsq.desc) : written.current = d := State.writeDescriptor_current own sized index
  have writes : (s.writeDescriptor i d).finish = .next written := State.finish_of_lamps follows rfl rfl rfl
  rw [State.exec_planPut_reads takes reads]
  refine ⟨⟨index, fields ▸ rfl, fields ▸ rfl⟩, fun other => ?_, fun free off => ?_, fun own waits passes => ?_, fun c own waits faults => ?_,
    fun own busy => ?_⟩
  · rw [State.putDescriptor_writes (fun h => other h.2) (fun h => other h.2), writes]
  · rw [State.putDescriptor_writes (fun h => free (RunState.protects_iff.1 h.1)) (fun h => off h.1), writes]
  · rw [State.putDescriptor_judges waits own, State.judgeTakeUp_passes (by rw [show (s.writeDescriptor i d).current = d from current own]; exact passes),
      writes]
  · rw [State.putDescriptor_judges waits own,
      State.judgeTakeUp_faults (by rw [show (s.writeDescriptor i d).current = d from current own]; exact faults)]
    have faulted := (State.planFault_faultsWith (s := written) (by simp [written, waits]) c).relamp
    refine ⟨_, rfl, faulted.state, faulted.verdict, faulted.hands.of_rst rfl, ?_⟩
    have plt := faulted.plt
    rw [current own, show written.rsq.desc = i from own.symm] at plt
    exact plt
  · rw [State.putDescriptor, if_pos ⟨RunState.protects_iff.2 busy, own⟩]
    refine ⟨_, rfl, ?_⟩
    simp [State.refuse, kindPlanPut]

end Sys2Proof.Machine
end


section
/-! PROOFS. The barrier decided by a peer: a close that the rest of a step keeps, ENROL and WITHDRAW heard (R110, R122), and a LAPSE heard
(R120, R121). -/

set_option Elab.async false

namespace Sys2Proof.Machine

/-! ### A barrier close through what follows it -/

/-- What an entry adds to the figures of a point (R46). -/
def RosterEntry.figureAt (e : RosterEntry) (n : Nat) : Option Nat := if e.status = .enrolled ∧ e.lastDone = some n then e.figure else none

section
variable {s t u : State}

theorem State.peerFigures_eq (n : Nat) : s.peerFigures n =
    (List.range 61).filterMap fun x => if x ≠ s.sys.address then (rosterAt s.rsq.roster x).figureAt n else none := by
  simp only [State.peerFigures, RosterEntry.figureAt, ite_and]

/-- The deviation takes the peers' figures from their entries. -/
theorem State.deviation_congr (figure : u.rsq.figure = s.rsq.figure) (copy : u.ecu.copy = s.ecu.copy) (seq : u.rsq.seq = s.rsq.seq)
    (sys : u.sys = s.sys) (peers : ∀ x, x ≠ s.sys.address → (rosterAt u.rsq.roster x).figureAt s.rsq.seq = (rosterAt s.rsq.roster x).figureAt s.rsq.seq) :
    u.deviation = s.deviation := by
  have figures : u.peerFigures s.rsq.seq = s.peerFigures s.rsq.seq := by
    rw [State.peerFigures_eq, State.peerFigures_eq, sys]
    refine List.filterMap_congr fun x _ => ?_
    split
    · exact peers x ‹_›
    · rfl
  rw [State.deviation, State.deviation, figure, copy, seq, figures]

/-- What stands for the point that is in progress: what its entry and the tally are formed from. -/
structure State.SamePoint (s u : State) : Prop where
  reporter : s.SameReporter u
  deviation : u.deviation = s.deviation
  plt : u.plt = s.plt
  seq : u.rsq.seq = s.rsq.seq
  desc : u.rsq.desc = s.rsq.desc
  received : u.rsq.received = s.rsq.received
  figure : u.rsq.figure = s.rsq.figure
  tally : u.rsq.tally = s.rsq.tally

theorem State.SamePoint.current (h : s.SamePoint u) : u.current = s.current := by rw [State.current, State.descriptor, h.plt, h.desc]; rfl

theorem State.SamePoint.mask (h : s.SamePoint u) : u.mask = s.mask := by rw [State.mask, h.current]; rfl

theorem State.SamePoint.maskRecords (h : s.SamePoint u) : u.maskRecords = s.maskRecords := by
  rw [State.maskRecords, State.maskRecords, h.mask, h.received]

/-- A close of the point is one of the point as it stood before. -/
theorem State.ClosesPoint.of_same (h : s.ClosesPoint t) (same : s.SamePoint u) : u.ClosesPoint t where
  entry := by
    have handed := h.entry
    dsimp only at handed ⊢
    rw [same.deviation, same.maskRecords, same.seq, same.desc, same.mask, same.figure]
    rwa [(same.reporter.handEntry _).rrp, (same.reporter.handEntry _).report]
  tally := by
    have gained := h.tally
    dsimp only at gained ⊢
    rwa [same.deviation, same.maskRecords, same.desc, same.tally, same.current]

/-- From `s` to `t` the station goes on from a closed point: no flag falls, and the result queue, its counts and timer, the tally, and the
entries of the peers stay. -/
structure State.KeepsClosed (s t : State) : Prop where
  raised : ∀ e : Event, e.isIn s.rrp.flags = true → e.isIn t.rrp.flags = true
  frames : s.bli.report <+: t.bli.report
  rrp : t.rrp = { s.rrp with flags := t.rrp.flags, statusDue := t.rrp.statusDue }
  tally : t.rsq.tally = s.rsq.tally
  barrier : s.rsq.barrier = .stopped → t.rsq.barrier = .stopped
  sys : t.sys = s.sys
  peers : ∀ x, x ≠ s.sys.address → rosterAt t.rsq.roster x = rosterAt s.rsq.roster x

theorem State.KeepsClosed.refl (s : State) : s.KeepsClosed s := ⟨fun _ => id, List.prefix_rfl, rfl, rfl, id, rfl, fun _ _ => rfl⟩

theorem State.KeepsClosed.trans (h : s.KeepsClosed u) (after : u.KeepsClosed t) : s.KeepsClosed t where
  raised e on := after.raised e (h.raised e on)
  frames := h.frames.trans after.frames
  rrp := by rw [after.rrp, h.rrp]
  tally := after.tally.trans h.tally
  barrier stopped := after.barrier (h.barrier stopped)
  sys := after.sys.trans h.sys
  peers x other := (after.peers x (h.sys ▸ other)).trans (h.peers x other)

/-- A station that goes on has closed its point as before. -/
theorem State.ClosesPoint.keeps (h : s.ClosesPoint u) (on : u.KeepsClosed t) : s.ClosesPoint t where
  entry := by
    obtain ⟨rrp, raised, frames⟩ := h.entry
    refine ⟨by rw [on.rrp, rrp], fun e isIn => on.raised e (raised e isIn), ?_⟩
    have head := List.prefix_iff_eq_take.2 frames.symm
    exact (List.prefix_iff_eq_take.1 (head.trans on.frames)).symm
  tally := by
    have gained := h.tally
    dsimp only at gained ⊢
    rwa [on.tally]
end

/-! ### ENROL and WITHDRAW heard (R110, R122) -/

section
variable {s : State} {x : Nat}

theorem State.closeBarrier_not_barrier (s : State) : s.closeBarrier.rsq.runState ≠ .barrier :=
  fun stays => absurd (stays ▸ s.closeBarrier_runState) (by decide)

theorem State.mapEntry_eq_withEntry (low : 1 ≤ x) (f : RosterEntry → RosterEntry) : s.mapEntry x f = s.withEntry x (f (rosterAt s.rsq.roster x)) := by
  simp only [State.mapEntry, State.withEntry, rosterSet_eq_set _ _ low]
  rfl

theorem State.withEntry_self (low : 1 ≤ x) : s.withEntry x (rosterAt s.rsq.roster x) = s := by
  rw [State.withEntry, State.mapRsq, set_rosterAt_self _ low]

theorem State.hearEnrol_joins (low : 1 ≤ x) (opened : s.rsq.enrolWindow ≠ none ∨ s.rsq.allowance ≠ none)
    (absent : (rosterAt s.rsq.roster x).status = .absent) :
    s.hearEnrol x = s.withEntry x { rosterAt s.rsq.roster x with status := .enrolled } := by
  rw [State.hearEnrol, if_pos (by simpa [absent, Option.isSome_iff_ne_none] using opened), State.mapEntry_eq_withEntry low]

theorem State.hearEnrol_ignored (h : (rosterAt s.rsq.roster x).status ≠ .absent ∨ (s.rsq.enrolWindow = none ∧ s.rsq.allowance = none)) :
    s.hearEnrol x = s := by
  refine if_neg fun joins => ?_
  rcases h with other | ⟨window, allowance⟩
  · simp [other] at joins
  · simp [window, allowance] at joins

/-- The entry of a peer after its WITHDRAW (R122). -/
def RosterEntry.withdrawn (e : RosterEntry) : RosterEntry := if e.status = .enrolled ∨ e.status = .absent then { e with status := .withdrawn } else e

theorem RosterEntry.withdrawn_not_enrolled (e : RosterEntry) : e.withdrawn.status ≠ .enrolled := by
  rw [RosterEntry.withdrawn]
  split
  · simp
  · next out => exact fun enrolled => out (.inl enrolled)

theorem State.hearWithdraw_eq (low : 1 ≤ x) : s.hearWithdraw x = (s.withEntry x (rosterAt s.rsq.roster x).withdrawn).testBarrier := by
  rw [State.hearWithdraw, RosterEntry.withdrawn]
  split
  · rw [State.mapEntry_eq_withEntry low]
  · rw [State.withEntry_self low]

/-- The barrier is met with one entry out of the run and every other that is enrolled at the point (R116). -/
theorem State.withEntry_barrierMet_out {e : RosterEntry} (low : 1 ≤ x) (high : x ≤ 60) (size : s.rsq.roster.length = 60) (out : e.status ≠ .enrolled)
    (others : ∀ y, 1 ≤ y → y ≤ 60 → y ≠ x → (rosterAt s.rsq.roster y).status = .enrolled → (rosterAt s.rsq.roster y).reached s.rsq.seq = true) :
    (s.withEntry x e).barrierMet = true := by
  rw [State.barrierMet_iff _ ((List.length_set ..).trans size)]
  intro y hy hy60
  rcases eq_or_ne y x with rfl | other
  · rw [State.rosterAt_withEntry_self low e (size ▸ high)]
    exact fun enrolled => absurd enrolled out
  · rw [State.rosterAt_withEntry_of_ne low e other]
    exact others y hy hy60 other
end

/-- Settles O39: an ENROL and a WITHDRAW each leave the entry of their lemma, and the WITHDRAW has the barrier tested. -/
theorem peersJoinAndLeave : Obligations.PeersJoinAndLeave := by
  unfold Obligations.PeersJoinAndLeave
  intro s x run n reason takes low high other current sized roster e e' entered
  have opens : s.rosterOpen run = true := by simp [State.rosterOpen, State.inRun, current, roster]
  have enrol : exec (.enrol x run) s = (s.hearEnrol x.toNat).finish := by
    rw [exec_enrol, execEnrol, s.fromPeer_act x _ takes low high other, State.takeEnrol, if_pos opens]
  have withdraw : exec (.withdraw x run n reason) s = (entered e').testBarrier.finish := by
    rw [exec_withdraw, execWithdraw, s.fromPeer_act x _ takes low high other, State.takeWithdraw, if_pos opens, State.hearWithdraw_eq low]
    rfl
  refine ⟨fun follows => ⟨fun opened absent => ?_, fun ignored => ?_, fun off => ?_⟩, fun state others => ?_⟩
  · rw [enrol, State.hearEnrol_joins low opened absent]
    exact State.finish_of_follows _ (State.withEntry_lampsFollow low _ other follows)
  · rw [enrol, State.hearEnrol_ignored ignored]
    exact State.finish_of_follows _ follows
  · rw [withdraw, State.testBarrier_stays (entered e') fun closes => off closes.1]
    exact State.finish_of_follows _ (State.withEntry_lampsFollow low _ other follows)
  · have met := State.withEntry_barrierMet_out low high sized.roster e.withdrawn_not_enrolled others
    rw [withdraw, State.testBarrier_closes (s := entered e') state met]
    refine ⟨_, rfl, ?_, ?_, (State.closeBarrier_closesPoint _).relamp⟩ <;> simp only [State.relamp_frame]
    · exact State.closeBarrier_not_barrier _
    · rw [State.closeBarrier_rosterAt (s := entered e') other]
      exact State.rosterAt_withEntry_self low e' (sized.roster.symm ▸ high)

end Sys2Proof.Machine
end


section
/-! PROOFS. A LAPSE heard: the entries it decides, and the barrier that it closes (R120, R121). -/

set_option Elab.async false

namespace Sys2Proof.Machine

/-! ### A barrier close leaves the engines, and the own last DONE -/

section
variable {s : State}

theorem State.leavesRun_still (r : WithdrawReason) (out : s.rsq.phase = .none) : (s.leavesRun r).gates = s.gates ∧ (s.leavesRun r).ecu = s.ecu := by
  simp [State.leavesRun, State.leavePoint, out, State.stopRunTimers]

theorem State.planFault_still (c : PlanCause) (out : s.rsq.phase = .none) : (s.planFault c).gates = s.gates ∧ (s.planFault c).ecu = s.ecu := by
  obtain ⟨gates, ecu⟩ := State.leavesRun_still (s := s.faulting c) .planFault (by simpa [State.faulting] using out)
  have gates : ((s.faulting c).leavesRun .planFault).gates = s.gates := gates.trans (by simp [State.faulting])
  have ecu : ((s.faulting c).leavesRun .planFault).ecu = s.ecu := ecu.trans (by simp [State.faulting])
  rw [State.planFault_eq, State.withdrawRun_planFault]
  simp [State.takeIncomplete, State.handRecord, gates, ecu]

theorem State.enterWaitLoad_still (n d : Nat) : (s.enterWaitLoad n d).gates = s.gates ∧ (s.enterWaitLoad n d).ecu = s.ecu := by
  rcases s.enterWaitLoad_cases n d with waits | ⟨c, faults⟩
  · exact waits ▸ ⟨rfl, rfl⟩
  · exact faults ▸ State.planFault_still (s := s.waitsFor n d) c rfl

theorem State.followStep_still (n : NextStep) : (s.followStep n).gates = s.gates ∧ (s.followStep n).ecu = s.ecu := by
  cases n with
  | runEnd => simp [State.followStep]
  | paused => exact ⟨rfl, rfl⟩
  | takeUp d => exact State.enterWaitLoad_still _ d

theorem State.closeBarrier_still : s.closeBarrier.gates = s.gates ∧ s.closeBarrier.ecu = s.ecu := by
  obtain ⟨gates, ecu⟩ := State.followStep_still (s := s.pointClosed) (s.plt.nextStep s.rsq.seq s.rsq.desc s.current)
  rw [← State.closeBarrier_eq] at gates ecu
  simpa [State.pointClosed, State.beforeHandOn] using And.intro gates ecu

theorem State.markOwn_lastDone (st : PeerStatus) : (s.markOwn st).ownEntry.lastDone = s.ownEntry.lastDone := by
  simp only [State.ownEntry, State.markOwn, State.mapEntry_roster, State.mapEntry_frame]
  rcases rosterAt_rosterSet_cases s.rsq.roster s.sys.address { rosterAt s.rsq.roster s.sys.address with status := st } with marked | same
  · rw [marked]
  · rw [same]

theorem State.planFault_lastDone (c : PlanCause) : (s.planFault c).ownEntry.lastDone = s.ownEntry.lastDone := by
  have marked := State.markOwn_lastDone (s := (s.faulting c).offerCoord (.withdraw (s.faulting c).runNumber (s.faulting c).rsq.seq .planFault)) .withdrawn
  have offered : ((s.faulting c).offerCoord (.withdraw (s.faulting c).runNumber (s.faulting c).rsq.seq .planFault)).ownEntry = s.ownEntry := by
    simp [State.ownEntry, State.faulting]
  rw [offered] at marked
  rw [State.planFault_eq, State.withdrawRun_planFault, ← marked]
  simp [State.takeIncomplete, State.handRecord, State.leavesRun, State.ownEntry, State.stopRunTimers]

theorem State.closeBarrier_lastDone : s.closeBarrier.ownEntry.lastDone = s.ownEntry.lastDone := by
  have stood : s.pointClosed.ownEntry = s.ownEntry := by simp [State.ownEntry]
  rw [State.closeBarrier_eq, ← stood]
  cases s.plt.nextStep s.rsq.seq s.rsq.desc s.current with
  | runEnd => simp [State.followStep, State.ownEntry]
  | paused => rfl
  | takeUp d =>
    rw [State.followStep]
    rcases s.pointClosed.enterWaitLoad_cases (s.pointClosed.rsq.seq + 1) d with waits | ⟨c, faults⟩
    · rw [waits]; rfl
    · rw [faults]; exact State.planFault_lastDone (s := s.pointClosed.waitsFor _ d) c
end

/-! ### The roster that a LAPSE leaves (R120) -/

theorem rosterAt_mapIdx (r : List RosterEntry) (f : Nat → RosterEntry → RosterEntry) {y : Nat} (low : 1 ≤ y) (high : y ≤ r.length) :
    rosterAt (r.mapIdx fun i e => f (i + 1) e) y = f y (rosterAt r y) := by
  obtain ⟨k, rfl⟩ : ∃ k, y = k + 1 := ⟨y - 1, by omega⟩
  have inside : k < r.length := high
  simp [rosterAt, List.getD_eq_getElem?_getD, inside]

/-- The station with the entries that a LAPSE decides, and its own LAPSEs for the point gone. -/
def State.lapsing (s : State) (n : Nat) (named : Nat → Bool) : State := (s.lapseRoster n named).withdrawFrames (isLapseOf s.runNumber n)

section
variable {s : State} {n : Nat} {named : Nat → Bool}

theorem State.lapsing_rosterAt {y : Nat} (size : s.rsq.roster.length = 60) (low : 1 ≤ y) (high : y ≤ 60) :
    rosterAt (s.lapsing n named).rsq.roster y = (rosterAt s.rsq.roster y).lapse (named y) (decide (y = s.sys.address)) n := by
  have rsq : (s.lapsing n named).rsq = (s.lapseRoster n named).rsq := by simp [State.lapsing]
  rw [rsq]
  exact rosterAt_mapIdx s.rsq.roster (fun i e => e.lapse (named i) (decide (i = s.sys.address)) n) low (size ▸ high)

theorem RosterEntry.lapse_own (e : RosterEntry) : e.lapse false true n = e := by simp [RosterEntry.lapse]

theorem RosterEntry.lapse_peer_reached (e : RosterEntry) (listed : Bool) (enrolled : (e.lapse listed false n).status = .enrolled) :
    (e.lapse listed false n).reached n = true := by
  revert enrolled
  cases listed with
  | true =>
    simp only [RosterEntry.lapse, if_true]
    split
    · simp
    · next out => exact fun enrolled => absurd (.inl enrolled) out
  | false =>
    simp only [RosterEntry.lapse, Bool.false_eq_true, if_false]
    split
    · simp [RosterEntry.reached]
    · next there => intro enrolled; simpa [enrolled] using there

theorem State.lapsing_ownEntry (size : s.rsq.roster.length = 60) (low : 1 ≤ s.sys.address) (high : s.sys.address ≤ 60) (unnamed : named s.sys.address = false) :
    (s.lapsing n named).ownEntry = s.ownEntry := by
  have own := State.lapsing_rosterAt (n := n) (named := named) size low high
  rw [unnamed, decide_eq_true rfl, RosterEntry.lapse_own] at own
  have sys : (s.lapsing n named).sys = s.sys := by simp [State.lapsing]
  rw [State.ownEntry, sys]
  exact own

/-- After a LAPSE for the point that does not name the station, the barrier is met unless the own entry is behind (R116, R120). -/
theorem State.lapsing_barrierMet_iff (size : s.rsq.roster.length = 60) (low : 1 ≤ s.sys.address) (high : s.sys.address ≤ 60) (unnamed : named s.sys.address = false) :
    (s.lapsing s.rsq.seq named).barrierMet = true ↔ ¬ (s.ownEntry.status = .enrolled ∧ s.ownEntry.reached s.rsq.seq = false) := by
  have seq : (s.lapsing s.rsq.seq named).rsq.seq = s.rsq.seq := by simp [State.lapsing]
  have own := State.lapsing_ownEntry (n := s.rsq.seq) size low high unnamed
  have address : (s.lapsing s.rsq.seq named).sys.address = s.sys.address := by simp [State.lapsing]
  rw [State.ownEntry, address] at own
  rw [State.barrierMet_iff _ (by simpa [State.lapsing, State.lapseRoster] using size), seq]
  constructor
  · rintro met ⟨enrolled, behind⟩
    have reached := met s.sys.address low high (own ▸ enrolled)
    rw [own, behind] at reached
    exact Bool.false_ne_true reached
  · intro there y low high enrolled
    rcases eq_or_ne y s.sys.address with rfl | other
    · rw [own] at enrolled ⊢
      by_contra behind
      exact there ⟨enrolled, by simpa using behind⟩
    · rw [State.lapsing_rosterAt size low high, decide_eq_false other] at enrolled ⊢
      exact RosterEntry.lapse_peer_reached _ _ enrolled

theorem State.applyLapse_ignored (h : s.lapseApplies n = false) : s.applyLapse n named = s := if_neg (by simp [h])

theorem State.applyLapse_out (h : s.lapseApplies n = true) (own : named s.sys.address = true) :
    s.applyLapse n named = (s.lapsing n named).lapsedOut := by
  rw [State.applyLapse, if_pos h]
  exact if_pos own

theorem State.applyLapse_decides (h : s.lapseApplies n = true) (own : named s.sys.address = false) :
    s.applyLapse n named = if s.rsq.seq = n then (s.lapsing n named).testBarrier else s.lapsing n named := by
  rw [State.applyLapse, if_pos h]
  exact if_neg (by simp [own])

/-- The station that a LAPSE takes out, before its record is handed over (R121). -/
def State.lapsedBy (s : State) : State :=
  (((((s.raise .lapsed).markOwn .lapsed).leavePoint.mapRsq fun q => { q with barrier := .stopped }).withdrawFrames
    (isLapse s.runNumber)).withdrawFrames (isDoneOf s.runNumber))

theorem State.lapsedOut_eq : s.lapsedOut = s.lapsedBy.takeIncomplete.enter .withdrawn := rfl

theorem State.lapsedBy_frames {f : CoordFrame} (h : f ∈ s.lapsedBy.bli.coord ++ s.lapsedBy.bli.waiting) : f ∈ s.bli.coord ++ s.bli.waiting := by
  have marked := State.withdrawFrames_sub _ _ _ (State.withdrawFrames_sub _ _ _ h)
  simpa using marked

/-- A LAPSE that names the station takes it out (R121). -/
theorem State.lapsedOut_leaves (size : s.rsq.roster.length = 60) (low : 1 ≤ s.sys.address) (high : s.sys.address ≤ 60) :
    s.lapsedOut.rsq.runState = .withdrawn ∧ s.lapsedOut.ownEntry.status = .lapsed ∧ s.lapsedOut.rsq.verdict = some .incomplete ∧
    Event.lapsed.isIn s.lapsedOut.rrp.flags = true := by
  have marked := State.markOwn_ownEntry (s := s.raise .lapsed) (st := .lapsed) (by simpa using size) (by simpa using low) (by simpa using high)
  have own : s.lapsedBy.ownEntry = ((s.raise .lapsed).markOwn .lapsed).ownEntry := by simp [State.ownEntry, State.lapsedBy]
  have raised : Event.lapsed.isIn s.lapsedBy.rrp.flags = true := by simp [State.lapsedBy]
  rw [State.lapsedOut_eq]
  refine ⟨rfl, ?_, by simp [State.takeIncomplete, State.handRecord], ?_⟩
  · have kept : (s.lapsedBy.takeIncomplete.enter .withdrawn).ownEntry = s.lapsedBy.ownEntry := by
      simp [State.ownEntry, State.takeIncomplete, State.handRecord]
    rw [kept, own, marked]
  · rw [State.enter_rrp]
    exact (State.takeIncomplete_storeReports s.lapsedBy).toReportsOn.raised _ raised

theorem State.lapseApplies_iff : s.lapseApplies n = true ↔
    (n = s.rsq.seq ∧ (s.rsq.runState = .settling ∨ s.rsq.runState = .measuring ∨ s.rsq.runState = .barrier ∨ s.rsq.runState = .paused)) ∨
    (n + 1 = s.rsq.seq ∧ (s.rsq.runState = .waitLoad ∨ s.rsq.runState = .settling ∨ s.rsq.runState = .measuring)) := by
  cases state : s.rsq.runState <;> simp [State.lapseApplies, state]

/-- The point stands for the station as it was with the entries that a LAPSE decides. -/
theorem State.lapsing_samePoint {t : State} (peers : ∀ y, y ≠ s.sys.address → rosterAt t.rsq.roster y = rosterAt (s.lapsing n named).rsq.roster y) :
    (s.lapsing n named).SamePoint (s.mapRsq fun q => { q with roster := t.rsq.roster }) := by
  obtain ⟨rrp, report, sending, runState, sys⟩ := (s.lapseRoster n named).withdrawFrames_sameReporter (isLapseOf s.runNumber n)
  rw [← State.lapsing] at rrp report sending runState sys
  have reporter : (s.lapsing n named).SameReporter (s.mapRsq fun q => { q with roster := t.rsq.roster }) :=
    ⟨rrp.symm, report.symm, sending.symm, runState.symm, sys.symm⟩
  refine ⟨reporter, State.deviation_congr ?_ ?_ ?_ reporter.sys fun y other => ?_, ?_, ?_, ?_, ?_, ?_, ?_⟩
  case refine_4 => exact congrArg (RosterEntry.figureAt · _) (peers y (reporter.sys ▸ other))
  all_goals simp [State.lapsing]
end

/-- Settles O41, by the point that the LAPSE names and whether it names the station. -/
theorem lapseHeardDecidesTheBarrier : Obligations.LapseHeardDecidesTheBarrier := by
  unfold Obligations.LapseHeardDecidesTheBarrier
  intro s x run n addrs takes follows low high other set run' sized ownLow ownHigh c current closed decided behind
  let named : Nat → Bool := fun y => addrs.getLsbD y
  have applies : s.lapseApplies n.toNat = true ↔ current ∨ closed := State.lapseApplies_iff
  have heard : exec c s = (if s.rosterOpen run then s.applyLapse n.toNat named else s).finish := by
    rw [exec_lapse, execLapse, set, s.fromPeer_act x _ takes low high other]
    rfl
  have taken (h : current ∨ closed) : exec c s = (s.applyLapse n.toNat named).finish := by
    rw [heard, if_pos]
    rcases h with ⟨-, h | h | h | h⟩ | ⟨-, h | h | h⟩ <;> simp [State.rosterOpen, State.inRun, run', h, RunState.takesRoster]
  refine ⟨fun old other => ?_, fun now unnamed => ?_, fun now own => ?_⟩
  · have ignored : s.lapseApplies n.toNat = false := by
      rw [← Bool.not_eq_true, applies]
      exact fun h => h.elim old other
    rw [heard, State.applyLapse_ignored ignored, ite_self]
    exact State.finish_of_follows _ follows
  · have ownEntry : (s.lapsing n.toNat named).ownEntry = s.ownEntry := State.lapsing_ownEntry sized.roster ownLow ownHigh unnamed
    have peers (y : Nat) (low : 1 ≤ y) (high : y ≤ 60) (peer : y ≠ s.sys.address) :=
      State.lapsing_rosterAt (n := n.toNat) (named := named) sized.roster low high
    have decides (t : State) (lastDone : t.ownEntry.lastDone = s.ownEntry.lastDone) (gates : t.gates = s.gates) (ecu : t.ecu = s.ecu)
        (rest : ∀ y, y ≠ s.sys.address → rosterAt t.rsq.roster y = rosterAt (s.lapsing n.toNat named).rsq.roster y) : decided t := by
      refine ⟨lastDone, gates, ecu, fun y low high peer => ?_⟩
      dsimp only
      rw [rest y peer, peers y low high peer, decide_eq_false peer]
      simp [RosterEntry.lapse, named]
    rw [taken now, State.applyLapse_decides (applies.2 now) unnamed]
    by_cases closes : s.rsq.runState = .barrier ∧ ¬ behind
    · obtain ⟨state, there⟩ := closes
      have point : s.rsq.seq = n.toNat := by
        rcases now with ⟨h, -⟩ | ⟨-, h⟩
        · exact h.symm
        · simp [state] at h
      have met : (s.lapsing n.toNat named).barrierMet = true := by
        rw [← point]
        exact (State.lapsing_barrierMet_iff sized.roster ownLow ownHigh unnamed).2 there
      have sys : (s.lapsing n.toNat named).sys = s.sys := by simp [State.lapsing]
      have kept (y : Nat) (peer : y ≠ s.sys.address) :
          rosterAt (s.lapsing n.toNat named).closeBarrier.relamp.rsq.roster y = rosterAt (s.lapsing n.toNat named).rsq.roster y := by
        simpa using State.closeBarrier_rosterAt (s := s.lapsing n.toNat named) (y := y) (by rwa [sys])
      obtain ⟨gates, ecu⟩ := State.closeBarrier_still (s := s.lapsing n.toNat named)
      have lastDone := State.closeBarrier_lastDone (s := s.lapsing n.toNat named)
      rw [if_pos point, State.testBarrier_closes (s.lapsing n.toNat named) (by simpa [State.lapsing] using state) met]
      refine ⟨_, rfl, decides _ ?_ ?_ ?_ kept, fun off => ?_, fun _ _ => ⟨?_, ?_, ?_⟩⟩
      · rw [← ownEntry, ← lastDone]
        simp [State.ownEntry]
      · simpa [State.lapsing] using gates
      · simpa [State.lapsing] using ecu
      · exact absurd off (by simp [state, there])
      · simpa using State.closeBarrier_not_barrier (s.lapsing n.toNat named)
      · simpa using State.closeBarrier_barrier (s.lapsing n.toNat named)
      · exact (State.closeBarrier_closesPoint (s.lapsing n.toNat named)).relamp.of_same (State.lapsing_samePoint kept)
    · have stays : (if s.rsq.seq = n.toNat then (s.lapsing n.toNat named).testBarrier else s.lapsing n.toNat named) = s.lapsing n.toNat named := by
        refine ite_eq_right_iff.2 fun point => State.testBarrier_stays _ fun h => closes ⟨by simpa [State.lapsing] using h.1, ?_⟩
        exact (State.lapsing_barrierMet_iff sized.roster ownLow ownHigh unnamed).1 (point ▸ h.2)
      rw [stays]
      have own : (s.lapsing n.toNat named).relamp.ownEntry = s.ownEntry := by
        rw [← ownEntry]
        simp [State.ownEntry]
      refine ⟨_, rfl, decides _ (congrArg _ own) (by simp [State.lapsing]) (by simp [State.lapsing]) (by simp), fun _ => ⟨?_, ?_, own⟩, fun state there =>
        absurd ⟨state, there⟩ closes⟩
      · have rsq : (s.lapsing n.toNat named).rsq = (s.lapseRoster n.toNat named).rsq := by simp [State.lapsing]
        simp only [State.relamp_frame, rsq]
        rfl
      · simp [State.lapsing]
  · have left := State.lapsedOut_leaves (s := s.lapsing n.toNat named) (by simpa [State.lapsing, State.lapseRoster] using sized.roster)
      (by simpa [State.lapsing] using ownLow) (by simpa [State.lapsing] using ownHigh)
    obtain ⟨state, status, verdict, raised⟩ := left
    rw [taken now, State.applyLapse_out (applies.2 now) own]
    refine ⟨_, rfl, by simpa using state, by simpa [State.ownEntry] using status, by simpa using verdict, by simpa using raised,
      by simp [State.lapsing], ?_, fun m r queued => ?_⟩
    · refine State.HandsOver.relamp (State.takeIncomplete_handsOver (u := (s.lapsing n.toNat named).lapsedBy) ?_ ?_ ?_ id)
      · simp [State.lapsedBy, State.lapsing]
      · simp [State.incompleteJob, State.filedJob, State.lapsedBy, State.lapsing, run']
      · rfl
    · have before : .withdraw run m r ∈ (s.lapsing n.toNat named).lapsedBy.bli.coord ++ (s.lapsing n.toNat named).lapsedBy.bli.waiting := by
        simpa [State.lapsedOut_eq, State.takeIncomplete, State.handRecord] using queued
      have after := State.withdrawFrames_sub _ _ _ (State.lapsedBy_frames before)
      simpa using after

end Sys2Proof.Machine
end


section
/-! PROOFS. LOAD READY in BARRIER: the close that it forces, and what the frame then does (R113, R118). -/

set_option Elab.async false

namespace Sys2Proof.Machine

/-! ### What a LOAD READY does once the point is closed -/

/-- The result queue, its counts, settings and timer are all of the reporter but its flags and a STATUS that is due. -/
theorem Rrp.eq_but_flags {a b : Rrp} (h : (a.queue, a.tq, a.td, a.delay, a.call, a.drops, a.mask, a.lastRefusal) =
    (b.queue, b.tq, b.td, b.delay, b.call, b.drops, b.mask, b.lastRefusal)) : a = { b with flags := a.flags, statusDue := a.statusDue } := by
  cases a
  cases b
  simp_all

section
variable (s : State)

theorem State.withdrawRun_keepsClosed (r : WithdrawReason) : s.KeepsClosed (s.withdrawRun r) where
  raised e on := by
    by_cases late : r = .outOfStep
    · subst late
      have left : Event.isIn e (s.leavesRun .outOfStep).takeIncomplete.rrp.flags = true :=
        (State.takeIncomplete_storeReports _).toReportsOn.raised e (by simpa using on)
      rw [State.withdrawRun_outOfStep, State.enter_rrp, State.isIn_raise, left, Bool.true_or]
    · exact (State.withdrawRun_reportsOn late).raised e on
  frames := by
    by_cases late : r = .outOfStep
    · subst late
      have left := (State.takeIncomplete_storeReports (s.leavesRun .outOfStep)).toReportsOn.frames
      rw [State.leavesRun_report] at left
      rw [State.withdrawRun_outOfStep]
      exact left.trans (State.raise_frames _ .outOfStep)
    · exact (State.withdrawRun_reportsOn late).frames
  rrp := Rrp.eq_but_flags (by simp)
  tally := by simp
  barrier _ := by rw [State.withdrawRun_eq]; split <;> simp
  sys := by simp
  peers y other := State.withdrawRun_rosterAt s r other

theorem State.enterWaitLoad_keepsClosed (n d : Nat) : s.KeepsClosed (s.enterWaitLoad n d) where
  raised := (s.enterWaitLoad_reportsOn n d).raised
  frames := (s.enterWaitLoad_reportsOn n d).frames
  rrp := Rrp.eq_but_flags (by simp)
  tally := by simp
  barrier stopped := s.enterWaitLoad_barrier n d stopped
  sys := by simp
  peers y other := s.enterWaitLoad_rosterAt n d other

theorem State.enterSettling_keepsClosed : s.KeepsClosed s.enterSettling where
  raised e on := by simpa using on
  frames := by simp
  rrp := by simp
  tally := by simp
  barrier stopped := by simpa using stopped
  sys := by simp
  peers y other := by simp

theorem State.loadInWait_keepsClosed (n d : Nat) : s.KeepsClosed (s.loadInWait n d) := by
  simp only [State.loadInWait]
  split_ifs
  exacts [.refl s, s.withdrawRun_keepsClosed _, s.withdrawRun_keepsClosed _, s.enterSettling_keepsClosed]

theorem State.thenWait_keepsClosed (n d : Nat) : s.KeepsClosed (s.thenWait n d) := by
  simp only [State.thenWait]
  split
  · exact s.loadInWait_keepsClosed n d
  · exact .refl s

theorem State.loadInPaused_keepsClosed (n d : Nat) : s.KeepsClosed (s.loadInPaused n d) := by
  have extended : s.KeepsClosed (s.mapPlt fun p => { p with tail := d }) := ⟨fun _ => id, List.prefix_rfl, rfl, rfl, id, rfl, fun _ _ => rfl⟩
  simp only [State.loadInPaused]
  split_ifs
  exacts [(extended.trans (State.enterWaitLoad_keepsClosed _ _ _)).trans (State.thenWait_keepsClosed _ _ _), .refl s,
    s.withdrawRun_keepsClosed _, s.withdrawRun_keepsClosed _]

theorem State.withdrawRun_not_barrier (r : WithdrawReason) : (s.withdrawRun r).rsq.runState ≠ .barrier := by
  have exit : (s.withdrawRun r).rsq.runState = if r = .planFault then .faulted else .withdrawn := rfl
  rw [exit]
  split <;> decide

theorem State.thenWait_seq (n d : Nat) : (s.thenWait n d).rsq.seq = s.rsq.seq := by simp

theorem State.enterWaitLoad_seq (n d : Nat) : (s.enterWaitLoad n d).rsq.seq = n := by
  rcases s.enterWaitLoad_cases n d with waits | ⟨c, faults⟩
  · rw [waits]; rfl
  · rw [faults]; simp [State.waitsFor]

/-- The sequence number at which a LOAD READY in PAUSED may end a point at once. -/
theorem State.loadInPaused_seq {n d : Nat} (off : s.rsq.runState = .paused) (ended : (s.loadInPaused n d).rsq.runState = .barrier) :
    (s.loadInPaused n d).rsq.seq = s.rsq.seq + 1 := by
  revert ended
  simp only [State.loadInPaused]
  split_ifs
  · intro _
    rw [State.thenWait_seq, State.enterWaitLoad_seq]
  · simp [off]
  · exact fun ended => absurd ended (s.withdrawRun_not_barrier _)
  · exact fun ended => absurd ended (s.withdrawRun_not_barrier _)

theorem State.followStep_seq (n : NextStep) : ((s.followStep n).rsq.runState = .paused → (s.followStep n).rsq.seq = s.rsq.seq) ∧
    ((s.followStep n).rsq.runState = .waitLoad → (s.followStep n).rsq.seq = s.rsq.seq + 1) := by
  cases n with
  | runEnd => rcases s.endRun_runState with h | h <;> simp [State.followStep, h]
  | paused => simp [State.followStep]
  | takeUp d =>
    rw [State.followStep, State.enterWaitLoad_seq]
    rcases s.enterWaitLoad_runState (s.rsq.seq + 1) d with h | h <;> simp [h]

/-- The station stands at the point it closed in PAUSED, and at the next in WAIT_LOAD. -/
theorem State.closeBarrier_seq : (s.closeBarrier.rsq.runState = .paused → s.closeBarrier.rsq.seq = s.rsq.seq) ∧
    (s.closeBarrier.rsq.runState = .waitLoad → s.closeBarrier.rsq.seq = s.rsq.seq + 1) := by
  have stood : s.pointClosed.rsq.seq = s.rsq.seq := by simp [State.pointClosed, State.beforeHandOn]
  have follows := s.pointClosed.followStep_seq (s.plt.nextStep s.rsq.seq s.rsq.desc s.current)
  rwa [← State.closeBarrier_eq, stood] at follows

/-- The station as a LOAD READY for the next point leaves it, from the close on (R113, R118). -/
def State.loadClosed (s : State) (n d : Nat) : State :=
  if s.closeBarrier.rsq.runState = .paused then s.closeBarrier.loadInPaused n d else s.closeBarrier.thenWait n d

theorem State.loadClosed_keepsClosed (n d : Nat) : s.closeBarrier.KeepsClosed (s.loadClosed n d) := by
  rw [State.loadClosed]
  split
  · exact State.loadInPaused_keepsClosed _ n d
  · exact State.thenWait_keepsClosed _ n d

/-- A point that the frame ends at once is the next one. -/
theorem State.loadClosed_seq {n d : Nat} (ended : (s.loadClosed n d).rsq.runState = .barrier) : (s.loadClosed n d).rsq.seq = s.rsq.seq + 1 := by
  revert ended
  rw [State.loadClosed]
  split
  · next paused =>
    intro ended
    rw [State.loadInPaused_seq _ paused ended, s.closeBarrier_seq.1 paused]
  · intro ended
    by_cases waits : s.closeBarrier.rsq.runState = .waitLoad
    · rw [State.thenWait_seq, s.closeBarrier_seq.2 waits]
    · rw [State.thenWait, if_neg waits] at ended
      exact absurd ended s.closeBarrier_not_barrier
end

/-! ### The entries of the silent (R118) -/

/-- An address has the entry changed by its function, or no entry. -/
theorem rosterAt_mapIdx_eq (r : List RosterEntry) (f : Nat → RosterEntry → RosterEntry) (y : Nat) :
    rosterAt (r.mapIdx fun i e => f (i + 1) e) y = f y (rosterAt r y) ∨ rosterAt (r.mapIdx fun i e => f (i + 1) e) y = rosterAt r y := by
  by_cases inside : 1 ≤ y ∧ y ≤ r.length
  · exact .inl (rosterAt_mapIdx r f inside.1 inside.2)
  · cases y with
    | zero => exact .inr rfl
    | succ k =>
      have past : r.length ≤ k := by omega
      exact .inr (by simp [rosterAt, past])

section
variable {s : State}

theorem State.countUnheard_rosterAt {y : Nat} (size : s.rsq.roster.length = 60) (low : 1 ≤ y) (high : y ≤ 60) :
    rosterAt s.countUnheard.rsq.roster y = (rosterAt s.rsq.roster y).unheardAt (decide (y = s.sys.address)) s.rsq.seq :=
  rosterAt_mapIdx s.rsq.roster (fun i e => e.unheardAt (decide (i = s.sys.address)) s.rsq.seq) low (size ▸ high)

/-- A silent entry has no figure for the point, before and after its count. -/
theorem RosterEntry.unheardAt_figureAt (e : RosterEntry) (own : Bool) (n : Nat) : (e.unheardAt own n).figureAt n = e.figureAt n := by
  rw [RosterEntry.unheardAt]
  split
  · next silent =>
    have behind : e.lastDone ≠ some n := by
      intro there
      simp [RosterEntry.reached, there] at silent
    split <;> simp [RosterEntry.figureAt, behind]
  · rfl

theorem State.countUnheard_samePoint : s.countUnheard.SamePoint s where
  reporter := ⟨rfl, rfl, rfl, rfl, rfl⟩
  deviation := by
    refine State.deviation_congr rfl rfl rfl rfl fun y _ => ?_
    rcases rosterAt_mapIdx_eq s.rsq.roster (fun i e => e.unheardAt (decide (i = s.sys.address)) s.rsq.seq) y with counted | same
    · exact (congrArg (RosterEntry.figureAt · s.rsq.seq) counted |>.trans (RosterEntry.unheardAt_figureAt ..)).symm
    · exact (congrArg (RosterEntry.figureAt · s.rsq.seq) same).symm
  plt := rfl
  seq := rfl
  desc := rfl
  received := rfl
  figure := rfl
  tally := rfl

/-- A peer's entry as a LOAD READY for the next point leaves it (R118). -/
theorem RosterEntry.unheardAt_peer (e : RosterEntry) (n : Nat) : e.unheardAt false n =
    if e.status = .enrolled ∧ e.reached n = false then
      { e with unheard := min 3 (e.unheard + 1), status := if 2 ≤ e.unheard then .lapsed else .enrolled }
    else e := by
  simp only [RosterEntry.unheardAt, Bool.not_false, Bool.not_eq_true', true_and]
  split
  · next silent =>
    obtain ⟨enrolled, -⟩ := silent
    split
    · next third => rw [Nat.min_eq_left third, if_pos (by omega)]
    · next early => rw [Nat.min_eq_right (by omega), if_neg (by omega), ← enrolled]
  · rfl
end

/-- Settles O35, by the point that the frame names. -/
theorem loadReadyClosesTheBarrier : Obligations.LoadReadyClosesTheBarrier := by
  unfold Obligations.LoadReadyClosesTheBarrier
  intro s run n d takes current state
  have loads : s.loadReady n.toNat d.toNat = if n.toNat ≤ s.rsq.seq then s else if n.toNat = s.rsq.seq + 1 then
      s.countUnheard.loadClosed n.toNat d.toNat else s.withdrawRun .outOfStep := by
    simp only [State.loadReady, state, State.loadClosed]
  have number : s.runNumber = run := by simp [State.runNumber, current]
  rw [State.exec_loadReady_current takes current, loads]
  refine ⟨fun old follows => ?_, fun ahead => ?_, fun next sized => ?_⟩
  · rw [if_pos old]
    exact State.finish_of_follows _ follows
  · rw [if_neg (by omega), if_neg (by omega)]
    have gone := (State.withdrawRun_withdraws (s := s) (r := .outOfStep) (by simp [state])).relamp
    exact ⟨_, rfl, gone.state, gone.phase, gone.barrier, number ▸ gone.offered, gone.outOfStep rfl, gone.verdict, gone.tally, gone.plt,
      gone.hands_run current⟩
  · have keeps := s.countUnheard.loadClosed_keepsClosed n.toNat d.toNat
    have closes : s.ClosesPoint (s.countUnheard.loadClosed n.toNat d.toNat) :=
      ((State.closeBarrier_closesPoint _).keeps keeps).of_same State.countUnheard_samePoint
    rw [if_neg (by omega), if_pos next]
    refine ⟨_, rfl, fun ended => ?_, ?_, closes.relamp, ?_, fun x low high other => ?_⟩
    · simpa using State.loadClosed_seq s.countUnheard (n := n.toNat) (d := d.toNat) (by simpa using ended)
    · simpa using keeps.barrier (State.closeBarrier_barrier _)
    · exact closes.relamp.tally.run
    · dsimp only
      rw [← RosterEntry.unheardAt_peer, ← decide_eq_false other, ← State.countUnheard_rosterAt sized.roster low high,
        ← State.closeBarrier_rosterAt s.countUnheard other, ← keeps.peers x (by simpa using other)]
      simp only [State.relamp_frame]

end Sys2Proof.Machine
end


section
/-! PROOFS. The own DONE sent: the barrier timer, or the close with the next step of the chain (R81 to R83, R116, R117). -/

set_option Elab.async false

namespace Sys2Proof.Machine

/-! ### The next step of the chain (R81) -/

section
variable {p : Plt} {seq i : Nat} {d : Descriptor}

/-- The run ends at the last sequence number, and at a last descriptor but in a cyclic run that has loops left. -/
def Plt.Ends (p : Plt) (seq : Nat) (d : Descriptor) : Prop := seq = 65535 ∨ (d.last = true ∧ (p.cyclic = false ∨ p.loopAfter d = p.loops))

theorem Plt.nextStep_ends (h : p.Ends seq d) : p.nextStep seq i d = .runEnd := by
  rcases h with final | ⟨last, h | h⟩ <;> simp [Plt.nextStep, *]

theorem Plt.nextStep_pauses (h : ¬ p.Ends seq d) (last : d.last = false) (tail : i = p.tail) : p.nextStep seq i d = .paused := by
  have final : seq ≠ 65535 := fun final => h (.inl final)
  simp [Plt.nextStep, final, last, tail]

theorem Plt.nextStep_goes (h : ¬ p.Ends seq d) (goes : ¬ (d.last = false ∧ i = p.tail)) :
    p.nextStep seq i d = .takeUp (if d.last = true then p.head else d.next) := by
  have final : seq ≠ 65535 := fun final => h (.inl final)
  cases last : d.last with
  | true =>
    have loops : ¬ (p.cyclic = false ∨ p.loopAfter d = p.loops) := fun out => h (.inr ⟨last, out⟩)
    simp_all [Plt.nextStep]
  | false =>
    have off : i ≠ p.tail := fun tail => goes ⟨last, tail⟩
    simp [Plt.nextStep, final, last, off]
end

/-! ### What a close leaves of the plan, and where it leads (R80, R117) -/

section
variable {s : State}

theorem State.pointClosed_stands : s.pointClosed.rst = s.rst ∧ s.pointClosed.rsq.seq = s.rsq.seq ∧ s.pointClosed.rsq.desc = s.rsq.desc ∧
    s.pointClosed.rsq.verdict = s.rsq.verdict ∧ s.pointClosed.rsq.run = s.rsq.run ∧ s.pointClosed.plt.cyclic = s.plt.cyclic ∧
    s.pointClosed.plt.loop = s.plt.loopAfter s.current := by
  simp [State.pointClosed, State.beforeHandOn, Plt.loopAfter]

theorem State.closeBarrier_loop : s.closeBarrier.plt.loop = s.plt.loopAfter s.current ∧ s.closeBarrier.plt.head = s.plt.head ∧
    s.closeBarrier.plt.tail = s.plt.tail := by
  refine ⟨?_, by simp, by simp⟩
  obtain ⟨-, -, -, -, -, -, loop⟩ := State.pointClosed_stands (s := s)
  rw [State.closeBarrier_eq, ← loop]
  simp

theorem State.closeBarrier_plan (j : Nat) : s.closeBarrier.descriptor j = s.pointClosed.descriptor j := by
  rw [State.closeBarrier_eq]
  simp [State.descriptor]

/-- In a non-cyclic run the point is written back as completed. -/
theorem State.closeBarrier_writesBack (once : s.plt.cyclic = false) (inside : s.rsq.desc < s.plt.plan.length) :
    s.closeBarrier.descriptor s.rsq.desc = { s.current with completed := true, completion := some (pointVerdict s.closeRecords) } := by
  rw [State.closeBarrier_plan]
  simp [State.descriptor, State.current, State.pointClosed, State.beforeHandOn, State.writeBack, once, List.getD_eq_getElem?_getD, inside]

theorem State.closeBarrier_ends (h : s.plt.Ends s.rsq.seq s.current) :
    (s.closeBarrier.rsq.runState = .finished ∨ s.closeBarrier.rsq.runState = .sealing) ∧ s.closeBarrier.rsq.verdict ≠ none ∧
    s.closeBarrier.rsq.seq = s.rsq.seq ∧ s.closeBarrier.rsq.desc = s.rsq.desc := by
  obtain ⟨-, seq, desc, -⟩ := State.pointClosed_stands (s := s)
  have step := Plt.nextStep_ends (i := s.rsq.desc) h
  rw [State.closeBarrier_eq, step, State.followStep, ← seq, ← desc]
  refine ⟨s.pointClosed.endRun_runState.symm, ?_, by simp, by simp⟩
  simp only [State.endRun]
  split_ifs <;> simp [State.handRecord, State.pulseReject]

theorem State.closeBarrier_pauses (h : ¬ s.plt.Ends s.rsq.seq s.current) (last : s.current.last = false) (tail : s.rsq.desc = s.plt.tail) :
    s.closeBarrier.rsq.runState = .paused ∧ s.closeBarrier.rsq.verdict = s.rsq.verdict ∧
    s.closeBarrier.rsq.seq = s.rsq.seq ∧ s.closeBarrier.rsq.desc = s.rsq.desc := by
  obtain ⟨-, seq, desc, verdict, -⟩ := State.pointClosed_stands (s := s)
  rw [State.closeBarrier_eq, Plt.nextStep_pauses h last tail]
  exact ⟨rfl, verdict, seq, desc⟩

/-- The station takes up the next descriptor of the chain, or has its fault (R75, R77). -/
theorem State.closeBarrier_goes (h : ¬ s.plt.Ends s.rsq.seq s.current) (goes : ¬ (s.current.last = false ∧ s.rsq.desc = s.plt.tail)) {next : Nat}
    (isNext : next = if s.current.last = true then s.plt.head else s.current.next) :
    s.closeBarrier.rsq.seq = s.rsq.seq + 1 ∧ s.closeBarrier.rsq.desc = next ∧
    ((s.closeBarrier.descriptor next).judge s.plt.cyclic = none →
      s.closeBarrier.rsq.runState = .waitLoad ∧ s.closeBarrier.rsq.verdict = s.rsq.verdict) ∧
    ∀ cause, (s.closeBarrier.descriptor next).judge s.plt.cyclic = some cause → s.closeBarrier.rsq.runState = .faulted ∧
      s.HandsOver s.closeBarrier (s.closeBarrier.incompleteJob ((s.rsq.run.map BitVec.toNat).getD 0)) ∧
      s.closeBarrier.plt.fault = some ⟨cause, next, s.rsq.seq + 1, if cause = .stale then (s.closeBarrier.descriptor next).completion else none⟩ := by
  obtain ⟨rst, seq, desc, verdict, run, cyclic, -⟩ := State.pointClosed_stands (s := s)
  have step := Plt.nextStep_goes h goes
  rw [← isNext] at step
  have follows : s.closeBarrier = s.pointClosed.enterWaitLoad (s.rsq.seq + 1) next := by
    rw [State.closeBarrier_eq, step, State.followStep, seq]
  rw [State.closeBarrier_plan]
  by_cases passes : (s.pointClosed.descriptor next).judge s.plt.cyclic = none
  · have waits := follows.trans (State.enterWaitLoad_passes (by rw [cyclic]; exact passes))
    refine ⟨waits ▸ rfl, waits ▸ rfl, fun _ => ⟨waits ▸ rfl, waits ▸ verdict⟩, fun cause faults => ?_⟩
    rw [passes] at faults
    cases faults
  · obtain ⟨c, faults⟩ := Option.ne_none_iff_exists'.1 passes
    have fault := follows.trans (State.enterWaitLoad_faults (by rw [cyclic]; exact faults))
    have faulted := State.planFault_faultsWith (s := s.pointClosed.waitsFor (s.rsq.seq + 1) next) (by simp [State.waitsFor]) c
    rw [fault]
    refine ⟨by simp [State.waitsFor], by simp [State.waitsFor], fun none => absurd none passes, fun cause isCause => ?_⟩
    obtain rfl : c = cause := Option.some.inj (faults.symm.trans isCause)
    refine ⟨faulted.state, ?_, by rw [faulted.plt]; rfl⟩
    have hands := faulted.hands.of_rst (u := s) rst
    have job : (s.pointClosed.waitsFor (s.rsq.seq + 1) next).incompleteJob
        (((s.pointClosed.waitsFor (s.rsq.seq + 1) next).rsq.run.map BitVec.toNat).getD 0) =
        ((s.pointClosed.waitsFor (s.rsq.seq + 1) next).planFault c).incompleteJob ((s.rsq.run.map BitVec.toNat).getD 0) := by
      simp only [State.incompleteJob, State.filedJob, State.planFault_frame, State.waitsFor, State.mapRsq_rsq, run]
    rwa [job] at hands
end

/-! ### A coordination frame leaves its part (R93) -/

/-- The attempt of a frame has ended: the line is the station's no more, and w is its address. -/
def State.attemptEnded (s : State) (a : Attempt) : State :=
  (s.charactersEnded a.bytes 0).mapBli fun b => { b with attempt := none, w := BitVec.ofNat 6 s.sys.address }

/-- The frame at the head of the coordination part has left it, before its owner is told. -/
def State.headSent (s : State) (a : Attempt) : State := (s.attemptEnded a).dropHead

section
variable {s : State} {a : Attempt}

theorem State.exec_frameSent_coord {f : CoordFrame} {rest : List CoordFrame} (sends : s.bli.attempt = some a) (part : a.part = .coordination)
    (head : s.bli.coord = f :: rest) : exec .frameSent s = ((s.headSent a).coordWasSent f a).finish := by
  rw [exec_frameSent, execFrameSent, sends]
  simp only [State.sendEnds, part, head]
  rfl

theorem State.headSent_sameReporter (sends : s.bli.attempt = some a) (part : a.part = .coordination) : s.SameReporter (s.headSent a) :=
  ⟨rfl, by simp [State.headSent, State.attemptEnded], by rw [sends, Option.any_some, part]; rfl, rfl, rfl⟩

/-- The own entry with the DONE that has been sent. -/
def RosterEntry.doneSent (e : RosterEntry) (n : Nat) (figure : Option Nat) : RosterEntry := { e with lastDone := some n, figure := figure }

/-- The station whose own DONE has been sent, before the barrier is tested. -/
def State.doneSent (s : State) (a : Attempt) (figure : Option Nat) (barrier : Nat) : State :=
  ((s.headSent a).withEntry s.sys.address (s.ownEntry.doneSent s.rsq.seq figure)).mapRsq fun q => { q with barrier := .running barrier }

theorem State.coordWasSent_done {run : Half} {m : Mask} {figure : Option Nat} {chans : PerChan (Option OutcomeRecord)} {f : PointFields}
    (current : s.rsq.run = some run) (state : s.rsq.runState = .barrier) (low : 1 ≤ s.sys.address) (behind : s.ownEntry.reached s.rsq.seq = false)
    (point : s.current.point = some f) :
    (s.headSent a).coordWasSent (.done run s.rsq.seq m figure chans) a = (s.doneSent a figure f.barrier).testBarrier := by
  have inRun : (s.headSent a).inRun run = true := decide_eq_true current
  have own : (s.headSent a).mapEntry (s.headSent a).sys.address (fun e => if e.reached s.rsq.seq then e else
      { e with lastDone := some s.rsq.seq, figure := figure }) = (s.headSent a).withEntry s.sys.address (s.ownEntry.doneSent s.rsq.seq figure) :=
    (State.mapEntry_eq_withEntry low _).trans (congrArg _ (if_neg (Bool.eq_false_iff.1 behind)))
  have time : ((s.headSent a).current.point.map PointFields.barrier).getD 0 = f.barrier := by
    rw [show (s.headSent a).current = s.current from rfl, point]
    rfl
  simp only [State.coordWasSent, State.doneWasSent, inRun, if_true, own]
  rw [if_pos ⟨state, rfl⟩, time]
  rfl

/-- The point stands as before its DONE was sent. -/
theorem State.doneSent_samePoint {figure : Option Nat} {barrier : Nat} (low : 1 ≤ s.sys.address) (sends : s.bli.attempt = some a)
    (part : a.part = .coordination) : (s.doneSent a figure barrier).SamePoint s where
  reporter := by
    obtain ⟨rrp, report, sending, runState, sys⟩ := State.headSent_sameReporter sends part
    exact ⟨rrp.symm, report.symm, sending.symm, runState.symm, sys.symm⟩
  deviation := State.deviation_congr rfl rfl rfl rfl fun x other =>
    congrArg (RosterEntry.figureAt · _) (State.rosterAt_withEntry_of_ne (s := s.headSent a) low (s.ownEntry.doneSent s.rsq.seq figure) other).symm
  plt := rfl
  seq := rfl
  desc := rfl
  received := rfl
  figure := rfl
  tally := rfl
end

/-- Settles O23, by the peers that are behind and the next step of the chain. -/
theorem ownDoneSentStartsOrClosesTheBarrier : Obligations.OwnDoneSentStartsOrClosesTheBarrier := by
  unfold Obligations.OwnDoneSentStartsOrClosesTheBarrier
  intro s a run m fig chans rest f sends part head current state sized low high behind enrolled point
  have told := State.coordWasSent_done (a := a) (m := m) (figure := fig) (chans := chans) current state low behind point
  rw [State.exec_frameSent_coord sends part head, told]
  let w := s.doneSent a fig f.barrier
  have own : (s.ownEntry.doneSent s.rsq.seq fig).reached s.rsq.seq = true := by simp [RosterEntry.doneSent, RosterEntry.reached]
  have met : w.barrierMet = true ↔ _ := State.withEntry_barrierMet_iff (s := s.headSent a) low _ sized.roster high own
  refine ⟨fun ⟨x, xLow, xHigh, other, peer, late⟩ => ?_, fun others => ?_⟩
  · rw [State.testBarrier_stays w fun closes => by
      have reached := met.1 closes.2 x xLow xHigh other peer
      exact Bool.false_ne_true (late.symm.trans reached)]
    refine ⟨_, rfl, ?_⟩
    simp only [State.relamp_frame]
    exact ⟨rfl, rfl, rfl, rfl⟩
  · rw [State.testBarrier_closes w state (met.2 others)]
    have closes : s.ClosesPoint w.closeBarrier := (State.closeBarrier_closesPoint w).of_same (State.doneSent_samePoint low sends part)
    obtain ⟨loop, planHead, tail⟩ := State.closeBarrier_loop (s := w)
    have plt : w.closeBarrier.relamp.plt = w.closeBarrier.plt := by simp
    have rsq : w.closeBarrier.relamp.rsq = w.closeBarrier.rsq := by simp
    have descriptor (j : Nat) : w.closeBarrier.relamp.descriptor j = w.closeBarrier.descriptor j := by simp [State.descriptor]
    refine ⟨_, rfl, ?_, ?_, closes.relamp, closes.relamp.tally.run, fun once inside => ?_, ?_⟩
    · simpa using State.closeBarrier_not_barrier w
    · simpa using State.closeBarrier_barrier w
    · have same := State.doneSent_samePoint (figure := fig) (barrier := f.barrier) low sends part
      have records : w.closeRecords = s.closeRecords := by rw [State.closeRecords, State.closeRecords, same.deviation, same.maskRecords]
      have written := State.closeBarrier_writesBack (s := w) once (by rw [show w.plt.plan = s.plt.plan from rfl, sized.plan]; exact inside)
      rw [records] at written
      exact (descriptor _).trans written
    · intro d loops ends pauses next
      have ends' : ends ↔ w.plt.Ends w.rsq.seq w.current := Iff.rfl
      rw [plt, rsq, descriptor]
      refine ⟨loop, planHead, tail, fun runEnds => ?_, fun on pause => ?_, fun on goes => ?_⟩
      · exact State.closeBarrier_ends (ends'.1 runEnds)
      · exact State.closeBarrier_pauses (s := w) (mt ends'.2 on) pause.1 pause.2
      · obtain ⟨seq, desc, passes, faults⟩ := State.closeBarrier_goes (s := w) (next := next) (mt ends'.2 on) goes rfl
        refine ⟨seq, desc, passes, fun cause bad => ?_⟩
        obtain ⟨faulted, handed, fault⟩ := faults cause bad
        rw [show w.rsq.run = some run from current] at handed
        have job : w.closeBarrier.relamp.incompleteJob run.toNat = w.closeBarrier.incompleteJob run.toNat := by
          simp [State.incompleteJob, State.filedJob]
        rw [job]
        exact ⟨faulted, (handed.of_rst (u := s) rfl).relamp, fault⟩

end Sys2Proof.Machine
end


section
/-! PROOFS. The result queue: the entries of a RESULT, and what a test for formation leaves (R131 to R134). -/

set_option Elab.async false

namespace Sys2Proof.Machine

/-! ### The entries that a RESULT takes (R133) -/

theorem Entry.size_le (e : Entry) : e.size ≤ 38 := by
  cases e with
  | gate _ => simp [Entry.size]
  | point p => simp only [Entry.size, Mask.count]; split <;> split <;> omega

/-- Behind a head that takes so many bytes, the entries that follow are as many as fit. -/
theorem moreEntries_takes (l : List Entry) {held used : Nat} (few : held ≤ 4) :
    held + moreEntries l held used ≤ 4 ∧ moreEntries l held used ≤ l.length ∧
    (used ≤ 46 → used + ((l.take (moreEntries l held used)).map Entry.size).sum ≤ 46) ∧
    (held + moreEntries l held used = 4 ∨ moreEntries l held used = l.length ∨
      46 < used + ((l.take (moreEntries l held used + 1)).map Entry.size).sum) := by
  induction l generalizing held used with
  | nil => simp [moreEntries, few]
  | cons e rest ih =>
    rw [moreEntries]
    split
    · next fits =>
      obtain ⟨bound, inside, size, most⟩ := ih (held := held + 1) (used := used + e.size) fits.1
      refine ⟨by omega, by simp only [List.length_cons]; omega, fun _ => ?_, ?_⟩
      · have within := size fits.2
        rw [Nat.add_comm 1, List.take_succ_cons, List.map_cons, List.sum_cons]
        omega
      · rw [Nat.add_comm 1, List.take_succ_cons, List.map_cons, List.sum_cons, List.length_cons]
        omega
    · next full =>
      refine ⟨few, by simp, by simp, ?_⟩
      simp only [Nat.zero_add, List.take_succ_cons, List.take_zero, List.map_cons, List.map_nil, List.sum_cons, List.sum_nil]
      omega

theorem entriesTaken_takes {q : List Entry} (some : q ≠ []) : TakesEntries q (entriesTaken q) := by
  cases q with
  | nil => exact absurd rfl some
  | cons e rest =>
    obtain ⟨bound, inside, size, most⟩ := moreEntries_takes rest (held := 1) (used := e.size) (by omega)
    have head := e.size_le
    refine ⟨by rw [entriesTaken]; omega, by rw [entriesTaken]; omega, by rw [entriesTaken, List.length_cons]; omega, ?_, ?_⟩
    · rw [entriesTaken, Nat.add_comm 1, List.take_succ_cons, List.map_cons, List.sum_cons]
      exact size (by omega)
    · rw [entriesTaken, Nat.add_comm 1, List.take_succ_cons, List.map_cons, List.sum_cons, List.length_cons]
      omega

/-! ### The test for formation (R132 to R134) -/

/-- The result part waits for a frame: no RESULT there, room, and no STATUS due. -/
def State.ResultClear (s : State) : Prop := s.bli.report.any isResult = false ∧ s.bli.report.length < 4 ∧ s.rrp.statusDue = false

section
variable {s : State}

theorem State.resultCalled_iff : s.resultCalled = true ↔ s.rrp.queue ≠ [] ∧
    (s.rrp.tq ≤ s.rrp.queue.length ∨ (∃ x ∈ s.rrp.queue, x.isPoint = true) ∨ s.rrp.call = true) ∧ s.ResultClear ∧ s.sys.holds.reporting = false := by
  simp only [State.resultCalled, State.ResultClear, State.reportRoom, Bool.and_eq_true, Bool.or_eq_true, decide_eq_true_eq, Bool.not_eq_true',
    List.any_eq_true, ne_eq, or_assoc, and_assoc]

theorem Rrp.afterFormation_delay (r : Rrp) : r.afterFormation.delay =
    if r.afterFormation.queue = [] then none else if r.td = 0 then r.delay else some r.td := by
  simp only [Rrp.afterFormation, Rrp.startDelay]
  split_ifs <;> simp_all

theorem Rrp.afterFormation_rest (r : Rrp) : r.afterFormation.queue = r.queue.drop (entriesTaken r.queue) ∧ r.afterFormation.drops = 0 ∧
    r.afterFormation.call = false := by
  simp only [Rrp.afterFormation, Rrp.startDelay]
  split_ifs <;> simp

/-- A test that calls for a frame forms a RESULT of the head of the queue. -/
theorem State.testResult_formsResult (called : s.resultCalled = true) (on : s.rsq.runState ≠ .clashed) :
    s.FormsResult s.testResult s.rrp.queue s.rrp.drops ∧ s.testResult.rrp.delay =
      if s.testResult.rrp.queue = [] then none else if s.rrp.td = 0 then s.rrp.delay else some s.rrp.td := by
  obtain ⟨some, -⟩ := State.resultCalled_iff.1 called
  obtain ⟨queue, drops, call⟩ := s.rrp.afterFormation_rest
  have rrp : s.testResult.rrp = s.rrp.afterFormation := by rw [s.testResult_forms called on]; rfl
  have bli : s.testResult.bli = { s.bli with
      report := s.bli.report ++ [.result s.rrp.drops (s.rrp.queue.take (entriesTaken s.rrp.queue))] } := by
    rw [s.testResult_forms called on]
    rfl
  rw [State.FormsResult, rrp, bli]
  exact ⟨⟨_, entriesTaken_takes some, rfl, queue, drops, call⟩, s.rrp.afterFormation_delay⟩
end

/-! ### An entry joins the queue (R131, R134) -/

/-- The delay timer after a start (R134). -/
def Rrp.started (r : Rrp) : Option Nat := if r.td = 0 then r.delay else some r.td

/-- From `s` to `t` the queue `q` and a drop count stand, and a RESULT is formed of them if one is called for. -/
structure State.Queues (s t : State) (q : List Entry) (drops : Nat) : Prop where
  waits : ¬ (s.ResultClear ∧ (s.rrp.tq ≤ q.length ∨ (∃ x ∈ q, x.isPoint = true) ∨ s.rrp.call = true)) →
    t.bli = s.bli ∧ t.rrp.queue = q ∧ t.rrp.drops = drops ∧ t.rrp.call = s.rrp.call ∧ t.rrp.delay = s.rrp.started
  forms : s.ResultClear ∧ (s.rrp.tq ≤ q.length ∨ (∃ x ∈ q, x.isPoint = true) ∨ s.rrp.call = true) →
    s.FormsResult t q drops ∧ t.rrp.delay = if t.rrp.queue = [] then none else s.rrp.started

section
variable {s : State} {e : Entry}

/-- The station with the entry at the tail of the queue, before the test for formation. -/
def State.joined (s : State) (e : Entry) : State := s.mapRrp fun r => { r with queue := r.queue ++ [e] }.startDelay

theorem State.joined_rrp : (s.joined e).rrp = { s.rrp with queue := s.rrp.queue ++ [e], delay := s.rrp.started } := by
  simp only [State.joined, State.mapRrp_rrp, Rrp.startDelay, Rrp.started]
  split <;> rfl

theorem State.joinTail_queues (free : s.sys.holds.reporting = false) (on : s.rsq.runState ≠ .clashed) :
    s.Queues (s.joinTail e) (s.rrp.queue ++ [e]) s.rrp.drops := by
  have called : (s.joined e).resultCalled = true ↔ s.ResultClear ∧
      (s.rrp.tq ≤ (s.rrp.queue ++ [e]).length ∨ (∃ x ∈ s.rrp.queue ++ [e], x.isPoint = true) ∨ s.rrp.call = true) := by
    have clear : (s.joined e).ResultClear ↔ s.ResultClear := by rw [State.ResultClear, State.joined_rrp]; rfl
    rw [State.resultCalled_iff, clear, State.joined_rrp]
    simp only [ne_eq, List.append_eq_nil_iff, List.cons_ne_self, and_false, not_false_eq_true, true_and, show (s.joined e).sys = s.sys from rfl, free,
      and_true]
    exact and_comm
  refine ⟨fun idle => ?_, fun calls => ?_⟩
  · rw [State.joinTail, ← State.joined, State.testResult_idle _ (Bool.eq_false_iff.2 (mt called.1 idle)), State.joined_rrp]
    exact ⟨rfl, rfl, rfl, rfl, rfl⟩
  · obtain ⟨forms, delay⟩ := State.testResult_formsResult (called.2 calls) on
    rw [State.joined_rrp] at forms delay
    refine ⟨forms, delay.trans (if_congr Iff.rfl rfl ?_)⟩
    simp only [Rrp.started]
    split <;> rfl

theorem State.ite_mapRrp (c : Prop) [Decidable c] (t u : State) (f : Rrp → Rrp) :
    (if c then t else u).mapRrp f = if c then t.mapRrp f else u.mapRrp f := apply_ite (fun t : State => t.mapRrp f) c t u

theorem State.offerReport_drops (r : ReportFrame) (n : Nat) : (s.mapRrp fun r => { r with drops := n }).offerReport r =
    (s.offerReport r).mapRrp fun r => { r with drops := n } := by
  simp only [State.offerReport, State.ite_mapRrp]
  rfl

theorem State.callStatus_drops (n : Nat) : (s.mapRrp fun r => { r with drops := n }).callStatus = s.callStatus.mapRrp fun r => { r with drops := n } := by
  simp only [State.callStatus, State.ite_mapRrp, ← State.offerReport_drops]
  rfl

/-- A count of drops is nothing to a raised event. -/
theorem State.raise_drops (e : Event) (n : Nat) : (s.mapRrp fun r => { r with drops := n }).raise e = (s.raise e).mapRrp fun r => { r with drops := n } := by
  simp only [State.raise, State.ite_mapRrp, ← State.callStatus_drops]
  rfl

theorem State.handEntry_held (held : s.sys.holds.reporting = true) : s.handEntry e = s := if_pos held

theorem State.handEntry_joins (free : s.sys.holds.reporting = false) (room : s.rrp.queue.length < 16) : s.handEntry e = s.joinTail e := by
  rw [State.handEntry, if_neg (by simp [free]), if_pos room]

/-- The station that has dropped an entry. -/
def State.droppedOne (s : State) : State := (s.raise .reportDropped).mapRrp fun r => { r with drops := bump 255 s.rrp.drops }

theorem State.handEntry_full (free : s.sys.holds.reporting = false) (full : 16 ≤ s.rrp.queue.length) : s.handEntry e =
    if e.isPoint then (s.droppedOne.mapRrp fun r => { r with queue := displaced r.queue }).joinTail e else s.droppedOne := by
  rw [State.handEntry, if_neg (by simp [free]), if_neg (by omega)]
  simp only [State.droppedOne, ← State.raise_drops]
  rfl
end

theorem displaced_gate {pre post : List Entry} {g : GateEntry} (points : ∀ x ∈ pre, x.isPoint = true) :
    displaced (pre ++ .gate g :: post) = pre ++ post := by
  have gate : (pre ++ Entry.gate g :: post).any (fun e => !e.isPoint) = true := by simp [Entry.isPoint]
  rw [displaced, if_pos gate, List.eraseP_append_right _ (by simpa using points)]
  simp [Entry.isPoint]

theorem displaced_points {q : List Entry} (points : ∀ x ∈ q, x.isPoint = true) : displaced q = q.tail := by
  rw [displaced, if_neg (by simpa using points), List.drop_one]

/-- What joining the queue leaves alone, and the flags and STATUS that are due. -/
theorem State.joinTail_rest {s : State} {e : Entry} : (s.joinTail e).rsq = s.rsq ∧ (s.joinTail e).ecu = s.ecu ∧ (s.joinTail e).rst = s.rst ∧
    (s.joinTail e).rrp.flags = s.rrp.flags ∧ (s.joinTail e).rrp.statusDue = s.rrp.statusDue := by
  have joined : (s.joined e).rrp.flags = s.rrp.flags ∧ (s.joined e).rrp.statusDue = s.rrp.statusDue := by rw [State.joined_rrp]; exact ⟨rfl, rfl⟩
  simpa [State.joinTail, State.joined] using joined

theorem State.FormsResult.relamp {s t : State} {q : List Entry} {drops : Nat} (h : s.FormsResult t q drops) : s.FormsResult t.relamp q drops := by
  simpa only [State.FormsResult, State.relamp_frame] using h

/-- The station with the entry that a point entry displaces gone from a full queue. -/
def State.displacing (s : State) : State := s.droppedOne.mapRrp fun r => { r with queue := displaced r.queue }

theorem State.droppedOne_stands {s : State} : s.droppedOne.rrp.queue = s.rrp.queue ∧ s.droppedOne.rrp.tq = s.rrp.tq ∧ s.droppedOne.rrp.td = s.rrp.td ∧
    s.droppedOne.rrp.delay = s.rrp.delay ∧ s.droppedOne.rrp.call = s.rrp.call ∧ s.droppedOne.rsq = s.rsq ∧ s.droppedOne.ecu = s.ecu ∧
    s.droppedOne.rst = s.rst ∧ s.droppedOne.sys = s.sys := by
  simp [State.droppedOne]

/-- A point entry takes its place in a full queue. -/
theorem State.handEntry_displaces {s : State} {p : PointEntry} (free : s.sys.holds.reporting = false) (on : s.rsq.runState ≠ .clashed)
    (full : 16 ≤ s.rrp.queue.length) {q : List Entry} (left : displaced s.rrp.queue = q) : s.displacing.Queues (s.handEntry (.point p)) (q ++ [.point p])
      (bump 255 s.rrp.drops) := by
  obtain ⟨queue, tq, td, delay, call, rsq, ecu, rst, sys⟩ := State.droppedOne_stands (s := s)
  have joins := State.joinTail_queues (s := s.displacing) (e := .point p) (by rw [show s.displacing.sys = s.droppedOne.sys from rfl, sys]; exact free)
    (by rw [show s.displacing.rsq = s.droppedOne.rsq from rfl, rsq]; exact on)
  rw [show s.displacing.rrp.queue = displaced s.droppedOne.rrp.queue from rfl, queue, left] at joins
  rw [(State.handEntry_full free full).trans (if_pos rfl)]
  exact joins

/-- Settles O43: an entry handed on, by the room in the queue and its kind, and the delay timer, by what it finds there. -/
theorem entriesJoinTheQueueAndLeaveInResults : Obligations.EntriesJoinTheQueueAndLeaveInResults := by
  unfold Obligations.EntriesJoinTheQueueAndLeaveInResults
  refine ⟨fun s e held => State.handEntry_held held, fun s e free on => ?_, fun s n runs => ?_⟩
  · intro t u started bumped joined
    by_cases room : s.rrp.queue.length < 16
    · have same : u = s := if_pos room
      have joins : t = s.joinTail e := State.handEntry_joins free room
      obtain ⟨waits, forms⟩ := State.joinTail_queues (e := e) free on
      obtain ⟨rsq, ecu, rst, flags, statusDue⟩ := State.joinTail_rest (s := s) (e := e)
      rw [← joins] at waits forms rsq ecu rst flags statusDue
      rw [show u.rrp = s.rrp from same ▸ rfl]
      refine ⟨rsq, ecu, rst, flags, statusDue, fun _ => ?_, fun full => absurd room (by omega)⟩
      simp only [joined, same]
      exact ⟨waits, forms⟩
    · have same : u = s.raise .reportDropped := if_neg room
      have full : 16 ≤ s.rrp.queue.length := by omega
      obtain ⟨queue, tq, td, delay, call, rsq, ecu, rst, sys⟩ := State.droppedOne_stands (s := s)
      have rest : t.rsq = s.rsq ∧ t.ecu = s.ecu ∧ t.rst = s.rst ∧ t.rrp.flags = (s.raise .reportDropped).rrp.flags ∧
          t.rrp.statusDue = (s.raise .reportDropped).rrp.statusDue := by
        have handed : t = _ := State.handEntry_full free full
        rw [handed]
        split
        · obtain ⟨rsq', ecu', rst', flags, statusDue⟩ := State.joinTail_rest (s := s.displacing) (e := e)
          exact ⟨rsq'.trans rsq, ecu'.trans ecu, rst'.trans rst, flags, statusDue⟩
        · exact ⟨rsq, ecu, rst, rfl, rfl⟩
      obtain ⟨rsq', ecu', rst', flags, statusDue⟩ := rest
      rw [same]
      refine ⟨rsq', ecu', rst', flags, statusDue, fun few => absurd few room, fun _ => ⟨?_, fun g isGate => ?_, fun p isPoint => ?_⟩⟩
      · rw [flags, State.isIn_raise]
        simp
      · have dropped : t = s.droppedOne := by
          subst isGate
          exact (State.handEntry_full free full).trans (if_neg (by simp [Entry.isPoint]))
        rw [dropped]
        exact ⟨queue, rfl, delay, rfl⟩
      · have displaces (q : List Entry) (left : displaced s.rrp.queue = q) : joined (q ++ [e]) bumped := by
          subst isPoint
          obtain ⟨waits, forms⟩ := State.handEntry_displaces (p := p) free on full left
          have started' : s.displacing.rrp.started = started := by
            simp only [Rrp.started, started]
            rw [← td, ← delay]
            rfl
          rw [show s.displacing.rrp.tq = s.rrp.tq from tq, show s.displacing.rrp.call = s.rrp.call from call, started'] at waits forms
          simp only [joined, same]
          exact ⟨waits, forms⟩
        exact ⟨fun pre g post isQueue points => displaces _ (isQueue ▸ displaced_gate points), fun points => displaces _ (displaced_points points)⟩
  · have exec : exec .delayTimerExpiry s = (if s.rrp.queue = [] then s.mapRrp fun r => { r with delay := none }
        else (s.mapRrp fun r => { r with delay := none, call := true }).testResult).finish := by
      rw [exec_delayTimerExpiry, execDelayTimerExpiry, if_pos (by simp [runs])]
      rfl
    let calls : State := s.mapRrp fun r => { r with delay := none, call := true }
    have called : calls.resultCalled = true ↔ s.rrp.queue ≠ [] ∧ s.ResultClear ∧ s.sys.holds.reporting = false := by
      rw [State.resultCalled_iff]
      simp only [calls, State.mapRrp_rrp, or_true, true_and]
      rfl
    rw [exec]
    refine ⟨fun some clear free on => ?_, fun follows some idle => ?_, fun follows empty => ?_⟩
    · obtain ⟨forms, delay⟩ := State.testResult_formsResult (called.2 ⟨some, clear, free⟩) on
      rw [if_neg some]
      refine ⟨_, rfl, State.FormsResult.relamp forms, ?_, by simp, by simp, by simp⟩
      simp only [State.relamp_frame]
      rw [delay, ite_or]
      rfl
    · have none : calls.resultCalled = false := by
        rw [← Bool.not_eq_true, called]
        exact fun ⟨_, clear, free⟩ => idle.elim (fun h => h clear) fun h => by simp [free] at h
      rw [if_neg some, State.testResult_idle calls none]
      exact State.finish_of_follows _ (State.mapRrp_lampsFollow _ follows)
    · rw [if_pos empty]
      exact State.finish_of_follows _ (State.mapRrp_lampsFollow _ follows)

end Sys2Proof.Machine
end


section
/-! PROOFS. A frame sent: what its part and its owner take from it (R93, R96, R98, R111, R121, R137, R144). -/

set_option Elab.async false

namespace Sys2Proof.Machine

section
variable {s : State} {a : Attempt}

/-- The attempt's end shows the line recessive since the frame's last dominant bit (R91). -/
theorem State.attemptEnded_eq (settled : s.bli.afterStuck = false) : s.attemptEnded a = s.mapBli fun b => { b with
    stage := RxStage.reset, low := false, quiet := recessiveTail a.bytes * s.sys.rate.bitTime, attempt := none
    w := BitVec.ofNat 6 s.sys.address } := by
  have line := s.frameEnded_bli (lineTime a.bytes.length) (recessiveTail a.bytes) 0
  rw [settled, Bool.false_and, Nat.zero_add] at line
  have bli : (s.attemptEnded a).bli = _ := congrArg (fun b : Bli => { b with attempt := none, w := BitVec.ofNat 6 s.sys.address }) line
  have only : s.attemptEnded a = s.mapBli fun _ => (s.attemptEnded a).bli := rfl
  rw [only, bli, State.mapBli, State.mapBli]
  simp only [← settled]

/-- A frame leaves the coordination part, and the earliest frames kept for it take the places (R98). -/
theorem State.headSent_eq {f : CoordFrame} {rest : List CoordFrame} (settled : s.bli.afterStuck = false) (head : s.bli.coord = f :: rest) :
    s.headSent a = (s.mapBli fun b => { b with
      stage := RxStage.reset, low := false, quiet := recessiveTail a.bytes * s.sys.rate.bitTime, attempt := none
      w := BitVec.ofNat 6 s.sys.address }).mapBli fun b => { b with
        coord := rest ++ s.bli.waiting.take (6 - rest.length), waiting := s.bli.waiting.drop (6 - rest.length) } := by
  rw [State.headSent, State.attemptEnded_eq settled, State.dropHead]
  simp only [State.mapBli, Bli.refill, head, List.drop_succ_cons, List.drop_zero]

theorem State.exec_frameSent_report (sends : s.bli.attempt = some a) (part : a.part = .reporting) :
    exec .frameSent s = ((s.attemptEnded a).mapBli fun b => { b with report := b.report.drop 1 }).reportLeft.finish := by
  rw [exec_frameSent, execFrameSent, sends]
  simp only [State.sendEnds, part]
  rfl

/-- What is nothing to the lamps is nothing to them in a frame sent. -/
theorem State.LampsFollow.of_line (follows : s.LampsFollow) {t : State} (runState : t.rsq.runState = s.rsq.runState)
    (verdict : t.rsq.verdict = s.rsq.verdict) (roster : t.rsq.roster = s.rsq.roster) (sys : t.sys = s.sys) (lamps : t.seu.lamps = s.seu.lamps) :
    t.LampsFollow := by
  rw [State.LampsFollow, s.lampDrives_congr t runState verdict roster (congrArg _ sys), lamps]
  exact follows

/-! ### The owner of a coordination frame (R111, R144, R151) -/

theorem State.claimWasSent_opens {run : Half} (current : s.rsq.run = some run) (waits : s.seu.claim.state = .claimWait) :
    s.claimWasSent run (s.seu.watermark + 1) = s.mapSeu fun u => { u with
      watermark := s.seu.watermark + 1
      claim := { u.claim with state := .claimOpen, serial := some (s.seu.watermark + 1), confirm := some 50000 } } := by
  rw [State.claimWasSent]
  dsimp only
  rw [if_pos ⟨decide_eq_true current, waits⟩]
  have higher : max s.seu.watermark (s.seu.watermark + 1) = s.seu.watermark + 1 := by omega
  simp only [State.mapSeu, higher]
  rfl

theorem State.claimWasSent_raises {run : Half} {serial : Nat} (gone : s.rsq.run ≠ some run ∨ s.seu.claim.state ≠ .claimWait) :
    s.claimWasSent run serial = s.mapSeu fun u => { u with watermark := if u.watermark < serial then serial else u.watermark } := by
  rw [State.claimWasSent]
  dsimp only
  rw [if_neg fun h => gone.elim (fun other => other (of_decide_eq_true h.1)) fun other => other h.2]
  have higher : max s.seu.watermark serial = if s.seu.watermark < serial then serial else s.seu.watermark := by split <;> omega
  simp only [State.mapSeu, higher]

theorem State.enrolWasSent_enrols {run : Half} (current : s.rsq.run = some run) (state : s.rsq.runState = .enrolling)
    (opened : s.rsq.enrolWindow ≠ none) : s.enrolWasSent run = s.mapRsq fun q => { q with enrolSent := true } := by
  rw [State.enrolWasSent, if_pos ⟨decide_eq_true current, state⟩]
  exact if_neg opened

theorem State.enrolWasSent_late {run : Half} (current : s.rsq.run = some run) (state : s.rsq.runState = .enrolling)
    (closed : s.rsq.enrolWindow = none) :
    s.enrolWasSent run = (s.mapRsq fun q => { q with enrolSent := true }).enterWaitLoad 0 s.plt.head := by
  rw [State.enrolWasSent, if_pos ⟨decide_eq_true current, state⟩]
  exact if_pos closed

/-! ### The reporting part (R96, R132, R137) -/

/-- A due STATUS is queued before a waiting request is taken. -/
theorem State.queueDueStatus_queues (due : s.rrp.statusDue = true) (room : s.bli.report.length < 4) (on : s.rsq.runState ≠ .clashed) :
    s.queueDueStatus = (s.mapBli fun b => { b with report := s.bli.report ++ [.status] }).mapRrp fun r => { r with statusDue := false } := by
  rw [State.queueDueStatus, if_pos (by simp [due, State.reportRoom, room]), State.offerReport, if_neg on]
  simp only [State.mapBli, if_pos room]

theorem State.queueDueStatus_none (due : s.rrp.statusDue = false) : s.queueDueStatus = s := if_neg (by simp [due])

theorem State.reportLeft_full (full : s.queueDueStatus.bli.report.length = 4) : s.reportLeft = s.queueDueStatus := by
  have noRoom : s.queueDueStatus.reportRoom = false := (State.reportRoom_eq_false (by omega)).2 full
  rw [State.reportLeft]
  rw [State.takeRequests_full noRoom, State.testResult_idle _ (by simp [State.resultCalled, noRoom])]

theorem State.reportLeft_unasked (none : s.bli.buffer = []) : s.reportLeft = s.queueDueStatus.testResult := by
  have kept : s.queueDueStatus.bli.buffer = [] := by simpa using none
  rw [State.reportLeft]
  rw [kept, State.takeRequests]

/-- The request at the head of the receive buffer is taken while the part has room (R96). -/
theorem State.reportLeft_takes {q : RxFrame} {more : List RxFrame} (due : s.rrp.statusDue = false) (buffer : s.bli.buffer = q :: more)
    (request : q.isRequest = true) (room : s.bli.report.length < 4) :
    s.reportLeft = (((s.mapBli fun b => { b with buffer := more }).answer q).takeRequests more).testResult := by
  have taken : (s.mapBli fun b => { b with buffer := b.buffer.erase q }) = s.mapBli fun b => { b with buffer := more } := by
    simp [State.mapBli, buffer]
  rw [State.reportLeft, State.queueDueStatus_none due]
  rw [buffer, State.takeRequests, if_pos (by simp [request, State.reportRoom, room]), taken]

/-- A request and the command that it brings (R96). -/
def RxFrame.Asks (q : RxFrame) (c : Instr) : Prop := (q.kind = 10 ∧ c = .statusAsk) ∨
  (∃ n, q.kind = 11 ∧ q.payload = [n] ∧ (n.toNat < 32 ∨ n = 255) ∧ c = .recordAsk n) ∨
  ∃ n, q.kind = 14 ∧ q.payload = [n] ∧ n.toNat ≤ 32 ∧ c = .storeSumAsk n

theorem RxFrame.Asks.isRequest {q : RxFrame} {c : Instr} (asks : q.Asks c) : q.isRequest = true := by
  rcases asks with ⟨kind, -⟩ | ⟨n, kind, -⟩ | ⟨n, kind, -⟩ <;> rw [RxFrame.isRequest, kind] <;> decide

/-- With room in the part a request is answered as its command is. -/
theorem State.exec_asked {q : RxFrame} {c : Instr} (takes : s.takesFrames = true) (room : s.bli.report.length < 4) (asks : q.Asks c) :
    exec c s = (s.answer q).finish := by
  have roomy : s.reportRoom = true := decide_eq_true room
  rcases asks with ⟨kind, rfl⟩ | ⟨n, kind, payload, form, rfl⟩ | ⟨n, kind, payload, form, rfl⟩
  · rw [exec_statusAsk, execStatusAsk, s.taken_act _ takes, State.takeRequest, if_pos roomy, State.answer, State.answer, kind]
    rfl
  · have wf : (decide (n.toNat < 32) || decide (n = 255)) = true := by simpa using form
    rw [exec_recordAsk, execRecordAsk, wf, s.taken_act _ takes, State.takeRequest, if_pos roomy, State.answer, State.answer, kind, payload]
    rfl
  · rw [exec_storeSumAsk, execStoreSumAsk, decide_eq_true form, s.taken_act _ takes, State.takeRequest, if_pos roomy, State.answer, State.answer, kind,
      payload]
    rfl

theorem State.offerReport_fills {f : ReportFrame} (on : s.rsq.runState ≠ .clashed) (last : s.bli.report.length = 3) :
    (s.offerReport f).bli.report.length = 4 := by
  rw [State.offerReport, if_neg on]
  simp [State.mapBli, last]

/-- An answer fills the last place of the part, or is a refusal, or a STATUS that waits there already. -/
theorem State.answer_cases (q : RxFrame) (takes : s.takesFrames = true) (on : s.rsq.runState ≠ .clashed) (last : s.bli.report.length = 3) :
    (s.answer q).bli.report.length = 4 ∨ s.answer q = s.mapRrp fun r => { r with lastRefusal := (s.answer q).rrp.lastRefusal } := by
  have off : s.rsq.runState ≠ .starting := fun h => by simp [State.takesFrames, h] at takes
  have room : s.reportRoom = true := decide_eq_true (by omega)
  simp only [State.answer, State.callStatus, if_neg on, if_neg off, room, if_true, State.answerRecord, State.answerSum]
  split_ifs
  exacts [.inr rfl, .inl (State.offerReport_fills on last), .inr rfl, .inl (State.offerReport_fills on last), .inr rfl,
    .inl (State.offerReport_fills on last)]
end

/-! ### The own LAPSE (R121) -/

section
variable {s : State} {a : Attempt}

theorem State.coordWasSent_lapse {run : Half} {n : Nat} (current : s.rsq.run = some run) :
    s.coordWasSent (.lapse run n) a = s.applyLapse n fun x => a.list.contains x := by
  rw [State.coordWasSent, State.lapseWasSent]
  exact if_pos (decide_eq_true current)

/-- An address with an entry that has reported a point is one of the bench's. -/
theorem RosterEntry.reached_position {r : List RosterEntry} {x n : Nat} (size : r.length = 60) (there : (rosterAt r x).reached n = true) :
    1 ≤ x ∧ x ≤ 60 := by
  cases x with
  | zero => simp [rosterAt, RosterEntry.reached, RosterEntry.reset] at there
  | succ k =>
    refine ⟨by omega, ?_⟩
    by_contra past
    have outside : r.length ≤ k := by omega
    simp [rosterAt, outside, RosterEntry.reached, RosterEntry.reset] at there

/-- The own LAPSE for the point in BARRIER closes it once the own DONE has been sent. -/
theorem State.headSent_lapse {run : Half} (sends : s.bli.attempt = some a) (part : a.part = .coordination) (current : s.rsq.run = some run)
    (state : s.rsq.runState = .barrier) (sized : s.Sized) (unlisted : s.sys.address ∉ a.list) (there : s.ownEntry.reached s.rsq.seq = true) :
    ∃ t, ((s.headSent a).coordWasSent (.lapse run s.rsq.seq) a).finish = .next t ∧ t.rsq.runState ≠ .barrier ∧ t.rsq.barrier = .stopped ∧
      (s.mapRsq fun q => { q with roster := t.rsq.roster }).ClosesPoint t ∧
      ∀ x ∈ a.list, 1 ≤ x → x ≤ 60 → rosterAt t.rsq.roster x = (rosterAt s.rsq.roster x).lapse true false s.rsq.seq := by
  let named : Nat → Bool := fun x => a.list.contains x
  let w := (s.headSent a).lapsing s.rsq.seq named
  obtain ⟨low, high⟩ := RosterEntry.reached_position sized.roster there
  have unnamed : named s.sys.address = false := by simpa [named] using unlisted
  have sized' : (s.headSent a).rsq.roster.length = 60 := sized.roster
  have met : w.barrierMet = true := (State.lapsing_barrierMet_iff (s := s.headSent a) sized' low high unnamed).2 fun behind =>
    Bool.false_ne_true (behind.2.symm.trans there)
  have applies : (s.headSent a).lapseApplies s.rsq.seq = true := State.lapseApplies_iff.2 (.inl ⟨rfl, .inr (.inr (.inl state))⟩)
  have closes : (s.headSent a).coordWasSent (.lapse run s.rsq.seq) a = w.closeBarrier := by
    rw [State.coordWasSent_lapse (s := s.headSent a) current, State.applyLapse_decides applies unnamed]
    exact (if_pos rfl).trans (State.testBarrier_closes w (show w.rsq.runState = .barrier by simp only [w, State.lapsing, State.withdrawFrames_frame, State.lapseRoster_frame]; exact state) met)
  have address : w.sys.address = s.sys.address := by simp [w, State.lapsing]; rfl
  have kept (y : Nat) (other : y ≠ s.sys.address) : rosterAt w.closeBarrier.relamp.rsq.roster y = rosterAt w.rsq.roster y := by
    simpa using State.closeBarrier_rosterAt w (y := y) (by rwa [address])
  obtain ⟨rrp, report, sending, runState, sys⟩ := State.headSent_sameReporter sends part
  have point : ((s.headSent a).mapRsq fun q => { q with roster := w.closeBarrier.relamp.rsq.roster }).SamePoint
      (s.mapRsq fun q => { q with roster := w.closeBarrier.relamp.rsq.roster }) :=
    ⟨⟨rrp.symm, report.symm, sending.symm, runState.symm, sys.symm⟩, rfl, rfl, rfl, rfl, rfl, rfl, rfl⟩
  rw [closes]
  refine ⟨_, rfl, by simpa using w.closeBarrier_not_barrier, by simpa using w.closeBarrier_barrier,
    (w.closeBarrier_closesPoint.relamp.of_same (State.lapsing_samePoint kept)).of_same point, fun x listed low high => ?_⟩
  have other : x ≠ s.sys.address := fun same => unlisted (same ▸ listed)
  rw [kept x other, State.lapsing_rosterAt sized' low high, decide_eq_false (show ¬ x = (s.headSent a).sys.address from other)]
  simp only [named, List.contains_iff_mem.2 listed]
  rfl
end

/-- Settles O22: each frame by its kind, the reporting part by what is due and what waits. -/
theorem sentFrameLeavesItsPart : Obligations.SentFrameLeavesItsPart := by
  unfold Obligations.SentFrameLeavesItsPart
  intro s a follows sends settled ended sent
  have finish (t : State) (runState : t.rsq.runState = s.rsq.runState) (verdict : t.rsq.verdict = s.rsq.verdict)
      (roster : t.rsq.roster = s.rsq.roster) (sys : t.sys = s.sys) (lamps : t.seu.lamps = s.seu.lamps) : t.finish = .next t :=
    State.finish_of_follows _ (follows.of_line runState verdict roster sys lamps)
  refine ⟨fun part => ?_, fun f rest part head due queue buffer => ?_, fun f rest part head sized on => ?_⟩
  · have told {f : CoordFrame} {rest : List CoordFrame} (head : s.bli.coord = f :: rest) :
        exec .frameSent s = ((sent rest).coordWasSent f a).finish := by
      rw [State.exec_frameSent_coord sends part head, State.headSent_eq settled head]
    refine ⟨fun run n reason rest head => ?_, fun run x v h rest head => ?_, fun run rest head current waits serial => ?_,
      fun run rest head gone => ?_, fun run rest head current state => ⟨fun opened => ?_, fun closed passes => ?_⟩,
      fun run rest head current state sized unlisted there => ?_⟩
    · rw [told head]
      exact finish (sent rest) rfl rfl rfl rfl rfl
    · rw [told head]
      exact finish (sent rest) rfl rfl rfl rfl rfl
    · rw [told head, State.coordWasSent, serial]
      refine (congrArg State.finish (State.claimWasSent_opens (s := sent rest) current waits)).trans ?_
      exact finish _ rfl rfl rfl rfl rfl
    · rw [told head, State.coordWasSent, State.claimWasSent_raises (s := sent rest) gone]
      exact finish _ rfl rfl rfl rfl rfl
    · rw [told head, State.coordWasSent, State.enrolWasSent_enrols (s := sent rest) current state opened]
      exact finish _ rfl rfl rfl rfl rfl
    · rw [told head, State.coordWasSent, State.enrolWasSent_late (s := sent rest) current state closed,
        State.enterWaitLoad_passes (by exact passes)]
      refine ⟨_, rfl, ?_⟩
      simp only [State.relamp_frame]
      exact ⟨rfl, rfl, rfl, rfl⟩
    · obtain ⟨t, leads, state', barrier, closes, listed⟩ := State.headSent_lapse sends part current state sized unlisted there
      rw [State.exec_frameSent_coord sends part head]
      refine ⟨t, leads, state', barrier, closes, fun x isListed low high => ?_⟩
      rw [listed x isListed low high]
      rfl
  · have left : (s.attemptEnded a).mapBli (fun b => { b with report := b.report.drop 1 }) = ended.mapBli fun b => { b with report := rest } := by
      rw [State.attemptEnded_eq settled]
      simp only [ended, State.mapBli, head, List.drop_succ_cons, List.drop_zero]
    rw [State.exec_frameSent_report sends part, left, State.reportLeft_unasked (by exact buffer), State.queueDueStatus_none (by exact due),
      State.testResult_empty (by exact queue)]
    exact finish _ rfl rfl rfl rfl rfl
  · intro left u called asks
    have drop : (s.attemptEnded a).mapBli (fun b => { b with report := b.report.drop 1 }) = left := by
      rw [State.attemptEnded_eq settled]
      simp only [left, ended, State.mapBli, head, List.drop_succ_cons, List.drop_zero]
    have few : rest.length ≤ 3 := by
      have bound := sized.reporting
      rw [head, List.length_cons] at bound
      omega
    have queued : left.queueDueStatus = u := by
      by_cases due : s.rrp.statusDue = true
      · exact (State.queueDueStatus_queues (s := left) due (show rest.length < 4 by omega) on).trans (if_pos due).symm
      · exact (State.queueDueStatus_none (s := left) (Bool.eq_false_iff.2 due)).trans (if_neg due).symm
    have same : u.rsq = s.rsq ∧ u.rst = s.rst ∧ u.seu = s.seu ∧ u.sys = s.sys ∧ u.rrp = { s.rrp with statusDue := false } := by
      by_cases due : s.rrp.statusDue = true
      · rw [show u = _ from if_pos due]
        exact ⟨rfl, rfl, rfl, rfl, rfl⟩
      · rw [show u = _ from if_neg due]
        exact ⟨rfl, rfl, rfl, rfl, congrArg (fun b => { s.rrp with statusDue := b }) (Bool.eq_false_iff.2 due)⟩
    obtain ⟨rsq, rst, seu, sys, rrp⟩ := same
    have lit : u.finish = .next u := finish u (by rw [rsq]) (by rw [rsq]) (by rw [rsq]) sys (by rw [seu])
    have calls : u.resultCalled = true ↔ called := by
      have clear : u.ResultClear ↔ (∀ g ∈ u.bli.report, isResult g = false) ∧ u.bli.report.length < 4 := by
        rw [State.ResultClear, rrp]
        simp
      rw [State.resultCalled_iff, clear, sys]
      simp only [called, and_assoc]
    have fullRest (waits : s.bli.buffer ≠ []) : rest.length = 3 := by
      obtain ⟨q, isWaiting⟩ := List.exists_mem_of_ne_nil _ waits
      have full := (sized.requestsWait q isWaiting).2
      rw [head, List.length_cons] at full
      omega
    rw [State.exec_frameSent_report sends part, drop]
    refine ⟨fun none idle => ?_, fun none forms => ?_, fun waits due => ?_, fun q more c v buffer due takes asking answered => ?_⟩
    · rw [State.reportLeft_unasked (s := left) none, queued, State.testResult_idle _ (Bool.eq_false_iff.2 (mt calls.1 idle)), lit]
    · obtain ⟨formed, delay⟩ := State.testResult_formsResult (calls.2 forms) (by rw [rsq]; exact on)
      rw [State.reportLeft_unasked (s := left) none, queued]
      refine ⟨u.testResult, finish _ (by simp [rsq]) (by simp [rsq]) (by simp [rsq]) (by simp [sys]) (by simp [seu]), formed, ?_, by simp [rrp],
        by simp [rrp], by simp [rsq], by simp [rst], by simp [seu]⟩
      rw [delay, rrp]
    · have full : left.queueDueStatus.bli.report.length = 4 := by
        rw [queued, show u = _ from if_pos due]
        simp [fullRest waits]
      rw [State.reportLeft_full full, queued, lit]
    · have last : left.bli.report.length = 3 := fullRest (by simp [buffer])
      let asked : State := left.mapBli fun b => { b with buffer := more }
      have room : asked.bli.report.length < 4 := by rw [show asked.bli.report = left.bli.report from rfl, last]; omega
      have asks' : q.Asks c := asking
      have leads : asked.answer q = v := by
        have given := State.exec_asked (s := asked) takes room asks'
        rw [finish (asked.answer q) (by simp [asked, left, ended]) (by simp [asked, left, ended]) (by simp [asked, left, ended])
          (by simp [asked, left, ended]) (by simp [asked, left, ended])] at given
        exact Host.Outcome.next.inj (given.symm.trans answered)
      have takesIt := State.reportLeft_takes (s := left) due buffer asks'.isRequest (by omega)
      rw [takesIt, show (left.mapBli fun b => { b with buffer := more }).answer q = v from leads]
      refine ⟨fun full => ?_, fun some => ?_⟩
      · have noRoom : v.reportRoom = false := (State.reportRoom_eq_false (by omega)).2 full
        rw [State.takeRequests_full noRoom, State.testResult_idle _ (by simp [State.resultCalled, noRoom]), ← leads]
        exact finish _ (by simp [asked, left, ended]) (by simp [asked, left, ended]) (by simp [asked, left, ended]) (by simp [asked, left, ended])
          (by simp [asked, left, ended])
      · have refused : v = asked.mapRrp fun r => { r with lastRefusal := v.rrp.lastRefusal } := by
          rcases State.answer_cases (s := asked) q takes on last with fills | same
          · rw [leads] at fills
            omega
          · rwa [leads] at same
        let next : State := (s.mapBli fun b => { b with buffer := more }).mapRrp fun r => { r with lastRefusal := v.rrp.lastRefusal }
        have dropped : (next.attemptEnded a).mapBli (fun b => { b with report := b.report.drop 1 }) = v := by
          rw [State.attemptEnded_eq (s := next) settled, refused]
          simp only [next, asked, left, ended, State.mapBli, State.mapRrp, head, List.drop_succ_cons, List.drop_zero]
        have kept : v.bli.buffer = more := by rw [refused]; rfl
        have undue : v.rrp.statusDue = false := by rw [refused]; exact due
        rw [State.exec_frameSent_report (s := next) sends part, dropped, State.reportLeft, State.queueDueStatus_none undue, kept]

end Sys2Proof.Machine
end


section
/-! PROOFS. The record store's operations, and the requests that begin behind them (R149, R154 to R158, R162). -/

set_option Elab.async false

namespace Sys2Proof.Machine

/-! ### The lamps through what the store does -/

/-- The lamps and what they ask for stand. -/
def State.KeepsLamps (s t : State) : Prop := t.lampDrives = s.lampDrives ∧ t.seu.lamps = s.seu.lamps

section
variable {s t u : State}

theorem State.KeepsLamps.trans (h : s.KeepsLamps t) (after : t.KeepsLamps u) : s.KeepsLamps u := ⟨after.1.trans h.1, after.2.trans h.2⟩

theorem State.KeepsLamps.follows (h : s.KeepsLamps t) (follows : s.LampsFollow) : t.LampsFollow := by
  rw [State.LampsFollow, h.1, h.2]
  exact follows

theorem State.KeepsLamps.finish (h : s.KeepsLamps t) (follows : s.LampsFollow) : t.finish = .next t := t.finish_of_follows (h.follows follows)

theorem State.KeepsLamps.of_eq (rsq : t.rsq = s.rsq) (sys : t.sys = s.sys) (lamps : t.seu.lamps = s.seu.lamps) : s.KeepsLamps t :=
  ⟨s.lampDrives_congr t (by rw [rsq]) (by rw [rsq]) (by rw [rsq]) (by rw [sys]), lamps⟩

/-- A seal outcome given leaves the lamps: FINISHED shows what SEALING shows (R65). -/
theorem State.giveSeal_keepsLamps (s : State) (o : SealOutcome) : s.KeepsLamps (s.giveSeal o) := by
  refine ⟨?_, by simp⟩
  by_cases sealing : s.rsq.runState = .sealing
  · simp [State.lampDrives, State.ownEntry, State.giveSeal, sealing]
    rfl
  · simp [State.lampDrives, State.ownEntry, State.giveSeal, sealing]
    rfl
end

theorem State.KeepsLamps.rule : StoreRule State.KeepsLamps where
  refl _ := ⟨rfl, rfl⟩
  trans := State.KeepsLamps.trans
  store _ _ := .of_eq rfl rfl rfl
  full _ := .of_eq (by simp) (by simp) (by simp)
  given := State.giveSeal_keepsLamps

section
variable (s : State)

theorem State.endSealing_keepsLamps (o : SealOutcome) : s.KeepsLamps (s.endSealing o) := by
  have given : s.KeepsLamps (s.sealGiven o) := State.giveSeal_keepsLamps (s.mapSeu fun u => { u with claim := { u.claim with serial := none, confirmed := false } }) o
  rw [State.endSealing_eq]
  split
  · exact given.trans (State.KeepsLamps.rule.askStore _ _)
  · exact given

theorem State.offerClaim_keepsLamps : s.KeepsLamps s.offerClaim := .of_eq (by simp) (by simp) (by simp)

theorem State.reserve_keepsLamps : s.KeepsLamps s.reserve := by
  simp only [State.reserve]
  split
  · exact (State.KeepsLamps.rule.full s).trans (State.giveSeal_keepsLamps _ _)
  · split
    · exact State.KeepsLamps.trans (.of_eq rfl rfl rfl) (State.endSealing_keepsLamps _ _)
    · exact State.KeepsLamps.trans (.of_eq rfl rfl rfl) (State.offerClaim_keepsLamps _)

theorem State.reserveNow_keepsLamps : s.KeepsLamps s.reserveNow := by
  simp only [State.reserveNow]
  split
  · exact State.KeepsLamps.trans (.of_eq rfl rfl rfl) (State.reserve_keepsLamps _)
  · exact State.KeepsLamps.rule.refl s
end

/-! ### The end of an operation (R155, R156) -/

section
variable {s : State}

theorem State.reserveNow_unasked (h : s.rst.reserveAsked = false) : s.reserveNow = s := if_neg (by simp [h])

/-- The station whose operation in flight has ended. -/
def State.opEnded (s : State) : State := s.mapRst fun r => { r with op := none, opTimer := none }

theorem State.endOp_eq : s.endOp = s.opEnded.reserveNow.startNext := by
  rw [State.endOp, State.reserveNow]
  cases asked : s.rst.reserveAsked with
  | true => exact congrArg State.startNext (if_pos (show s.opEnded.rst.reserveAsked = true from asked)).symm
  | false =>
    have unasked : s.opEnded = s.mapRst fun r => { r with op := none, opTimer := none, reserveAsked := false } := by
      simp only [State.opEnded, State.mapRst, ← asked]
    rw [if_neg (by simp), if_neg (by simp [State.opEnded, asked]), unasked]

theorem State.endOp_unasked (h : s.rst.reserveAsked = false) : s.endOp = s.opEnded.startNext := by
  rw [State.endOp_eq, State.reserveNow_unasked (s := s.opEnded) h]

theorem State.endOp_keepsLamps : s.KeepsLamps s.endOp := by
  rw [State.endOp_eq]
  have ended : s.KeepsLamps s.opEnded := .of_eq rfl rfl rfl
  exact (ended.trans (State.reserveNow_keepsLamps _)).trans (State.KeepsLamps.rule.startNext _)

/-! ### The requests that wait begin (R156 to R158) -/

theorem State.startNext_eq (idle : s.rst.op = none) : s.startNext = s.startList s.rst.waiting := if_neg (by simp [idle])

/-- The seal outcome that the seal unit gives, as a change of its claim and of the run state. -/
theorem State.giveSeal_maps (o : SealOutcome) : s.giveSeal o = (s.mapSeu fun c => { c with
    claim := { c.claim with state := .sealDone, confirm := none }, outcome := some o }).mapRsq fun q => { q with
      runState := if q.runState = .sealing then .finished else q.runState } := by
  unfold State.giveSeal
  by_cases sealing : s.rsq.runState = .sealing
  · simp only [sealing, if_true, State.mapSeu, State.mapRsq, State.enter]
  · simp only [sealing, if_false, State.mapSeu, State.mapRsq]

theorem State.nextBegins (idle : s.rst.op = none) : s.NextBegins where
  idle := s.startNext_of_none
  write job rest waiting := by
    intro u
    have starts : s.startNext = if (u.beginRequest (.write job)).2 then (u.beginRequest (.write job)).1 else (u.beginRequest (.write job)).1.startList rest := by
      rw [State.startNext_eq idle, waiting]
      rfl
    refine ⟨fun n writes => ?_, fun unslotted full => ?_⟩
    · have begins : s.startNext = u.beginWrite n job := by
        rw [starts, State.beginRequest_writes _ writes]
        exact if_pos rfl
      rw [begins]
      refine ⟨State.beginWrite_writeBegins _ _ n, ?_⟩
      simp only [State.beginWrite, State.beginContent, State.beginOp]
      split <;> rfl
    · rw [starts, State.beginRequest_full _ unslotted full]
      refine (if_neg Bool.false_ne_true).trans (Eq.symm ?_)
      rw [State.startNext_eq (by simpa [u] using idle)]
      simp [u]
  mark n m seu rest waiting := by
    intro u own
    have starts : s.startNext = if (u.beginRequest (.mark n m seu)).2 then (u.beginRequest (.mark n m seu)).1
        else (u.beginRequest (.mark n m seu)).1.startList rest := by
      rw [State.startNext_eq idle, waiting]
      rfl
    rw [State.beginRequest_mark] at starts
    have again (v : State) (rst : v.rst = u.rst) : v.startNext = v.startList rest := by
      rw [State.startNext_eq (by rw [rst]; exact idle), rst]
      rfl
    refine ⟨fun unmarked => ?_, fun marked other => ?_, fun marked isOwn => ?_⟩
    · rw [starts, show u.slot n = s.slot n from rfl, unmarked]
      rfl
    · have nothing : (if seu then u.markReported m else u) = u := by
        cases seu with
        | false => rfl
        | true => exact if_neg fun claims => other ⟨rfl, claims⟩
      rw [starts, show u.slot n = s.slot n from rfl, marked, nothing, again u rfl]
      rfl
    · obtain ⟨rfl, claims⟩ := isOwn
      have reported : u.markReported m = u.giveSeal (if m = .pressed then .sealed else .pressFault) := if_pos claims
      rw [starts, show u.slot n = s.slot n from rfl, marked, ← State.giveSeal_maps, again _ (by simp)]
      simp only [if_true, reported]
      rfl
end

end Sys2Proof.Machine
end


section
/-! PROOFS. The record store's steps, each with its own slot, and STORE WIPE. -/

set_option Elab.async false

namespace Sys2Proof.Machine

/-! ### The steps of a record write, and a mark (R154 to R158) -/

section
variable {s : State} {n : Nat}

theorem State.eraseSlot_slot (n m : Nat) (sized : s.rst.slots.length = 32) (hn : n < 32) :
    (s.eraseSlot n).slot m = if m = n then Slot.erased else s.slot m := by
  have inside : n < s.rst.slots.length := by omega
  simp only [State.slot, State.eraseSlot_slots, List.getD_eq_getElem?_getD, List.getElem?_set, inside, if_true]
  split
  · rw [if_pos (by omega)]
    rfl
  · rw [if_neg (by omega)]

theorem State.eraseSlot_isDamaged {m : Nat} (other : m ≠ n) : (s.eraseSlot n).isDamaged m = s.isDamaged m := by
  simp [State.isDamaged, State.eraseSlot, List.getD_eq_getElem?_getD, other.symm]

/-- The number of a record whose slot was erased for it is the number the slot takes: the slot's own cells do not count (R154). -/
theorem State.eraseSlot_numberFor (sized : s.rst.slots.length = 32) (hn : n < 32) : s.NumberFor n (s.eraseSlot n).nextNumber := by
  have erased : ((s.eraseSlot n).slot n).isEmpty = true := by
    rw [State.eraseSlot_slot n n sized hn, if_pos rfl]
    rfl
  have held (q : Nat) : (∃ m, m < 32 ∧ m ≠ n ∧ ((s.eraseSlot n).slot m).isEmpty = false ∧ (s.eraseSlot n).isDamaged m = false ∧
      ((s.eraseSlot n).slot m).number = q) ↔
      ∃ m, m < 32 ∧ m ≠ n ∧ (s.slot m).isEmpty = false ∧ s.isDamaged m = false ∧ (s.slot m).number = q := by
    refine exists_congr fun m => and_congr_right fun _ => and_congr_right fun other => ?_
    rw [State.eraseSlot_slot n m sized hn, if_neg other, State.eraseSlot_isDamaged other]
  have number := State.nextNumber_numberFor (s := s.eraseSlot n) erased
  simp only [State.NumberFor, held] at number
  exact number

theorem exec_eraseEnd_erases {job : WriteJob} (op : s.rst.op = some (.erase n job)) (follows : s.LampsFollow) :
    exec .eraseEnd s = .next ((s.eraseSlot n).beginContent n job).reserveNow := by
  have step : exec .eraseEnd s = ((s.eraseSlot n).beginContent n job).reserveNow.finish := by
    rw [exec_eraseEnd, execEraseEnd, op]
  have kept : s.KeepsLamps ((s.eraseSlot n).beginContent n job) := .of_eq rfl rfl rfl
  exact step.trans ((kept.trans (State.reserveNow_keepsLamps _)).finish follows)

theorem exec_contentStepEnd_programs {job : WriteJob} {cells : List Byte} (op : s.rst.op = some (.content n job cells))
    (follows : s.LampsFollow) : exec .contentStepEnd s =
      .next ((s.mapSlot n fun c => { c with cells := cells }).beginOp (.level n job) levelTime).reserveNow := by
  have step : exec .contentStepEnd s = ((s.mapSlot n fun c => { c with cells := cells }).beginOp (.level n job) levelTime).reserveNow.finish := by
    rw [exec_contentStepEnd, execContentStepEnd, op]
  have kept : s.KeepsLamps ((s.mapSlot n fun c => { c with cells := cells }).beginOp (.level n job) levelTime) := .of_eq rfl rfl rfl
  exact step.trans ((kept.trans (State.reserveNow_keepsLamps _)).finish follows)

theorem exec_levelStepEnd_done {job : WriteJob} (op : s.rst.op = some (.level n job)) :
    exec .levelStepEnd s = (s.levelDone n job).finish := by
  rw [exec_levelStepEnd, execLevelStepEnd, op]

theorem exec_markEnd_programs {m : Mark} {seu : Bool} (op : s.rst.op = some (.mark n m seu)) : exec .markEnd s =
    (if seu then (s.mapSlot n fun c => c.withMark m).markReported m else s.mapSlot n fun c => c.withMark m).endOp.finish := by
  rw [exec_markEnd, execMarkEnd, op]

/-- A written slot's level, by the level of the record. -/
theorem State.leveled_opEnded {job : WriteJob} {level2 : Bool} (stands : ((s.slot n).level2 || job.sealed) = level2) :
    (s.leveled n job).opEnded = s.mapRst fun r => { r with
      slots := r.slots.set n { s.slot n with level1 := true, level2 := level2 }, op := none, opTimer := none
      reservation := if r.reservation = job.slot then none else r.reservation } := by
  subst stands
  rfl

/-- Settles O48: each step's own slot by the step, a reservation by the end of the operation, and the requests that wait by `nextBegins`. -/
theorem storeStepsChangeTheirSlot : Obligations.StoreStepsChangeTheirSlot := by
  refine ⟨fun s idle => State.nextBegins idle, fun s unasked => State.reserveNow_unasked unasked, ?_⟩
  intro s n job sized hn follows
  refine ⟨fun op => ⟨_, State.eraseSlot_numberFor sized.slots hn, exec_eraseEnd_erases op follows⟩,
    fun cells op => exec_contentStepEnd_programs op follows, fun op filed => ?_, fun m op => ?_⟩
  · have kept : s.KeepsLamps (s.leveled n job) := .of_eq rfl rfl rfl
    have done : s.levelDone n job = (s.leveled n job).endOp := by
      rw [State.levelDone_eq, filed]
      rfl
    rw [exec_levelStepEnd_done op, done, (kept.trans State.endOp_keepsLamps).finish follows, State.endOp_eq,
      State.leveled_opEnded (level2 := (s.slot n).level2) (by rw [filed, Bool.or_false])]
  · have kept : s.KeepsLamps (s.mapSlot n fun c => c.withMark m) := .of_eq rfl rfl rfl
    rw [exec_markEnd_programs op]
    exact ((kept.trans State.endOp_keepsLamps).finish follows).trans (congrArg _ State.endOp_eq)
end

/-! ### STORE WIPE (R162) -/

section
variable {s : State}

theorem RunState.refusesWipe_iff (r : RunState) : r.refusesWipe = true ↔ r.inPoints = true ∨ r = .sealing := by
  cases r <;> decide

theorem State.holdsSealed_iff : s.holdsSealed = true ↔ ∃ c ∈ s.rst.slots, c.guarded = true := by
  simp [State.holdsSealed, Slot.guarded]

theorem exec_storeWipe_judges (takes : s.takesFrames = true) (t : State) (judged : s.wipeStore = t) (follows : t.LampsFollow) :
    exec .storeWipe s = .next t := by
  rw [exec_storeWipe, execStoreWipe, s.taken_act _ takes, judged]
  exact t.finish_of_follows follows

theorem State.wipeStore_idle (op : s.rst.op = none) (waiting : s.rst.waiting = []) : s.wipeStore =
    if s.rsq.runState.refusesWipe then s.refuse kindStoreWipe .inRun
    else if s.holdsSealed then s.refuse kindStoreWipe .notExported else s.beginOp (.wipe 0) eraseTime :=
  if_neg (by simp [State.storeBusy, op, waiting])

theorem exec_wipeSlotErased_erases {n : Nat} (op : s.rst.op = some (.wipe n)) (hn : n < 32) (follows : s.LampsFollow) :
    exec .wipeSlotErased s = .next (s.mapRst fun r => { r with
      slots := r.slots.set n Slot.erased, damaged := r.damaged.set n false, op := some (.wipe (n + 1))
      opTimer := if n = 31 then some 0 else some 20000 }) := by
  have time : some (if n + 1 < 32 then eraseTime else 0) = if n = 31 then some 0 else some 20000 := by
    split_ifs
    · omega
    · rfl
    · rfl
    · omega
  rw [← time]
  have step : exec .wipeSlotErased s = ((s.eraseSlot n).beginOp (.wipe (n + 1)) (if n + 1 < 32 then eraseTime else 0)).finish := by
    rw [exec_wipeSlotErased, execWipeSlotErased, op]
    exact congrArg State.finish (if_pos hn)
  exact step.trans (State.finish_of_follows _ follows)

theorem exec_wipeEnd_clears {n : Nat} (op : s.rst.op = some (.wipe n)) (sized : s.Sized) (follows : s.LampsFollow) :
    exec .wipeEnd s = .next (s.mapRst fun r => { r with
      slots := List.replicate 32 Slot.erased, damaged := List.replicate 32 false, op := none, opTimer := none }).reserveNow.startNext := by
  let wiped : State := s.mapRst fun r => { r with slots := r.slots.map fun _ => Slot.erased, damaged := r.damaged.map fun _ => false }
  have step : exec .wipeEnd s = wiped.endOp.finish := by rw [exec_wipeEnd, execWipeEnd, op]
  have cleared : wiped.opEnded = s.mapRst fun r => { r with
      slots := List.replicate 32 Slot.erased, damaged := List.replicate 32 false, op := none, opTimer := none } := by
    simp only [wiped, State.opEnded, State.mapRst, List.map_const', sized.slots, sized.damaged]
  have kept : s.KeepsLamps wiped := .of_eq rfl rfl rfl
  rw [step, (kept.trans State.endOp_keepsLamps).finish follows, State.endOp_eq, cleared]

/-- Settles O50: the first line of R162's table that applies, and the wipe's own steps. -/
theorem storeWipeIsJudgedAndErases : Obligations.StoreWipeIsJudgedAndErases := by
  intro s follows sized
  have refused (c : RefusalCause) : (s.refuse kindStoreWipe c).LampsFollow := State.mapRrp_lampsFollow _ follows
  refine ⟨fun takes => ⟨fun busy => exec_storeWipe_judges takes _ (if_pos (s.storeBusy_iff.2 busy)) (refused .busy), fun op waiting => ?_⟩,
    fun n op => ⟨fun hn => exec_wipeSlotErased_erases op hn follows, exec_wipeEnd_clears op sized follows⟩⟩
  have judged := State.wipeStore_idle op waiting
  refine ⟨fun inRun => ?_, fun outside unsealed => ?_⟩
  · have refuses := (RunState.refusesWipe_iff _).2 inRun
    exact exec_storeWipe_judges takes _ (judged.trans (if_pos refuses)) (refused .inRun)
  · have admits : ¬ s.rsq.runState.refusesWipe = true := by simp [RunState.refusesWipe_iff, outside, unsealed]
    rw [if_neg admits] at judged
    refine ⟨fun guarded => ?_, fun free => ?_⟩
    · exact exec_storeWipe_judges takes _ (judged.trans (if_pos (State.holdsSealed_iff.2 guarded))) (refused .notExported)
    · have none_guarded : ¬ s.holdsSealed = true := by
        rintro holds
        obtain ⟨c, slot, guarded⟩ := State.holdsSealed_iff.1 holds
        exact Bool.false_ne_true ((free c slot).symm.trans guarded)
      exact exec_storeWipe_judges takes _ (judged.trans (if_neg none_guarded)) (State.mapRst_lampsFollow _ follows)
end

end Sys2Proof.Machine
end


section
/-! PROOFS. The seal unit's write and marks as the store completes them (R148, R149). -/

set_option Elab.async false

namespace Sys2Proof.Machine

section
variable {s : State}

/-! ### An event beside the store's items -/

theorem State.ite_mapRst (c : Prop) [Decidable c] (t u : State) (f : Rst → Rst) :
    (if c then t else u).mapRst f = if c then t.mapRst f else u.mapRst f := apply_ite (fun t : State => t.mapRst f) c t u

theorem State.offerReport_mapRst (f : Rst → Rst) (r : ReportFrame) : (s.mapRst f).offerReport r = (s.offerReport r).mapRst f := by
  simp only [State.offerReport, State.ite_mapRst]
  rfl

theorem State.callStatus_mapRst (f : Rst → Rst) : (s.mapRst f).callStatus = s.callStatus.mapRst f := by
  simp only [State.callStatus, State.ite_mapRst, ← State.offerReport_mapRst]
  rfl

theorem State.raise_mapRst (f : Rst → Rst) (e : Event) : (s.mapRst f).raise e = (s.raise e).mapRst f := by
  simp only [State.raise, State.ite_mapRst, ← State.callStatus_mapRst]
  rfl

/-! ### What the completion asks for -/

variable {n : Nat} {job : WriteJob}

/-- The stroke that follows the completion of the sealed write (R148). -/
def State.strokeBegun (s : State) : State := s.mapSeu fun u => { u with
  claim := { u.claim with state := .stroke }, press := true, strokeTimer := some u.strokeTimeout, seenInactive := !s.pins.stroke }

theorem State.writeComplete_strikes (recording : s.seu.claim.state = .recording) (free : s.sys.holds.press = false) :
    s.writeComplete = s.strokeBegun := by
  rw [State.writeComplete, if_neg (by simp [recording]), free]
  exact if_neg Bool.false_ne_true

theorem State.writeComplete_faults (recording : s.seu.claim.state = .recording) (held : s.sys.holds.press = true)
    (slot : s.seu.claim.slot = some n) : s.writeComplete = (s.raise .pressFault).askStore (.mark n .pressFault true) := by
  have own : s.sealSlot = n := by rw [State.sealSlot, slot, Option.getD_some]
  rw [State.writeComplete, if_neg (by simp [recording]), if_pos held, own]

theorem State.levelDone_sealed (sealed : job.sealed = true) : s.levelDone n job = (s.leveled n job).writeComplete.endOp := by
  rw [State.levelDone_eq, sealed]
  rfl

theorem State.markReported_gives {m : Mark} (claims : s.seu.claim.state = .recording ∨ s.seu.claim.state = .stroke) :
    s.markReported m = s.giveSeal (if m = .pressed then .sealed else .pressFault) := if_pos claims

theorem State.KeepsLamps.raise (e : Event) : s.KeepsLamps (s.raise e) := .of_eq (by simp) (by simp) (by simp)

/-! ### The sealed write (R148) -/

/-- The store as the sealed write leaves it, with nothing begun behind it. -/
def State.sealedWritten (s : State) (n : Nat) (job : WriteJob) : State := s.mapRst fun r => { r with
  slots := r.slots.set n { s.slot n with level1 := true, level2 := true }, op := none, opTimer := none
  reservation := if r.reservation = job.slot then none else r.reservation }

theorem State.leveled_opEnded_sealed (sealed : job.sealed = true) : (s.leveled n job).opEnded = s.sealedWritten n job :=
  State.leveled_opEnded (by rw [sealed, Bool.or_true])

/-- With the press held the write's completion raises PRESS_FAULT and its mark waits behind the operation that ends (R148, R156). -/
theorem State.levelDone_waits (op : s.rst.op = some (.level n job)) (sealed : job.sealed = true) (unasked : s.rst.reserveAsked = false)
    (recording : s.seu.claim.state = .recording) (slot : s.seu.claim.slot = some n) (held : s.sys.holds.press = true)
    (room : s.rst.waiting.length < 8) : s.levelDone n job = (((s.sealedWritten n job).raise .pressFault).mapRst fun r => { r with
      waiting := r.waiting ++ [.mark n .pressFault true] }).startNext := by
  have waits := State.askStore_waits ((s.leveled n job).raise .pressFault) (.mark n .pressFault true)
    (by simpa [State.leveled] using room) (by simp [State.leveled, op])
  rw [State.levelDone_sealed sealed, State.writeComplete_faults (s := s.leveled n job) (n := n) recording held slot, waits, State.endOp_unasked (by simpa [State.leveled] using unasked),
    ← State.leveled_opEnded_sealed sealed, State.opEnded, State.opEnded, State.raise_mapRst]
  rfl

/-- With 8 requests waiting the mark counts as programmed (R156; log entry 50). -/
theorem State.levelDone_loses (sealed : job.sealed = true) (unasked : s.rst.reserveAsked = false)
    (recording : s.seu.claim.state = .recording) (slot : s.seu.claim.slot = some n) (held : s.sys.holds.press = true)
    (fullUp : s.rst.waiting.length = 8) :
    s.levelDone n job = (((s.sealedWritten n job).raise .pressFault).giveSeal .pressFault).startNext := by
  have loses := State.askStore_loses ((s.leveled n job).raise .pressFault) n .pressFault (by simp [State.leveled, fullUp])
  have gives : ((s.leveled n job).raise .pressFault).markReported .pressFault = ((s.leveled n job).raise .pressFault).giveSeal .pressFault :=
    State.markReported_gives (.inl (by simpa [State.leveled] using recording))
  rw [State.levelDone_sealed sealed, State.writeComplete_faults (s := s.leveled n job) (n := n) recording held slot, loses, gives, State.endOp_unasked (by simpa [State.leveled] using unasked),
    ← State.leveled_opEnded_sealed sealed, State.giveSeal_maps, State.giveSeal_maps, State.opEnded, State.opEnded, State.raise_mapRst]
  rfl

theorem State.levelDone_strikes (sealed : job.sealed = true) (unasked : s.rst.reserveAsked = false)
    (recording : s.seu.claim.state = .recording) (free : s.sys.holds.press = false) :
    s.levelDone n job = (s.sealedWritten n job).strokeBegun.startNext := by
  rw [State.levelDone_sealed sealed, State.writeComplete_strikes (s := s.leveled n job) recording free, State.endOp_unasked (s := (s.leveled n job).strokeBegun) unasked,
    ← State.leveled_opEnded_sealed sealed]
  rfl

theorem State.levelDone_keepsLamps : s.KeepsLamps (s.levelDone n job) := by
  have written : s.KeepsLamps (s.leveled n job) := .of_eq rfl rfl rfl
  have complete (t : State) : t.KeepsLamps t.writeComplete := by
    unfold State.writeComplete
    split
    · exact State.KeepsLamps.rule.refl t
    · split
      · exact (State.KeepsLamps.raise _).trans (State.KeepsLamps.rule.askStore _ _)
      · exact .of_eq rfl rfl rfl
  rw [State.levelDone_eq]
  refine State.KeepsLamps.trans ?_ State.endOp_keepsLamps
  split
  · exact written.trans (complete _)
  · exact written

/-! ### The marks of the seal unit (R149, R158) -/

/-- The station behind a mark of the seal unit: its cell programmed, and the seal outcome given. -/
def State.markedGiven (s : State) (n : Nat) (m : Mark) : State := (s.mapRst fun r => { r with
  slots := r.slots.set n ((s.slot n).withMark m), op := none, opTimer := none }).giveSeal (if m = .pressed then .sealed else .pressFault)

theorem exec_markEnd_gives {m : Mark} (op : s.rst.op = some (.mark n m true)) (unasked : s.rst.reserveAsked = false)
    (claims : s.seu.claim.state = .stroke ∨ s.seu.claim.state = .recording) :
    exec .markEnd s = (s.markedGiven n m).startNext.finish := by
  let marked : State := s.mapSlot n fun c => c.withMark m
  have reported : marked.markReported m = marked.giveSeal (if m = .pressed then .sealed else .pressFault) :=
    State.markReported_gives claims.symm
  rw [exec_markEnd_programs op, if_pos rfl, reported, State.endOp_unasked (by simpa [marked] using unasked), State.markedGiven,
    State.giveSeal_maps, State.giveSeal_maps]
  rfl

theorem State.markedGiven_keepsLamps {m : Mark} : s.KeepsLamps (s.markedGiven n m) :=
  State.KeepsLamps.trans (.of_eq rfl rfl rfl) (State.giveSeal_keepsLamps _ _)

/-- Settles O49: the sealed write and the seal unit's mark, each with what it asks for, and the requests that wait behind them. -/
theorem sealedWriteLeadsToTheStroke : Obligations.SealedWriteLeadsToTheStroke := by
  intro s n job sized hn unasked slot given
  have given_eq (u : State) (o : SealOutcome) : given u o = u.giveSeal o := (u.giveSeal_maps o).symm
  refine ⟨fun op sealed recording => ?_, fun m op claims follows => ?_, fun m op stroke sealing waiting => ?_⟩
  · have done := exec_levelStepEnd_done op
    have next (follows : s.LampsFollow) : exec .levelStepEnd s = .next (s.levelDone n job) :=
      done.trans (State.levelDone_keepsLamps.finish follows)
    refine ⟨fun free follows => (next follows).trans (congrArg _ (State.levelDone_strikes sealed unasked recording free)), fun held follows => ?_,
      fun held waiting unmarked => ?_⟩
    · refine ⟨by simp, fun room => ?_, fun fullUp => ?_⟩
      · exact (next follows).trans (congrArg _ (State.levelDone_waits op sealed unasked recording slot held room))
      · rw [given_eq]
        exact (next follows).trans (congrArg _ (State.levelDone_loses sealed unasked recording slot held fullUp))
    · have inside : n < s.rst.slots.length := by rw [sized.slots]; exact hn
      let v : State := ((s.sealedWritten n job).raise .pressFault).mapRst fun r => { r with waiting := r.waiting ++ [.mark n .pressFault true] }
      have idle : v.rst.op = none := by simp [v, State.sealedWritten]
      have alone : v.rst.waiting = [.mark n .pressFault true] := by simp [v, State.sealedWritten, waiting]
      have written : v.slot n = { s.slot n with level1 := true, level2 := true } := by
        simp [v, State.slot, State.sealedWritten, inside]
      have begins := ((State.nextBegins idle).mark n .pressFault true [] alone).1 (by rw [written]; exact unmarked)
      rw [← State.levelDone_waits op sealed unasked recording slot held (by simp [waiting])] at begins
      refine ⟨_, done, ?_, ?_, ?_, ?_, ?_⟩ <;> rw [begins]
      · have sealedSlot : (v.slot n).isSealed = true := by simp [written, Slot.isSealed]
        simpa [State.slot] using sealedSlot
      · simp [v, State.sealedWritten]
      · simp [v, State.sealedWritten]
      · simp [v]
      · simp
  · rw [given_eq]
    exact (exec_markEnd_gives op unasked claims).trans ((State.markedGiven_keepsLamps.trans (State.KeepsLamps.rule.startNext _)).finish follows)
  · have still : (s.markedGiven n m).startNext = s.markedGiven n m := (s.markedGiven n m).startNext_of_none (by simp [State.markedGiven, waiting])
    refine ⟨_, exec_markEnd_gives op unasked (.inl stroke), ?_, ?_, ?_, ?_⟩ <;> rw [still, State.markedGiven, State.giveSeal_maps]
    · simp
    · simp [sealing]
    · simp
    · simp
end

end Sys2Proof.Machine
end


section
/-! PROOFS. The slot chosen, the reservation, and the end of a run (R64, R143, R155). -/

set_option Elab.async false

namespace Sys2Proof.Machine

/-! ### The slot chosen (R155) -/

/-- The first of a rising list that satisfies a test is the lowest that does. -/
theorem find?_rising {l : List Nat} (rising : l.Pairwise (· < ·)) {p : Nat → Bool} {n : Nat} (mem : n ∈ l) (holds : p n = true)
    (lower : ∀ m ∈ l, m < n → p m = false) : l.find? p = some n := by
  induction l with
  | nil => exact nomatch mem
  | cons k rest ih =>
    obtain ⟨below, rising⟩ := List.pairwise_cons.1 rising
    rcases List.mem_cons.1 mem with rfl | mem
    · exact List.find?_cons_of_pos holds
    · rw [List.find?_cons_of_neg (by simp [lower k List.mem_cons_self (below n mem)])]
      exact ih rising mem fun m h => lower m (List.mem_cons_of_mem k h)

/-- The one of two slots that is the older by `age`, the one held where they are of one age. -/
def pickOlder (age : Nat → Nat) (best : Option Nat) (n : Nat) : Option Nat :=
  match best with
  | none => some n
  | some m => if age m < age n then some n else some m

theorem foldl_pickOlder_stays {age : Nat → Nat} {l : List Nat} {n : Nat} (oldest : ∀ m ∈ l, age m ≤ age n) :
    l.foldl (pickOlder age) (some n) = some n := by
  induction l with
  | nil => rfl
  | cons k rest ih =>
    have stays : pickOlder age (some n) k = some n := if_neg (Nat.not_lt.2 (oldest k List.mem_cons_self))
    rw [List.foldl_cons, stays]
    exact ih fun m h => oldest m (List.mem_cons_of_mem k h)

theorem foldl_pickOlder {age : Nat → Nat} {l : List Nat} (rising : l.Pairwise (· < ·)) {n : Nat} (mem : n ∈ l)
    (oldest : ∀ m ∈ l, m ≠ n → age m < age n ∨ (age m = age n ∧ n < m)) {best : Option Nat} (younger : ∀ m ∈ best, age m < age n) :
    l.foldl (pickOlder age) best = some n := by
  induction l generalizing best with
  | nil => exact nomatch mem
  | cons k rest ih =>
    obtain ⟨below, rising⟩ := List.pairwise_cons.1 rising
    have further := fun m h => oldest m (List.mem_cons_of_mem k h)
    rw [List.foldl_cons]
    rcases List.mem_cons.1 mem with rfl | mem
    · have taken : pickOlder age best n = some n := by
        cases best with
        | none => rfl
        | some m => exact if_pos (younger m rfl)
      rw [taken]
      exact foldl_pickOlder_stays fun m h => (further m h (below m h).ne').elim Nat.le_of_lt fun same => same.1.le
    · have lower := below n mem
      have young : age k < age n := (oldest k List.mem_cons_self lower.ne).resolve_right fun same => absurd same.2 (Nat.lt_asymm lower)
      refine ih rising mem further fun m picked => ?_
      cases best with
      | none => exact Option.some.inj picked ▸ young
      | some b =>
        have among : m = k ∨ m = b := by
          simp only [pickOlder] at picked
          split at picked
          · exact .inl (Option.some.inj picked).symm
          · exact .inr (Option.some.inj picked).symm
        rcases among with rfl | rfl
        · exact young
        · exact younger m rfl

section
variable (s : State)

/-- How far the record of a slot lies behind the last record number (R155). -/
def State.age (s : State) (n : Nat) : Nat := behind s.rst.lastRecord (s.slot n).number

theorem State.oldest_eq (l : List Nat) : s.oldest l = l.foldl (pickOlder s.age) none := rfl

theorem range_filter_rising (k : Nat) (p : Nat → Bool) : ((List.range k).filter p).Pairwise (· < ·) := List.pairwise_lt_range.filter p

/-- The oldest record of a rising list of slots, by R155's definition. -/
theorem State.oldest_of_oldestAmong {l : List Nat} (rising : l.Pairwise (· < ·)) {among : Nat → Prop} (mem : ∀ m, m ∈ l ↔ m < 32 ∧ among m)
    {n : Nat} (oldest : s.OldestAmong among n) : s.oldest l = some n := by
  obtain ⟨inside, isAmong, others⟩ := oldest
  refine foldl_pickOlder rising ((mem n).2 ⟨inside, isAmong⟩) (fun m h other => ?_) (by simp)
  obtain ⟨below, amongst⟩ := (mem m).1 h
  exact others m below amongst other

theorem State.chooseSlot_eq : s.chooseSlot = match s.freeSlots.find? (fun n => (s.slot n).isEmpty) with
    | some n => some n
    | none => match s.freeSlots.find? (fun n => s.isDamaged n) with
      | some n => some n
      | none => s.oldest s.freeSlots := rfl

theorem State.chooseSlot_chosenSlot : s.ChosenSlot s.chooseSlot := by
  have rising : s.freeSlots.Pairwise (· < ·) := range_filter_rising 32 _
  have nothing {p : Nat → Bool} (none : ∀ m, s.MayTake m → p m = false) : s.freeSlots.find? p = Option.none :=
    List.find?_eq_none.2 fun m h => by simp [none m (s.mem_freeSlots.1 h)]
  constructor
  case empty =>
    intro n may empty lower
    rw [State.chooseSlot_eq, find?_rising rising (s.mem_freeSlots.2 may) empty fun m h below => lower m below (s.mem_freeSlots.1 h)]
  case damaged =>
    intro used n may damaged lower
    rw [State.chooseSlot_eq, nothing used,
      find?_rising rising (s.mem_freeSlots.2 may) damaged fun m h below => lower m below (s.mem_freeSlots.1 h)]
  case oldest =>
    intro whole n oldest
    have mem (m : Nat) : m ∈ s.freeSlots ↔ m < 32 ∧ s.MayTake m :=
      s.mem_freeSlots.trans ⟨fun may => ⟨may.1, may⟩, And.right⟩
    rw [State.chooseSlot_eq, nothing fun m may => (whole m may).1, nothing fun m may => (whole m may).2]
    exact s.oldest_of_oldestAmong rising mem oldest
  case full =>
    intro taken
    have empty : s.freeSlots = [] := List.eq_nil_iff_forall_not_mem.2 fun m h => taken m (s.mem_freeSlots.1 h)
    rw [State.chooseSlot_eq, empty]
    rfl
end

/-! ### The reservation (R143, R147) -/

section
variable {s : State} {n : Nat}

theorem Seu.usedUp_iff_forall (u : Seu) : u.usedUp = true ↔ ∀ s0 s1, u.block = some (s0, s1) → s1 < u.watermark + 1 := by
  cases block : u.block with
  | none => simp [Seu.usedUp, block]
  | some b => simp [Seu.usedUp, block, Prod.ext_iff]

theorem State.reserve_full (chosen : s.chooseSlot = none) : s.reserve = (s.raise .storeFull).giveSeal .storeFull := by
  simp only [State.reserve, chosen]

/-- The slot chosen is reserved, and the claim names it. -/
def State.reserved (s : State) (n : Nat) : State :=
  (s.mapRst fun r => { r with reservation := some n }).mapSeu fun u => { u with claim := { u.claim with slot := some n } }

theorem State.reserve_chosen (chosen : s.chooseSlot = some n) : s.reserve = if s.seu.usedUp then (s.reserved n).endSealing .exhausted
    else ((s.reserved n).mapSeu fun u => { u with claim := { u.claim with state := .claimWait, attempts := 1 } }).offerClaim := by
  simp only [State.reserve, chosen]
  rfl

/-- A claim is offered: it joins the frames of the coordination part, or those that wait for a place there. -/
theorem State.offerClaim_offers {run : Half} (isRun : s.rsq.run = some run) (on : s.rsq.runState ≠ .clashed) :
    s.offerClaim.bli.coord ++ s.offerClaim.bli.waiting = s.bli.coord ++ s.bli.waiting ++ [.claim run] := by
  simp only [State.offerClaim, isRun]
  rw [State.offerCoord, if_neg on, State.mapBli_bli]
  split
  case isTrue room => simp [room.2]
  case isFalse => simp

theorem State.reserve_reserves {run : Half} (isRun : s.rsq.run = some run) (sealing : s.rsq.runState = .sealing) :
    s.Reserves s.reserve run := by
  constructor
  case full =>
    intro chosen
    rw [State.reserve_full chosen]
    refine ⟨by simp, ?_, ?_, by simp⟩
    · rw [State.giveSeal_rsq, if_pos (by simpa using sealing)]
      simp
    · rw [State.giveSeal_seu]
      simp
  case claims =>
    intro n s0 s1 chosen block left
    have free : ¬ s.seu.usedUp = true := fun used => absurd ((Seu.usedUp_iff_forall _).1 used s0 s1 block) (Nat.not_lt.2 left)
    rw [State.reserve_chosen chosen, if_neg free]
    refine ⟨by simp [State.reserved], by simp [State.reserved], by simp [State.reserved], ?_⟩
    exact State.offerClaim_offers isRun (by simp [State.reserved, sealing])
  case exhausted =>
    intro n chosen used
    rw [State.reserve_chosen chosen, if_pos ((Seu.usedUp_iff_forall _).2 used)]
    obtain ⟨-, rsq⟩ := State.endSealing_given (s := s.reserved n) (o := .exhausted)
    refine ⟨?_, by simp [State.reserved], by simp [State.reserved], fun v verdict => ?_⟩
    · rw [rsq, State.sealGiven_rsq, if_pos (by exact sealing)]
      rfl
    · exact State.endSealing_handsOver (u := s.reserved n) rfl rfl isRun verdict rfl rfl rfl id
end

end Sys2Proof.Machine
end


section
/-! PROOFS. The end of a run: verdict, sealing, and the record (R64, R125, R143). -/

set_option Elab.async false

namespace Sys2Proof.Machine

section
variable {s : State}

/-- The station with the verdict of its run, its point left. -/
def State.judged (s : State) : State := s.mapRsq fun q => { q with verdict := some s.rsq.tally.verdict, phase := .none }

/-- Does the end of the run lead to a sealing (R125, R143)? -/
def State.Seals (s : State) : Prop := s.rsq.tally.verdict = .pass ∧ s.seu.enable = true

/-- The record of the run with the verdict of its tally, at level FILED. -/
def State.endedJob (s : State) (run : Half) (o : Option SealOutcome) (slot : Option Nat) : WriteJob :=
  s.filedJob run.toNat s.rsq.tally.verdict o slot

theorem State.endRun_seals (seals : s.Seals) : s.endRun = s.judged.enterSealing := by
  obtain ⟨pass, enabled⟩ := seals
  simp only [State.endRun, pass, enabled, if_true, State.judged]

theorem State.enterSealing_idle (op : s.rst.op = none) : s.enterSealing = (s.enter .sealing).reserve :=
  if_neg (by simp [State.enter, op])

theorem State.enterSealing_busy (op : s.rst.op ≠ none) :
    s.enterSealing = (s.enter .sealing).mapRst fun r => { r with reserveAsked := true } :=
  if_pos (Option.isSome_iff_ne_none.2 op)

/-- A run that ends without a sealing: the record is handed over, REJECT pulsed unless the verdict is PASS, and the station is FINISHED. -/
theorem State.endRun_hands (unsealed : ¬ s.Seals) : s.endRun = (if s.rsq.tally.verdict = .pass then s.judged.handRecord
    else s.judged.handRecord.pulseReject).enter .finished := by
  by_cases pass : s.rsq.tally.verdict = .pass
  · have off : s.seu.enable = false := Bool.eq_false_iff.2 fun on => unsealed ⟨pass, on⟩
    simp only [State.endRun, pass, off, if_true, if_false, Bool.false_eq_true, State.judged]
  · simp only [State.endRun, pass, if_false, State.judged]

theorem State.endRun_hands_kept (unsealed : ¬ s.Seals) : s.endRun.rst = s.judged.handRecord.rst ∧ s.endRun.rrp = s.judged.handRecord.rrp ∧
    s.endRun.seu.claim = s.judged.handRecord.seu.claim ∧ s.endRun.rsq.verdict = some s.rsq.tally.verdict ∧ s.endRun.rsq.phase = .none ∧
    s.endRun.rsq.runState = .finished := by
  rw [State.endRun_hands unsealed]
  split <;> simp [State.judged, State.handRecord, State.enter]

theorem State.endRun_reject (unsealed : ¬ s.Seals) :
    (s.rsq.tally.verdict ≠ .pass → s.endRun.seu.reject = true ∧ s.endRun.seu.rejectTimer = some 200000) ∧
    (s.rsq.tally.verdict = .pass → s.endRun.seu.reject = s.seu.reject) := by
  rw [State.endRun_hands unsealed]
  refine ⟨fun other => ?_, fun pass => ?_⟩
  · rw [if_neg other]
    exact ⟨rfl, rfl⟩
  · rw [if_pos pass]
    simp [State.judged, State.handRecord, State.enter]

theorem State.judged_handRecord {run : Half} (isRun : s.rsq.run = some run) : s.judged.handRecord = s.judged.askStore (.write (s.endedJob run none none)) := by
  have job : (⟨s.judged.runRecord none none, false, none⟩ : WriteJob) = s.endedJob run none none :=
    State.runRecord_filed (u := s.judged) isRun rfl rfl rfl none none
  rw [State.handRecord, job]

theorem State.endRun_handsOver {run : Half} (isRun : s.rsq.run = some run) (unsealed : ¬ s.Seals) : s.HandsOver s.endRun (s.endedJob run none none) := by
  obtain ⟨rst, rrp, -⟩ := State.endRun_hands_kept unsealed
  rw [State.judged_handRecord isRun] at rst rrp
  exact State.handsOver_of_askStore (u := s.judged) rfl rst fun raised => by rwa [rrp]

/-- A write begun stands on its slot. -/
theorem State.beginWrite_write (n : Nat) (job : WriteJob) : (s.beginWrite n job).rst.write = some (n, job) ∧
    (s.beginWrite n job).rst.reservation = s.rst.reservation := by
  simp only [State.beginWrite]
  split <;> exact ⟨rfl, rfl⟩

/-- The end of a run with the store idle, where the run is not sealed (R125, R157). -/
theorem State.endRun_hands_idle {run : Half} (isRun : s.rsq.run = some run) (unsealed : ¬ s.Seals) (op : s.rst.op = none)
    (waiting : s.rst.waiting = []) : s.endRun.seu.claim = s.seu.claim ∧
    (s.chooseSlot = none → s.endRun.rst = s.rst ∧ Event.storeFull.isIn s.endRun.rrp.flags = true) ∧
    ∀ n, s.chooseSlot = some n → s.endRun.rst.write = some (n, s.endedJob run none none) ∧ s.endRun.rst.reservation = s.rst.reservation := by
  obtain ⟨rst, rrp, claim, -⟩ := State.endRun_hands_kept unsealed
  rw [State.judged_handRecord isRun] at rst claim
  have same : s.judged.chooseSlot = s.chooseSlot := State.chooseSlot_congr rfl
  have idle := s.judged.askStore_idle (.write (s.endedJob run none none)) op waiting
  refine ⟨?_, (State.endRun_handsOver isRun unsealed).full op waiting rfl, fun n chosen => ?_⟩
  · rw [claim, idle]
    cases chosen : s.judged.chooseSlot with
    | none =>
      rw [s.judged.beginRequest_full rfl chosen]
      simp [State.startList, State.judged]
    | some n =>
      rw [s.judged.beginRequest_writes (.inr ⟨rfl, chosen⟩)]
      simp [State.judged]
  · rw [rst, s.judged.askStore_write_idle _ op waiting (.inr ⟨rfl, same.trans chosen⟩)]
    exact State.beginWrite_write n _

theorem State.endRun_hands_busy {run : Half} (isRun : s.rsq.run = some run) (unsealed : ¬ s.Seals) (op : s.rst.op ≠ none)
    (room : s.rst.waiting.length < 8) : s.endRun.seu.claim = s.seu.claim ∧
    s.endRun.rst = { s.rst with waiting := s.rst.waiting ++ [.write (s.endedJob run none none)] } := by
  obtain ⟨rst, -, claim, -⟩ := State.endRun_hands_kept unsealed
  have waits := s.judged.askStore_waits (.write (s.endedJob run none none)) room op
  rw [State.judged_handRecord isRun, waits] at rst claim
  exact ⟨claim, rst⟩

/-! ### The sealing (R143) -/

theorem State.sealing_reserves {run : Half} (isRun : s.rsq.run = some run) (seals : s.Seals) (op : s.rst.op = none) :
    (s.mapRsq fun q => { q with runState := .sealing, verdict := some .pass, phase := .none }).Reserves s.endRun run := by
  have entered : s.judged.enter .sealing = s.mapRsq fun q => { q with runState := .sealing, verdict := some .pass, phase := .none } := by
    rw [← seals.1]
    rfl
  rw [State.endRun_seals seals, State.enterSealing_idle (s := s.judged) op, entered]
  exact State.reserve_reserves isRun rfl

theorem State.endRun_verdict : s.endRun.rsq.verdict = some s.rsq.tally.verdict ∧ s.endRun.rsq.phase = .none := by
  by_cases seals : s.Seals
  · rw [State.endRun_seals seals]
    constructor
    · simp [State.judged]
    · simp [State.judged]
  · obtain ⟨-, -, -, verdict, phase, -⟩ := State.endRun_hands_kept seals
    exact ⟨verdict, phase⟩

theorem State.endRun_exhausted {n : Nat} (seals : s.Seals) (op : s.rst.op = none) (chosen : s.chooseSlot = some n)
    (used : ∀ s0 s1, s.seu.block = some (s0, s1) → s1 < s.seu.watermark + 1) : s.endRun.seu.outcome = some .exhausted ∧
    s.endRun.seu.claim.state = .sealDone ∧ s.endRun.seu.claim.confirmed = false := by
  have choice : (s.judged.enter .sealing).chooseSlot = some n := (State.chooseSlot_congr rfl).trans chosen
  have up : (s.judged.enter .sealing).seu.usedUp = true := (Seu.usedUp_iff_forall _).2 used
  rw [State.endRun_seals seals, State.enterSealing_idle (s := s.judged) op, State.reserve_chosen choice, if_pos up, State.endSealing_given.1, State.sealGiven_seu]
  exact ⟨rfl, rfl, rfl⟩

/-- The end of a sealing in an idle store, whose record begins on the reserved slot (R147, R157). -/
theorem State.Reserves.writes {t : State} {run : Half} {n : Nat} (h : s.Reserves t run) (chosen : s.chooseSlot = some n)
    (used : ∀ s0 s1, s.seu.block = some (s0, s1) → s1 < s.seu.watermark + 1) {v : MeterVerdict} (verdict : s.rsq.verdict = some v)
    (op : s.rst.op = none) (waiting : s.rst.waiting = []) : t.rst.write = some (n, s.filedJob run.toNat v (some .exhausted) (some n)) := by
  obtain ⟨-, -, -, hands⟩ := h.exhausted n chosen used
  have begins := (hands v verdict).begins op waiting n (.inl rfl)
  by_cases blank : ((s.mapRst fun r => { r with reservation := some n }).slot n).isEmpty = true ∧
      ∀ x ∈ ((s.mapRst fun r => { r with reservation := some n }).slot n).cells, x = 0
  · obtain ⟨q, -, rst⟩ := begins.blank blank.1 blank.2
    rw [rst]
    rfl
  · rw [begins.used blank]
    rfl

/-- Settles O17: the slot chosen, the reservation that waited, and the end of a run by whether it seals. -/
theorem runEndGivesTheVerdict : Obligations.RunEndGivesTheVerdict := by
  refine ⟨State.chooseSlot_chosenSlot, fun s run asked isRun sealing => ?_, ?_⟩
  · rw [State.reserveNow, if_pos asked]
    exact State.reserve_reserves isRun sealing
  intro s run isRun barrier v record seals
  obtain ⟨verdict, phase⟩ := s.endRun_verdict
  refine ⟨verdict, by simp, phase, fun unsealed => ?_, fun op waiting => ?_, fun op => ⟨fun sealed => ?_, fun unsealed room => ?_⟩,
    fun unsealed => State.endRun_handsOver isRun unsealed, fun sealed op => State.sealing_reserves isRun sealed op⟩
  · obtain ⟨-, -, -, -, -, finished⟩ := State.endRun_hands_kept unsealed
    exact ⟨finished, State.endRun_reject unsealed⟩
  · refine ⟨fun unsealed => (State.endRun_hands_idle isRun unsealed op waiting).1,
      fun unsealed => (State.endRun_hands_idle isRun unsealed op waiting).2.1,
      fun n unsealed => (State.endRun_hands_idle isRun unsealed op waiting).2.2 n, fun sealed chosen => ?_,
      fun n s0 s1 sealed chosen block => ⟨fun left => ?_, fun used => ?_⟩⟩
    · have full := (State.sealing_reserves isRun sealed op).full ((State.chooseSlot_congr rfl).trans chosen)
      obtain ⟨rst, rsq, seu, raised⟩ := full
      rw [rsq, seu]
      exact ⟨rfl, rfl, raised, rst⟩
    · obtain ⟨rst, rsq, seu, frames⟩ :=
        (State.sealing_reserves isRun sealed op).claims n s0 s1 ((State.chooseSlot_congr rfl).trans chosen) block left
      rw [rsq, seu, frames]
      exact ⟨rfl, rst, rfl, by simp⟩
    · have none_left : ∀ a b, s.seu.block = some (a, b) → b < s.seu.watermark + 1 := by
        rintro a b other
        obtain ⟨rfl, rfl⟩ : s0 = a ∧ s1 = b := by simpa [block] using other
        exact used
      have reserves := State.sealing_reserves isRun sealed op
      have choice := (State.chooseSlot_congr (u := s.mapRsq fun q => { q with runState := .sealing, verdict := some .pass, phase := .none }) rfl).trans chosen
      obtain ⟨outcome, done, unconfirmed⟩ := State.endRun_exhausted sealed op chosen none_left
      rw [(reserves.exhausted n choice none_left).1]
      refine ⟨rfl, outcome, done, unconfirmed, ?_⟩
      exact (reserves.writes choice none_left rfl op waiting).trans (by rw [← sealed.1]; rfl)
  · rw [State.endRun_seals sealed, State.enterSealing_busy (s := s.judged) op]
    exact ⟨rfl, rfl, rfl, rfl⟩
  · exact State.endRun_hands_busy isRun unsealed op room
end

end Sys2Proof.Machine
end


section
/-! PROOFS. Requests for a reply: the answers, and the wait (R96, R137, R160, R163). -/

set_option Elab.async false

namespace Sys2Proof.Machine

section
variable {s : State}

/-! ### The wait (R96) -/

theorem State.takeRequest_waits (full : s.bli.report.length = 4) (room : s.bli.buffer.length < 4) (f : RxFrame) :
    s.takeRequest f = s.mapBli fun b => { b with buffer := b.buffer ++ [f] } := by
  have noRoom : ¬ s.reportRoom = true := by simp [State.reportRoom, full]
  rw [State.takeRequest, if_neg noRoom]
  exact if_pos (decide_eq_true room)

/-! ### The answers -/

/-- A frame joins the reporting part. -/
def State.reported (s : State) (f : ReportFrame) : State := s.mapBli fun b => { b with report := b.report ++ [f] }

theorem State.offerReport_reported (on : s.rsq.runState ≠ .clashed) (room : s.bli.report.length < 4) (f : ReportFrame) :
    s.offerReport f = s.reported f := by
  rw [State.offerReport, if_neg on, State.mapBli, if_pos room]
  rfl

theorem State.offerReport_clashed (clashed : s.rsq.runState = .clashed) (f : ReportFrame) : s.offerReport f = s := if_pos clashed

theorem State.callStatus_still (started : s.rsq.runState ≠ .starting) (quiet : s.bli.statusWaits = true ∨ s.rsq.runState = .clashed) :
    s.callStatus = s := by
  by_cases on : s.rsq.runState = .clashed
  · exact if_pos on
  · rw [State.callStatus, if_neg on, if_neg started]
    exact if_pos (quiet.resolve_right on)

theorem State.callStatus_queues (on : s.rsq.runState ≠ .clashed) (started : s.rsq.runState ≠ .starting) (fresh : s.bli.statusWaits = false)
    (room : s.bli.report.length < 4) : s.callStatus = s.reported .status := by
  rw [State.callStatus, if_neg on, if_neg started, if_neg (by simp [fresh]), if_pos (show s.reportRoom = true from decide_eq_true room),
    State.offerReport_reported on room]

/-! ### The RECORD frame (R103, R160) -/

theorem leBytes_one (n : Nat) : leBytes 1 n = [BitVec.ofNat 8 n] := rfl

/-- The state byte of a slot, with the level of R103's table. -/
theorem State.slotStateCode_byte (j : Nat) : BitVec.ofNat 8 (s.slotStateCode j) = BitVec.ofNat 8 (s.slot j).levelCode +
    (if s.isDamaged j then 4 else 0) + (if (s.slot j).pressed then 8 else 0) + (if (s.slot j).pressFault then 16 else 0)
    + (if (s.slot j).exported then 32 else 0) := by
  simp only [State.slotStateCode, BitVec.ofNat_add, apply_ite (BitVec.ofNat 8)]
  rfl

theorem Slot.levelCode_byte (c : Slot) : (BitVec.ofNat 8 c.levelCode).toNat < 4 ∧
    (c.level1 = true → BitVec.ofNat 8 c.levelCode = if c.level2 = true then 2 else 1) := by
  have below := Config.secondCellLevel.isLt
  have inside : c.levelCode < 4 := by
    unfold Slot.levelCode
    split_ifs <;> omega
  refine ⟨by rw [BitVec.toNat_ofNat]; omega, fun first => ?_⟩
  cases second : c.level2 <;> simp [Slot.levelCode, Slot.isSealed, first, second]

theorem State.recordPayload_empty {j : Nat} (empty : (s.slot j).isEmpty = true) : s.recordPayload j = [BitVec.ofNat 8 j, 0] := if_pos empty

theorem State.recordPayload_full {j : Nat} (used : (s.slot j).isEmpty = false) : s.recordPayload j =
    [BitVec.ofNat 8 j, BitVec.ofNat 8 (s.slotStateCode j)] ++ (s.slot j).cells := if_neg (by simp [used])

/-! ### The oldest record that is neither DAMAGED nor exported (R155, R160) -/

/-- A record that is neither DAMAGED nor exported. -/
def State.Unexported (s : State) (j : Nat) : Prop := (s.slot j).isEmpty = false ∧ s.isDamaged j = false ∧ (s.slot j).exported = false

theorem State.mem_unexported (j : Nat) : j ∈ ((List.range 32).filter fun n => !(s.slot n).isEmpty && !s.isDamaged n && !(s.slot n).exported) ↔
    j < 32 ∧ s.Unexported j := by
  simp [State.Unexported, and_assoc]

theorem State.oldestUnexported_oldest {j : Nat} (oldest : s.OldestAmong s.Unexported j) : s.oldestUnexported = some j :=
  s.oldest_of_oldestAmong (range_filter_rising 32 _) State.mem_unexported oldest

theorem State.oldestUnexported_none (all : ∀ j, j < 32 → ¬ s.Unexported j) : s.oldestUnexported = none := by
  have empty : ((List.range 32).filter fun n => !(s.slot n).isEmpty && !s.isDamaged n && !(s.slot n).exported) = [] :=
    List.eq_nil_iff_forall_not_mem.2 fun j mem => all j (State.mem_unexported j |>.1 mem).1 (State.mem_unexported j |>.1 mem).2
  rw [State.oldestUnexported, empty]
  rfl

/-! ### Each request -/

theorem State.storeBusy_eq_false (free : ¬ (s.rst.op ≠ none ∨ s.rst.waiting ≠ [])) : s.storeBusy = false :=
  Bool.eq_false_iff.2 (mt s.storeBusy_iff.1 free)

theorem State.not_starting_of_takesFrames (takes : s.takesFrames = true) : s.rsq.runState ≠ .starting := fun starting => by
  simp [State.takesFrames, starting] at takes

theorem State.answerRecord_busy (busy : s.rst.op ≠ none ∨ s.rst.waiting ≠ []) (n : Nat) : s.answerRecord n = s.refuse kindRecordAsk .busy :=
  if_pos (s.storeBusy_iff.2 busy)

theorem State.answerSum_busy (busy : s.rst.op ≠ none ∨ s.rst.waiting ≠ []) (n : Nat) : s.answerSum n = s.refuse kindStoreSumAsk .busy :=
  if_pos (s.storeBusy_iff.2 busy)

theorem State.answerRecord_free (free : ¬ (s.rst.op ≠ none ∨ s.rst.waiting ≠ [])) (n : Nat) :
    s.answerRecord n = s.offerReport (.record (s.recordReply n)) := if_neg (by simp [State.storeBusy_eq_false free])

theorem State.answerSum_free (free : ¬ (s.rst.op ≠ none ∨ s.rst.waiting ≠ [])) (n : Nat) :
    s.answerSum n = s.offerReport (.storeSum (s.storeSum n) (s.damagedCount (sumCount n))) := if_neg (by simp [State.storeBusy_eq_false free])

theorem State.recordReply_named {n : Nat} (named : n ≠ 255) : s.recordReply n = s.recordPayload n := if_neg named

theorem State.recordReply_oldest {j : Nat} (oldest : s.OldestAmong s.Unexported j) : s.recordReply 255 = s.recordPayload j := by
  rw [State.recordReply, State.oldestUnexported_oldest oldest]
  rfl

theorem State.recordReply_none (all : ∀ j, j < 32 → ¬ s.Unexported j) : s.recordReply 255 = [255, 0] := by
  rw [State.recordReply, State.oldestUnexported_none all]
  rfl

theorem exec_recordAsk_takes {n : Byte} (takes : s.takesFrames = true) (form : n.toNat < 32 ∨ n = 255) :
    exec (.recordAsk n) s = (s.takeRequest (s.requestFrame kindRecordAsk [n])).finish := by
  have wf : (decide (n.toNat < 32) || decide (n = 255)) = true := by simpa using form
  rw [exec_recordAsk, execRecordAsk, wf, s.taken_act _ takes]

theorem exec_storeSumAsk_takes {k : Byte} (takes : s.takesFrames = true) (form : k.toNat ≤ 32) :
    exec (.storeSumAsk k) s = (s.takeRequest (s.requestFrame kindStoreSumAsk [k])).finish := by
  rw [exec_storeSumAsk, execStoreSumAsk, decide_eq_true form, s.taken_act _ takes]

theorem exec_statusAsk_takes (takes : s.takesFrames = true) : exec .statusAsk s = (s.takeRequest (s.requestFrame kindStatusAsk [])).finish := by
  rw [exec_statusAsk, execStatusAsk, s.taken_act _ takes]

theorem State.takeRequest_answers (room : s.bli.report.length < 4) (f : RxFrame) : s.takeRequest f = s.answer f :=
  if_pos (show s.reportRoom = true from decide_eq_true room)

theorem State.answer_recordAsk (n : Byte) : s.answer (s.requestFrame kindRecordAsk [n]) = s.answerRecord n.toNat := by
  simp [State.answer, State.requestFrame, field_byte]
  rfl

theorem State.answer_storeSumAsk (k : Byte) : s.answer (s.requestFrame kindStoreSumAsk [k]) = s.answerSum k.toNat := by
  simp [State.answer, State.requestFrame, field_byte]
  rfl

theorem State.answer_statusAsk : s.answer (s.requestFrame kindStatusAsk []) = s.callStatus := rfl
end

theorem sumCount_byte (k : Byte) : sumCount k.toNat = if k = 0 then 32 else k.toNat := by
  by_cases zero : k = 0
  · rw [zero]
    rfl
  · rw [sumCount, if_neg (show ¬ k.toNat = 0 from fun e => zero (BitVec.eq_of_toNat_eq e)), if_neg zero]

/-- Settles O52: the wait by the part's room, and each answer by what the store holds. -/
theorem requestsAreAnsweredOrWait : Obligations.RequestsAreAnsweredOrWait := by
  unfold Obligations.RequestsAreAnsweredOrWait
  intro s n k takes follows hn hk queued kept summed busy level full unexported
  have finish (t : State) (rsq : t.rsq = s.rsq) (sys : t.sys = s.sys) (lamps : t.seu.lamps = s.seu.lamps) : t.finish = .next t :=
    State.finish_of_lamps follows rsq sys lamps
  have started := State.not_starting_of_takesFrames takes
  refine ⟨fun fullUp room => ⟨?_, ?_, ?_⟩, fun room => ?_⟩
  · rw [exec_statusAsk_takes takes, State.takeRequest_waits fullUp room]
    exact finish _ rfl rfl rfl
  · rw [exec_recordAsk_takes takes hn, State.takeRequest_waits fullUp room]
    exact finish _ rfl rfl rfl
  · rw [exec_storeSumAsk_takes takes hk, State.takeRequest_waits fullUp room]
    exact finish _ rfl rfl rfl
  have status : exec .statusAsk s = s.callStatus.finish := by
    rw [exec_statusAsk_takes takes, State.takeRequest_answers room, State.answer_statusAsk]
  have record : exec (.recordAsk n) s = (s.answerRecord n.toNat).finish := by
    rw [exec_recordAsk_takes takes hn, State.takeRequest_answers room, State.answer_recordAsk]
  have sum : exec (.storeSumAsk k) s = (s.answerSum k.toNat).finish := by
    rw [exec_storeSumAsk_takes takes hk, State.takeRequest_answers room, State.answer_storeSumAsk]
  refine ⟨fun quiet => ?_, fun clashed free => ⟨?_, ?_⟩, fun isBusy => ⟨?_, ?_⟩, fun on => ⟨fun fresh => ?_, fun free => ?_⟩⟩
  · rw [status, State.callStatus_still started quiet]
    exact finish s rfl rfl rfl
  · rw [record, State.answerRecord_free free, State.offerReport_clashed clashed]
    exact finish s rfl rfl rfl
  · rw [sum, State.answerSum_free free, State.offerReport_clashed clashed]
    exact finish s rfl rfl rfl
  · rw [record, State.answerRecord_busy isBusy]
    exact finish _ rfl rfl rfl
  · rw [sum, State.answerSum_busy isBusy]
    exact finish _ rfl rfl rfl
  · rw [status, State.callStatus_queues on started fresh room]
    exact finish _ rfl rfl rfl
  · have answers : exec (.recordAsk n) s = .next (queued (.record (s.recordReply n.toNat))) := by
      rw [record, State.answerRecord_free free, State.offerReport_reported on room]
      exact finish _ rfl rfl rfl
    have fullForm {j : Nat} (used : (s.slot j).isEmpty = false) : level j (BitVec.ofNat 8 (s.slot j).levelCode) ∧
        ReportFrame.record (s.recordPayload j) = full j (BitVec.ofNat 8 (s.slot j).levelCode) :=
      ⟨(s.slot j).levelCode_byte, by rw [State.recordPayload_full used, State.slotStateCode_byte]⟩
    have named (other : n ≠ 255) : s.recordReply n.toNat = s.recordPayload n.toNat :=
      State.recordReply_named fun e => other (BitVec.eq_of_toNat_eq e)
    refine ⟨fun other empty => ?_, fun other used => ⟨_, (fullForm used).1, ?_⟩, fun j all oldest => ?_, fun all none => ?_, ?_⟩
    · rw [answers, named other, State.recordPayload_empty empty, BitVec.ofNat_toNat, BitVec.setWidth_eq]
    · rw [answers, named other, (fullForm used).2]
    · have used := oldest.2.1.1
      refine ⟨_, (fullForm used).1, ?_⟩
      rw [answers, all, show (255 : Byte).toNat = 255 from rfl, State.recordReply_oldest oldest, (fullForm used).2]
    · rw [answers, all, show (255 : Byte).toNat = 255 from rfl, State.recordReply_none none]
    · rw [sum, State.answerSum_free free, State.offerReport_reported on room, State.storeSum, State.damagedCount, sumCount_byte]
      exact finish _ rfl rfl rfl

end Sys2Proof.Machine
end


section
/-! PROOFS. A channel held: its working items, its record, and the end of the point (R7, R30, R51, R58, R168). -/

set_option Elab.async false

namespace Sys2Proof.Machine

/-! ### One channel (log entry 37) -/

/-- A gate engine as a hold of its channel leaves it. -/
def GateEngine.underHold (g : GateEngine) : GateEngine :=
  if g.runs then { GateEngine.reset with state := .doneCh, ending := .held }
  else if g.state = .doneCh then { GateEngine.reset with state := .doneCh, ending := g.ending } else g

/-- The working items of a channel as its hold leaves them. -/
def ChannelBlocks.underHold (x : ChannelBlocks) : ChannelBlocks := ⟨x.engine.underHold, x.dwell.holdReset, x.meter.goLive⟩

/-- Does a hold of the channel give its record: the engine runs, or the dwell counts beside an engine in OFF? -/
def ChannelBlocks.stops (x : ChannelBlocks) : Bool := x.engine.runs || (x.engine.state = .off && x.dwell.state = .counting)

theorem ChannelBlocks.stops_iff (x : ChannelBlocks) :
    x.stops = true ↔ x.engine.runs = true ∨ (x.engine.state = .off ∧ x.dwell.state = .counting) := by simp [ChannelBlocks.stops]

/-- What a hold does to a channel, and the record it gives. -/
def HoldAt (p : Bool) (x y : ChannelBlocks) (r : Option OutcomeRecord) : Prop :=
  y = (if p then x.underHold else x) ∧ (r ≠ none ↔ p = true ∧ x.stops = true) ∧ ∀ z, r = some z → z.outcome = .invalidHeld

theorem GateEngine.runs_iff (g : GateEngine) : g.runs = true ↔ g.state = .armed ∨ g.state = .open := by simp [GateEngine.runs]

section
variable {s : State} {ch : Channel}

theorem PerChan.set_get {α : Type} (p : PerChan α) (ch : Channel) : p.set ch (p.get ch) = p := by cases ch <;> rfl

/-- The channel's working items changed for those of a hold. -/
def State.underHold (s : State) (ch : Channel) : State :=
  (((s.mapMeter ch MeterInput.goLive).mapDwell ch Dwell.holdReset).mapEngine ch GateEngine.underHold)

theorem State.underHold_works : s.Works (s.underHold ch) ch none :=
  ((State.works_mapMeter _).trans (State.works_mapDwell _)).trans (State.works_mapEngine _)

theorem State.underHold_blocks : (s.underHold ch).blocks ch = (s.blocks ch).underHold := by
  simp [State.underHold, State.blocks, ChannelBlocks.underHold]

theorem State.mapEngine_congr {f g : GateEngine → GateEngine} (h : f (s.engine ch) = g (s.engine ch)) : s.mapEngine ch f = s.mapEngine ch g :=
  congrArg (fun x => s.mapGates fun p => p.set ch x) h

theorem State.mapDwell_congr {f g : Dwell → Dwell} (h : f (s.dwell ch) = g (s.dwell ch)) : s.mapDwell ch f = s.mapDwell ch g :=
  congrArg (fun x => s.mapEcu fun e => { e with dwell := e.dwell.set ch x }) h

theorem State.mapEngine_self {f : GateEngine → GateEngine} (h : f (s.engine ch) = s.engine ch) : s.mapEngine ch f = s :=
  (congrArg (fun x => s.mapGates fun p => p.set ch x) h).trans (congrArg (fun x => s.mapGates fun _ => x) (PerChan.set_get s.gates ch))

/-- The channel's input and dwell count as a hold leaves them, the engine as it was. -/
def State.dwellHeld (s : State) (ch : Channel) : State := (s.mapMeter ch MeterInput.goLive).mapDwell ch Dwell.holdReset

/-- A hold of a channel that gives no record. -/
theorem State.holdChannel_idle (idle : (s.blocks ch).stops = false) : s.holdChannel ch = s.underHold ch := by
  obtain ⟨stopped, quiet⟩ := not_or.1 (mt (s.blocks ch).stops_iff.2 (Bool.eq_false_iff.1 idle))
  have stopped : (s.engine ch).runs = false := Bool.eq_false_iff.2 stopped
  have off_or_done : (s.engine ch).state = .off ∨ (s.engine ch).state = .doneCh := by
    cases state : (s.engine ch).state <;> simp [GateEngine.runs, state] at stopped ⊢
  rcases off_or_done with off | done
  · have counts : (s.dwell ch).state ≠ .counting := fun counting => quiet ⟨off, counting⟩
    have same : (s.dwellHeld ch).mapEngine ch GateEngine.underHold = s.dwellHeld ch :=
      State.mapEngine_self (s := s.dwellHeld ch) (by simp [State.dwellHeld, GateEngine.underHold, stopped, off])
    simp only [State.holdChannel, stopped, off, counts, if_false, Bool.false_eq_true, reduceCtorEq]
    exact same.symm
  · simp only [State.holdChannel, stopped, done, if_false, if_true, Bool.false_eq_true]
    exact State.mapEngine_congr (s := s.dwellHeld ch) (by simp [State.dwellHeld, GateEngine.underHold, stopped, done])

/-- A hold of a channel that gives its record has the point tested. -/
theorem State.holdChannel_stops (stops : (s.blocks ch).stops = true) : ∃ x : OutcomeRecord, x.outcome = .invalidHeld ∧
    s.holdChannel ch = ((s.underHold ch).putRecord ch x).testPoint := by
  have released : ((s.mapMeter ch MeterInput.goLive).mapMeter ch MeterInput.abandon) = s.mapMeter ch MeterInput.goLive :=
    State.mapMeter_mapMeter s ch _ _
  cases runs : (s.engine ch).runs with
  | true =>
    refine ⟨accuracyRecord s.ecu.copy (s.ecu.acc.get ch) .held, (accuracyRecord_judgedBy _ _ _).held rfl, ?_⟩
    have ended : ((((s.dwellHeld ch).mapEngine ch fun _ => GateEngine.reset).mapEngine ch fun g =>
        { g with state := .doneCh, ending := .held, held := none }).mapMeter ch MeterInput.abandon) = s.underHold ch := by
      have engine : ((s.dwellHeld ch).mapEngine ch fun _ => { GateEngine.reset with state := .doneCh, ending := .held, held := none }) = s.underHold ch :=
        State.mapEngine_congr (s := s.dwellHeld ch) (by simp [State.dwellHeld, GateEngine.underHold, runs, GateEngine.reset])
      rw [State.mapEngine_mapEngine]
      refine Eq.trans ?_ engine
      exact congrArg (fun t => (t.mapDwell ch Dwell.holdReset).mapEngine ch fun _ => { GateEngine.reset with state := .doneCh, ending := .held, held := none }) released
    simp only [State.holdChannel, runs, if_true]
    rw [← ended]
    rfl
  | false =>
    obtain ⟨off, counting⟩ := ((s.blocks ch).stops_iff.1 stops).resolve_left (Bool.eq_false_iff.1 runs)
    have off : (s.engine ch).state = .off := off
    have counting : (s.dwell ch).state = .counting := counting
    refine ⟨dwellRecord .invalidHeld, rfl, ?_⟩
    have ended : (((s.dwellHeld ch).mapDwell ch fun d => { d with state := .ended, held := none }).mapMeter ch MeterInput.abandon) =
        s.underHold ch := by
      have dwell : ((s.dwellHeld ch).mapDwell ch fun d => { d with state := .ended, held := none }) = s.dwellHeld ch := by
        rw [State.dwellHeld, State.mapDwell_mapDwell]
        exact State.mapDwell_congr (by simp [Dwell.holdReset, counting, Dwell.reset])
      have engine : s.underHold ch = s.dwellHeld ch :=
        State.mapEngine_self (s := s.dwellHeld ch) (by simp [State.dwellHeld, GateEngine.underHold, runs, off])
      rw [dwell, engine]
      exact congrArg (fun t => t.mapDwell ch Dwell.holdReset) released
    simp only [State.holdChannel, runs, off, counting, if_true, if_false, Bool.false_eq_true, reduceCtorEq]
    rw [← ended]
    rfl

/-- A channel that is held, or left as it is. -/
def State.holdIf (s : State) (p : Bool) (ch : Channel) : State := if p then s.holdChannel ch else s

theorem State.holdIf_works (p : Bool) : ∃ u r, s.Works u ch r ∧ s.holdIf p ch = (if r.isSome then u.testPoint else u) ∧
    HoldAt p (s.blocks ch) (u.blocks ch) r := by
  cases p with
  | false => exact ⟨s, none, .refl, rfl, rfl, by simp, nofun⟩
  | true =>
    cases stops : (s.blocks ch).stops with
    | false => exact ⟨_, none, State.underHold_works, State.holdChannel_idle stops, State.underHold_blocks, by simp [stops], nofun⟩
    | true =>
      obtain ⟨x, held, holds⟩ := State.holdChannel_stops stops
      refine ⟨_, some x, State.underHold_works.trans (State.works_putRecord x), holds, ?_, by simp [stops], fun z same => ?_⟩
      · exact State.underHold_blocks
      · exact Option.some.inj same ▸ held
end

end Sys2Proof.Machine
end


section
/-! PROOFS. The channels of a point held in one event, and the test of the point end behind each (R51, R168). -/

set_option Elab.async false

namespace Sys2Proof.Machine

/-! ### What the holds come to -/

section
variable (s : State) (p : Channel → Bool)

/-- A channel ends under the holds `p`. -/
def State.HoldEnds (ch : Channel) : Prop := p ch = true ∧ s.live ch = true

/-- The holds `p` complete the point (R51). -/
def State.HoldOver : Prop := s.rsq.phase = .measuring ∧ s.rsq.window.state.settled = true ∧ (s.HoldEnds p .a ∨ s.HoldEnds p .b) ∧
  ∀ ch, s.mask.has ch = true → s.rsq.received.get ch ≠ none ∨ s.HoldEnds p ch

/-- A channel in use is one of the point's, without its record, and its engine has not ended. -/
def State.UsesInPoint : Prop :=
  ∀ ch, s.live ch = true → s.mask.has ch = true ∧ s.rsq.received.get ch = none ∧ (s.engine ch).state ≠ .doneCh

/-- Channel A, then channel B, each held or left as it is. -/
def State.holdChannels : State := (s.holdIf (p .a) .a).holdIf (p .b) .b
end

/-- What the holds `p` leave of the channels. -/
structure State.HoldLeaves (s t : State) (p : Channel → Bool) : Prop where
  quiet : ∀ ch, p ch = true → t.live ch = false ∧ t.meter ch = (s.meter ch).goLive
  goes : ¬ s.HoldOver p → (∀ ch, t.blocks ch = if p ch then (s.blocks ch).underHold else s.blocks ch) ∧ t.rsq.phase = s.rsq.phase ∧
    t.rsq.runState = s.rsq.runState
  records : s.UsesInPoint → ∀ ch, s.HoldEnds p ch → ∃ r, t.ecu.outcomes.get ch = some r ∧ r.outcome = .invalidHeld
  ends : s.UsesInPoint → s.HoldOver p → t.rsq.runState = .barrier ∧ t.rsq.phase = .ended ∧ ∀ ch, t.live ch = false ∧
    t.dwell ch = Dwell.reset ∧ t.engine ch = { GateEngine.reset with ending := if p ch = true ∧ (s.engine ch).runs = true then .held else (s.engine ch).ending }

section
variable {s u v w : State} {ch : Channel} {p : Channel → Bool} {ra rb : Option OutcomeRecord} {rs : PerChan (Option OutcomeRecord)}

theorem State.live_of_stops (h : (s.blocks ch).stops = true) : s.live ch = true :=
  ChannelBlocks.live_iff.2 (((s.blocks ch).stops_iff.1 h).imp_right And.right)

/-- A channel in use gives its record under a hold. -/
theorem State.UsesInPoint.stops (sound : s.UsesInPoint) (live : s.live ch = true) : (s.blocks ch).stops = true := by
  rw [ChannelBlocks.stops_iff]
  rcases ChannelBlocks.live_iff.1 live with runs | counting
  · exact .inl runs
  · have open_end : (s.blocks ch).engine.state ≠ .doneCh := (sound ch live).2.2
    match state : (s.blocks ch).engine.state with
    | .off => exact .inr ⟨rfl, counting⟩
    | .armed => exact .inl ((GateEngine.runs_iff _).2 (.inl state))
    | .open => exact .inl ((GateEngine.runs_iff _).2 (.inr state))
    | .doneCh => exact absurd state open_end

theorem GateEngine.underHold_runs (g : GateEngine) : g.underHold.runs = false := by
  unfold GateEngine.underHold
  split
  · rfl
  · split
    · rfl
    · next stopped _ => exact Bool.eq_false_iff.2 stopped

theorem Dwell.holdReset_counting (d : Dwell) : d.holdReset.state ≠ .counting := by
  simp only [Dwell.holdReset]
  split <;> exact nofun

theorem State.live_eq_false (engine : (s.blocks ch).engine.runs = false) (dwell : (s.blocks ch).dwell.state ≠ .counting) : s.live ch = false :=
  Bool.eq_false_iff.2 fun live => (ChannelBlocks.live_iff.1 live).elim (fun runs => Bool.false_ne_true (engine.symm.trans runs)) dwell

/-- An engine's ending after the holds, once the point has ended. -/
theorem GateEngine.underHold_rest (g : GateEngine) : g.underHold.rest =
    { GateEngine.reset with ending := if g.runs = true then .held else g.ending } := by
  unfold GateEngine.underHold
  split
  · rfl
  · split <;> rfl

theorem State.blocks_engine : (s.blocks ch).engine = s.engine ch := rfl

/-- A channel of a point that has ended, held after the end. -/
theorem State.holdIf_ended (p : Bool) (off : (s.engine ch).state = .off) (idle : s.dwell ch = Dwell.reset) :
    s.Works (s.holdIf p ch) ch none ∧ (s.holdIf p ch).blocks ch = ⟨s.engine ch, Dwell.reset, if p then (s.meter ch).goLive else s.meter ch⟩ := by
  obtain ⟨u, r, works, holds, same, given, -⟩ := State.holdIf_works (s := s) (ch := ch) p
  have still : (s.blocks ch).stops = false := by
    rw [Bool.eq_false_iff, ne_eq, ChannelBlocks.stops_iff]
    simp [State.blocks, off, idle, GateEngine.runs, Dwell.reset]
  obtain rfl : r = none := by simpa [still] using given
  rw [holds]
  refine ⟨works, same.trans ?_⟩
  cases p with
  | false => exact congrArg (fun d => (⟨s.engine ch, d, s.meter ch⟩ : ChannelBlocks)) idle
  | true =>
    have engine : (s.engine ch).underHold = s.engine ch := by simp [GateEngine.underHold, GateEngine.runs, off]
    exact congrArg₂ (fun g d => (⟨g, d, (s.meter ch).goLive⟩ : ChannelBlocks)) engine (by rw [State.blocks, idle]; rfl)

theorem State.endPoint_meter : s.endPoint.meter ch = (s.meter ch).abandon := by
  have meters : s.endPoint.pfe.meters = s.dropPulses.pfe.meters := by simp [State.endPoint, State.dropPulses]; rfl
  have dropped : s.dropPulses.meter ch = (s.meter ch).abandon := by cases ch <;> rfl
  rw [← dropped, State.meter, State.meter, meters]

/-- The records that the holds give, and the test of the point end. -/
theorem State.holdOver_of_pointOver (both : s.WorksBoth v rs) (gives : ∀ ch, rs.get ch ≠ none → s.HoldEnds p ch) (given : ∃ ch, rs.get ch ≠ none)
    (complete : v.pointOver = true) : s.HoldOver p := by
  obtain ⟨phase, recordA, recordB, settled⟩ := State.pointOver_iff.1 complete
  rw [both.rsq] at phase settled
  have there (ch : Channel) (record : v.hasRecord ch = true) (mask : s.mask.has ch = true) : s.rsq.received.get ch ≠ none ∨ s.HoldEnds p ch := by
    have held := State.hasRecord_iff.1 record (both.mask ▸ mask)
    rw [both.rsq] at held
    by_cases none : rs.get ch = none
    · exact .inl fun absent => held (by simp [none, absent])
    · exact .inr (gives ch none)
  refine ⟨phase, settled, ?_, fun ch => by cases ch; exacts [there .a recordA, there .b recordB]⟩
  obtain ⟨ch, some⟩ := given
  cases ch
  exacts [.inl (gives _ some), .inr (gives _ some)]

theorem State.pointOver_of_holdOver (both : s.WorksBoth v rs) (gives : ∀ ch, s.HoldEnds p ch → rs.get ch ≠ none) (complete : s.HoldOver p) :
    v.pointOver = true ∧ ∃ ch, rs.get ch ≠ none := by
  obtain ⟨phase, settled, ended, all⟩ := complete
  have record (ch : Channel) : v.hasRecord ch = true := State.hasRecord_iff.2 fun mask => by
    rw [both.rsq]
    rcases all ch (both.mask ▸ mask) with there | ends
    · simp [there]
    · simp [gives ch ends]
  refine ⟨State.pointOver_iff.2 ⟨?_, record .a, record .b, ?_⟩, ?_⟩
  · rw [both.rsq]; exact phase
  · rw [both.rsq]; exact settled
  · exact ended.elim (fun a => ⟨.a, gives _ a⟩) fun b => ⟨.b, gives _ b⟩

theorem HoldAt.gives {y : ChannelBlocks} (h : HoldAt (p ch) (s.blocks ch) y ra) (some : ra ≠ none) : s.HoldEnds p ch :=
  ⟨(h.2.1.1 some).1, State.live_of_stops (h.2.1.1 some).2⟩

theorem HoldAt.given {y : ChannelBlocks} (h : HoldAt (p ch) (s.blocks ch) y ra) (sound : s.UsesInPoint) (ends : s.HoldEnds p ch) : ra ≠ none :=
  h.2.1.2 ⟨ends.1, sound.stops ends.2⟩

theorem HoldAt.record {y : ChannelBlocks} (h : HoldAt (p ch) (s.blocks ch) y ra) (sound : s.UsesInPoint) (ends : s.HoldEnds p ch)
    (earlier : Option OutcomeRecord) : ∃ r, ra.or earlier = some r ∧ r.outcome = .invalidHeld := by
  obtain ⟨r, rfl⟩ := Option.ne_none_iff_exists'.1 (h.given sound ends)
  exact ⟨r, rfl, h.2.2 r rfl⟩

theorem ChannelBlocks.underHold_idle (x : ChannelBlocks) : x.underHold.engine.runs = false ∧ x.underHold.dwell.state ≠ .counting :=
  ⟨x.engine.underHold_runs, x.dwell.holdReset_counting⟩

/-! ### The three ways the holds go -/

/-- The holds that end no point. -/
theorem State.HoldLeaves.of_goes (both : s.WorksBoth v rs) (holds : ∀ ch, HoldAt (p ch) (s.blocks ch) (v.blocks ch) (rs.get ch))
    (goesOn : s.UsesInPoint → ¬ s.HoldOver p) : s.HoldLeaves v p where
  quiet ch held := by
    have blocks := (holds ch).1
    rw [held, if_pos rfl] at blocks
    refine ⟨State.live_eq_false ?_ ?_, congrArg ChannelBlocks.meter blocks⟩
    · rw [blocks]; exact (s.blocks ch).underHold_idle.1
    · rw [blocks]; exact (s.blocks ch).underHold_idle.2
  goes _ := ⟨fun ch => (holds ch).1, by rw [both.rsq], by rw [both.rsq]⟩
  records sound ch ends := by
    rw [both.outcomes, PerChan.orElse_get]
    exact (holds ch).record sound ends _
  ends sound complete := absurd complete (goesOn sound)

/-- The holds whose last record completes the point. -/
theorem State.HoldLeaves.of_ends (both : s.WorksBoth v rs) (holds : ∀ ch, HoldAt (p ch) (s.blocks ch) (v.blocks ch) (rs.get ch))
    (complete : s.HoldOver p) : s.HoldLeaves v.endPoint p where
  quiet ch held := by
    have meter : v.meter ch = (s.meter ch).goLive := by
      have blocks := (holds ch).1
      rw [held, if_pos rfl] at blocks
      exact congrArg ChannelBlocks.meter blocks
    refine ⟨State.endPoint_not_live, ?_⟩
    rw [State.endPoint_meter, meter]
    rfl
  goes goesOn := absurd complete goesOn
  records sound ch ends := by
    rw [show v.endPoint.ecu.outcomes = v.ecu.outcomes by simp, both.outcomes, PerChan.orElse_get]
    exact (holds ch).record sound ends _
  ends _ _ := by
    refine ⟨State.endPoint_phase.2, State.endPoint_phase.1, fun ch => ⟨State.endPoint_not_live, State.endPoint_dwell v ch, ?_⟩⟩
    have engine : v.engine ch = if p ch then (s.engine ch).underHold else s.engine ch :=
      (congrArg ChannelBlocks.engine (holds ch).1).trans (apply_ite ChannelBlocks.engine _ _ _)
    rw [State.endPoint_engine, engine]
    cases p ch with
    | true => simpa using (s.engine ch).underHold_rest
    | false => rfl

/-- The point that channel A's record completes, channel B held behind it. -/
theorem State.HoldLeaves.of_ends_first (works : s.Works u .a ra) (holds : HoldAt (p .a) (s.blocks .a) (u.blocks .a) ra) (some : ra ≠ none)
    (complete : u.pointOver = true) : s.HoldLeaves (u.endPoint.holdIf (p .b) .b) p := by
  have both : s.WorksBoth u ⟨ra, none⟩ := .of works .refl
  have ends : s.HoldOver p := State.holdOver_of_pointOver both (fun ch given => by cases ch; exacts [holds.gives given, absurd rfl given])
    ⟨.a, some⟩ complete
  have rest : u.endPoint.engine .b = (s.engine .b).rest := by rw [State.endPoint_engine, works.engine .b (by decide)]
  have meter : u.endPoint.meter .b = (s.meter .b).abandon := by rw [State.endPoint_meter, works.meter .b (by decide)]
  obtain ⟨after, blocks⟩ := State.holdIf_ended (s := u.endPoint) (ch := .b) (p .b) (by rw [rest]; rfl) (State.endPoint_dwell u .b)
  have doneB (sound : s.UsesInPoint) : ¬ s.HoldEnds p .b := fun ends => by
    obtain ⟨mask, none, -⟩ := sound .b ends.2
    have record := State.hasRecord_iff.1 (State.pointOver_iff.1 complete).2.2.1 (works.mask ▸ mask)
    exact record ((works.received_other (by decide)).trans none)
  have engineB : (u.endPoint.holdIf (p .b) .b).engine .b = (s.engine .b).rest := (congrArg ChannelBlocks.engine blocks).trans rest
  have dwellB : (u.endPoint.holdIf (p .b) .b).dwell .b = Dwell.reset := congrArg ChannelBlocks.dwell blocks
  have idleB : (u.endPoint.holdIf (p .b) .b).live .b = false := State.live_eq_false (by rw [blocks, rest]; rfl) (by rw [blocks]; exact nofun)
  have idleA : (u.endPoint.holdIf (p .b) .b).live .a = false := (after.live_other (by decide)).trans State.endPoint_not_live
  constructor
  case quiet =>
    intro ch held
    cases ch with
    | a =>
      have meterA : u.meter .a = (s.meter .a).goLive := by
        have same := holds.1
        rw [held, if_pos rfl] at same
        exact congrArg ChannelBlocks.meter same
      refine ⟨idleA, ?_⟩
      rw [after.meter .a (by decide), State.endPoint_meter, meterA]
      rfl
    | b =>
      refine ⟨idleB, (congrArg ChannelBlocks.meter blocks).trans ?_⟩
      rw [held, meter]
      rfl
  case goes => exact fun goesOn => absurd ends goesOn
  case records =>
    intro sound ch given
    cases ch with
    | a =>
      rw [after.outcomes, show u.endPoint.ecu.outcomes = u.ecu.outcomes by simp, both.outcomes]
      exact (PerChan.orElse_get _ _ _).symm ▸ holds.record sound given _
    | b => exact absurd given (doneB sound)
  case ends =>
    intro sound _
    refine ⟨by rw [after.rsq]; exact State.endPoint_phase.2, by rw [after.rsq]; exact State.endPoint_phase.1, fun ch => ?_⟩
    cases ch with
    | a =>
      have engine : u.engine .a = if p .a then (s.engine .a).underHold else s.engine .a :=
        (congrArg ChannelBlocks.engine holds.1).trans (apply_ite ChannelBlocks.engine _ _ _)
      refine ⟨idleA, (after.dwell .a (by decide)).trans (State.endPoint_dwell u .a), ?_⟩
      rw [after.engine .a (by decide), State.endPoint_engine, engine, (holds.gives some).1]
      simpa using (s.engine .a).underHold_rest
    | b =>
      have stopped : ¬ (p .b = true ∧ (s.engine .b).runs = true) := fun both =>
        doneB sound ⟨both.1, ChannelBlocks.live_iff.2 (.inl both.2)⟩
      exact ⟨idleB, dwellB, by rw [engineB, if_neg stopped]; rfl⟩

/-- The holds of the two channels, with each record's test of the point end. -/
theorem State.holdChannels_leaves : s.HoldLeaves (s.holdChannels p) p := by
  obtain ⟨u, ra, worksA, stepA, holdsA⟩ := State.holdIf_works (s := s) (ch := .a) (p .a)
  rw [State.holdChannels, stepA]
  by_cases first : ra ≠ none ∧ u.pointOver = true
  · obtain ⟨some, complete⟩ := first
    rw [if_pos (Option.isSome_iff_ne_none.2 some), State.testPoint_of_over complete]
    exact .of_ends_first worksA holdsA some complete
  have onA : (if ra.isSome then u.testPoint else u) = u := by
    split
    · next some => exact State.testPoint_of_not_over (Bool.eq_false_iff.2 fun complete => first ⟨Option.isSome_iff_ne_none.1 some, complete⟩)
    · rfl
  obtain ⟨v, rb, worksB, stepB, holdsB⟩ := State.holdIf_works (s := u) (ch := .b) (p .b)
  have same : u.blocks .b = s.blocks .b := by
    simp only [State.blocks, worksA.engine .b (by decide), worksA.dwell .b (by decide), worksA.meter .b (by decide)]
  have kept : v.blocks .a = u.blocks .a := by
    simp only [State.blocks, worksB.engine .a (by decide), worksB.dwell .a (by decide), worksB.meter .a (by decide)]
  have both : s.WorksBoth v ⟨ra, rb⟩ := .of worksA worksB
  have holds (ch : Channel) : HoldAt (p ch) (s.blocks ch) (v.blocks ch) ((⟨ra, rb⟩ : PerChan (Option OutcomeRecord)).get ch) := by
    cases ch
    exacts [kept.symm ▸ holdsA, same ▸ holdsB]
  rw [onA, stepB]
  by_cases second : rb ≠ none ∧ v.pointOver = true
  · obtain ⟨some, complete⟩ := second
    rw [if_pos (Option.isSome_iff_ne_none.2 some), State.testPoint_of_over complete]
    exact .of_ends both holds (State.holdOver_of_pointOver both (fun ch => (holds ch).gives) ⟨.b, some⟩ complete)
  have onB : (if rb.isSome then v.testPoint else v) = v := by
    split
    · next some => exact State.testPoint_of_not_over (Bool.eq_false_iff.2 fun complete => second ⟨Option.isSome_iff_ne_none.1 some, complete⟩)
    · rfl
  rw [onB]
  refine .of_goes both holds fun sound complete => ?_
  obtain ⟨ended, ch, some⟩ := State.pointOver_of_holdOver both (fun ch => (holds ch).given sound) complete
  by_cases none : rb = Option.none
  · subst none
    cases ch
    · exact first ⟨some, worksB.pointOver_none ▸ ended⟩
    · exact some rfl
  · exact second ⟨none, ended⟩
end

end Sys2Proof.Machine
end


section
/-! PROOFS. HOLD SET: the channels, the reporting block and the press, each held or left (R133, R150, R168). -/

set_option Elab.async false

namespace Sys2Proof.Machine

/-! ### The press (R150; log entry 50) -/

/-- A run state that is not SEALING stands. -/
def State.KeepsRunState (s t : State) : Prop := s.rsq.runState ≠ .sealing → t.rsq.runState = s.rsq.runState

theorem State.KeepsRunState.rule : StoreRule State.KeepsRunState where
  refl _ _ := rfl
  trans h1 h2 on := (h2 (h1 on ▸ on)).trans (h1 on)
  store _ _ _ := rfl
  full _ _ := by simp
  given _ _ on := by rw [State.giveSeal_rsq, if_neg on]

section
variable {s u t : State} {p : Bool}

/-- Does a hold of the press end a stroke? -/
def State.Strikes (s : State) (p : Bool) : Prop := p = true ∧ s.seu.claim.state = .stroke ∧ s.seu.press = true

/-- A press that is held, or left as it is. -/
def State.holdPressIf (s : State) (p : Bool) : State := if p then s.holdPress else s

/-- The mark of a stroke that a hold has ended. -/
def State.faultMark (s : State) : StoreRequest := .mark s.sealSlot .pressFault true

/-- The stroke ended: PRESS released, and the fault raised. -/
def State.strokeStopped (s : State) : State := (s.mapSeu fun c => { c with press := false, strokeTimer := none }).raise .pressFault

theorem State.holdPressIf_strikes (stroke : u.Strikes p) : u.holdPressIf p = u.strokeStopped.askStore u.faultMark := by
  obtain ⟨rfl, state, press⟩ := stroke
  exact if_pos (show u.seu.claim.state = .stroke ∧ u.seu.press = true from ⟨state, press⟩)

theorem State.holdPressIf_releases (held : p = true) (still : ¬ u.Strikes p) :
    u.holdPressIf p = u.mapSeu fun c => { c with press := false, strokeTimer := none } := by
  subst held
  exact if_neg fun stroke => still ⟨rfl, stroke⟩

/-- What a hold of the press leaves of the seal unit and the store, told by the state `s` before. -/
structure State.PressLeaves (s u t : State) (p : Bool) : Prop where
  released : p = true → t.seu.press = false ∧ t.seu.strokeTimer = none
  raised : s.Strikes p → Event.pressFault.isIn t.rrp.flags = true
  begins : s.Strikes p → s.rst.op = none → s.rst.waiting = [] → (s.slot s.sealSlot).pressFault = false → t.rsq = u.rsq ∧
    t.seu.claim = s.seu.claim ∧ t.seu.outcome = s.seu.outcome ∧ t.rst = { s.rst with op := some (.mark s.sealSlot .pressFault true), opTimer := some 1000 }
  waits : s.Strikes p → s.rst.op ≠ none → s.rst.waiting.length < 8 → t.rsq = u.rsq ∧
    t.seu.claim = s.seu.claim ∧ t.seu.outcome = s.seu.outcome ∧ t.rst = { s.rst with waiting := s.rst.waiting ++ [s.faultMark] }
  completes : s.Strikes p → (s.rst.op = none ∧ s.rst.waiting = [] ∧ (s.slot s.sealSlot).pressFault = true) ∨ 8 ≤ s.rst.waiting.length →
    t.rst = s.rst ∧ t.seu.claim = { s.seu.claim with state := .sealDone, confirm := none } ∧ t.seu.outcome = some .pressFault ∧
    t.rsq.runState = if u.rsq.runState = .sealing then .finished else u.rsq.runState
  keeps : u.KeepsRunState t
  still : ¬ s.Strikes p → t.rst = s.rst ∧ t.seu.claim = s.seu.claim ∧ t.seu.outcome = s.seu.outcome ∧ t.rsq = u.rsq

theorem State.holdPressIf_leaves (seu : u.seu = s.seu) (rst : u.rst = s.rst) : s.PressLeaves u (u.holdPressIf p) p := by
  have strikes : s.Strikes p ↔ u.Strikes p := by rw [State.Strikes, State.Strikes, seu]
  have slot : s.sealSlot = u.sealSlot := by rw [State.sealSlot, State.sealSlot, seu]
  have cell : s.slot = u.slot := (State.slot_congr rst).symm
  have mark : s.faultMark = u.faultMark := by rw [State.faultMark, State.faultMark, slot]
  have kept : u.strokeStopped.rst = u.rst ∧ u.strokeStopped.rsq = u.rsq ∧ u.strokeStopped.seu.claim = u.seu.claim ∧
      u.strokeStopped.seu.outcome = u.seu.outcome := by simp [State.strokeStopped]
  obtain ⟨rst', rsq', claim', outcome'⟩ := kept
  have same : u.strokeStopped.slot = u.slot := State.slot_congr rst'
  constructor
  case released =>
    intro held
    by_cases stroke : u.Strikes p
    · rw [State.holdPressIf_strikes stroke]
      simp [State.strokeStopped]
    · rw [State.holdPressIf_releases held stroke]
      exact ⟨rfl, rfl⟩
  case raised =>
    intro stroke
    have asked : u.strokeStopped.StoreReports (u.strokeStopped.askStore u.faultMark) := State.askStore_storeReports _ _
    rw [State.holdPressIf_strikes (strikes.1 stroke)]
    exact asked.raised _ (by simp [State.strokeStopped])
  case begins =>
    intro stroke op waiting unmarked
    rw [State.holdPressIf_strikes (strikes.1 stroke), State.faultMark,
      u.strokeStopped.askStore_begins u.sealSlot .pressFault true (by rw [rst', rst, op]) (by rw [rst', rst, waiting])
        (by rw [same, ← cell, ← slot]; exact unmarked)]
    refine ⟨rsq', by rw [← seu]; exact claim', by rw [← seu]; exact outcome', ?_⟩
    rw [State.beginOp, State.mapRst_rst, rst', rst, slot]
    rfl
  case waits =>
    intro stroke op room
    rw [State.holdPressIf_strikes (strikes.1 stroke), u.strokeStopped.askStore_waits _ (by rw [rst', rst]; exact room) (by rw [rst', rst]; exact op)]
    refine ⟨rsq', by rw [← seu]; exact claim', by rw [← seu]; exact outcome', ?_⟩
    rw [State.mapRst_rst, rst', rst, mark]
  case completes =>
    intro stroke complete
    have reports : u.strokeStopped.askStore u.faultMark = u.strokeStopped.markReported .pressFault := by
      rcases complete with ⟨op, waiting, marked⟩ | full
      · exact u.strokeStopped.askStore_completes u.sealSlot .pressFault (by rw [rst', rst, op]) (by rw [rst', rst, waiting])
          (by rw [same, ← cell, ← slot]; exact marked)
      · exact u.strokeStopped.askStore_loses _ _ (by rw [rst', rst]; exact full)
    have stroking : u.strokeStopped.seu.claim.state = .stroke := by rw [claim']; exact (strikes.1 stroke).2.1
    rw [State.holdPressIf_strikes (strikes.1 stroke), reports, State.markReported_gives (.inr stroking)]
    refine ⟨?_, ?_, ?_, ?_⟩
    · rw [State.giveSeal_maps]
      exact rst'.trans rst
    · rw [State.giveSeal_seu, claim', seu]
    · rw [State.giveSeal_seu]
      rfl
    · rw [State.giveSeal_rsq, rsq']
      split <;> rfl
  case keeps =>
    by_cases stroke : u.Strikes p
    · rw [State.holdPressIf_strikes stroke]
      have stopped : u.KeepsRunState u.strokeStopped := fun _ => by rw [rsq']
      exact State.KeepsRunState.rule.trans stopped (State.KeepsRunState.rule.askStore _ _)
    · by_cases held : p = true
      · rw [State.holdPressIf_releases held stroke]
        exact fun _ => rfl
      · rw [State.holdPressIf, if_neg held]
        exact fun _ => rfl
  case still =>
    intro still
    by_cases held : p = true
    · rw [State.holdPressIf_releases held (mt strikes.2 still)]
      exact ⟨rst, by rw [← seu]; rfl, by rw [← seu]; rfl, rfl⟩
    · rw [State.holdPressIf, if_neg held]
      exact ⟨rst, by rw [seu], by rw [seu], rfl⟩
end

/-! ### HOLD SET (R168) -/

section
variable {s : State} {new : Holds}

/-- A channel that HOLD SET newly holds. -/
def State.newlyHeld (s : State) (new : Holds) (ch : Channel) : Bool := new.chan ch && !s.sys.holds.chan ch

/-- The press is newly held. -/
def State.pressHeld (s : State) (new : Holds) : Bool := new.press && !s.sys.holds.press

/-- The station with the new hold set, its channels held. -/
def State.channelsHeld (s : State) (new : Holds) : State := (s.mapSys fun y => { y with holds := new }).holdChannels (s.newlyHeld new)

theorem State.setHolds_eq : s.setHolds new =
    ((s.channelsHeld new).holdReporting s.sys.holds.reporting new.reporting).holdPressIf (s.pressHeld new) := rfl

@[simp] theorem State.holdChannels_frame (p : Channel → Bool) : let t := s.holdChannels p
    t.pfe.rf0 = s.pfe.rf0 ∧ t.pfe.rf1 = s.pfe.rf1 ∧ t.pfe.zc = s.pfe.zc ∧ t.time = s.time ∧ t.plt = s.plt ∧ t.rsq.roster = s.rsq.roster ∧
    t.rsq.tally = s.rsq.tally ∧ t.rsq.verdict = s.rsq.verdict ∧ t.rrp = s.rrp ∧ t.seu = s.seu ∧ t.rst = s.rst ∧ t.sys = s.sys := by
  simp only [State.holdChannels, State.holdIf]
  split <;> split <;> simp

@[simp] theorem State.holdPressIf_frame (p : Bool) : let t := s.holdPressIf p
    t.pfe = s.pfe ∧ t.time = s.time ∧ t.gates = s.gates ∧ t.ecu = s.ecu ∧ t.plt = s.plt ∧ t.rsq.phase = s.rsq.phase ∧ t.rsq.roster = s.rsq.roster ∧
    t.rsq.tally = s.rsq.tally ∧ t.rsq.verdict = s.rsq.verdict ∧ t.rrp.queue = s.rrp.queue ∧ t.rrp.drops = s.rrp.drops ∧ t.rrp.delay = s.rrp.delay ∧
    t.rrp.mask = s.rrp.mask ∧ t.seu.watermark = s.seu.watermark ∧ t.rst.slots = s.rst.slots ∧ t.sys = s.sys := by
  simp only [State.holdPressIf]
  split <;> simp

/-- Two stations alike in what the channels hold. -/
structure State.SameChannels (c t : State) : Prop where
  pfe : t.pfe = c.pfe
  gates : t.gates = c.gates
  ecu : t.ecu = c.ecu
  phase : t.rsq.phase = c.rsq.phase

theorem State.SameChannels.blocks {c t : State} (h : c.SameChannels t) (ch : Channel) : t.blocks ch = c.blocks ch := by
  rw [State.blocks, State.blocks, State.engine, State.dwell, State.meter, h.pfe, h.gates, h.ecu]
  rfl

theorem State.SameChannels.live {c t : State} (h : c.SameChannels t) (ch : Channel) : t.live ch = c.live ch := by
  have same := h.blocks ch
  rw [State.live, State.live, ← State.blocks_engine, ← State.blocks_engine, same]
  exact congrArg (fun x : ChannelBlocks => (c.blocks ch).engine.runs || decide (x.dwell.state = .counting)) same

theorem State.channelsHeld_leaves : s.HoldLeaves (s.channelsHeld new) (s.newlyHeld new) := by
  obtain ⟨quiet, goes, records, ends⟩ := State.holdChannels_leaves (s := s.mapSys fun y => { y with holds := new }) (p := s.newlyHeld new)
  exact ⟨quiet, goes, records, ends⟩

/-- The station as HOLD SET leaves it, the lamps relit. -/
def State.holdsSet (s : State) (new : Holds) : State := (s.setHolds new).relamp

theorem State.holdsSet_sameChannels : (s.channelsHeld new).SameChannels (s.holdsSet new) := by
  constructor <;> simp [State.holdsSet, State.setHolds_eq]

/-- The press, told by the station before HOLD SET. -/
theorem State.holdsSet_press : s.PressLeaves (s.channelsHeld new) (s.holdsSet new) (s.pressHeld new) := by
  have reported : s.PressLeaves ((s.channelsHeld new).holdReporting s.sys.holds.reporting new.reporting) (s.setHolds new) (s.pressHeld new) := by
    rw [State.setHolds_eq]
    exact State.holdPressIf_leaves (by simp [State.channelsHeld]) (by simp [State.channelsHeld])
  have rsq : ((s.channelsHeld new).holdReporting s.sys.holds.reporting new.reporting).rsq = (s.channelsHeld new).rsq := by simp
  obtain ⟨released, raised, begins, waits, completes, keeps, still⟩ := reported
  rw [State.KeepsRunState, rsq] at keeps
  rw [rsq] at begins waits completes still
  constructor <;> simp only [State.holdsSet, State.KeepsRunState, State.relamp_frame] <;> assumption

/-- A newly held reporting block is emptied (R133). -/
theorem State.holdsSet_empties (held : new.reporting = true) (free : s.sys.holds.reporting = false) :
    (s.holdsSet new).rrp.queue = [] ∧ (s.holdsSet new).rrp.drops = 0 ∧ (s.holdsSet new).rrp.delay = none := by
  simp [State.holdsSet, State.setHolds_eq, State.holdReporting, held, free, State.resetResults]

/-- Settles O44: the channels by `channelsHeld_leaves`, the press by `holdsSet_press`, and the rest by what each leaves alone. -/
theorem holdSetEndsWhatItHolds : Obligations.HoldSetEndsWhatItHolds := by
  unfold Obligations.HoldSetEndsWhatItHolds
  intro s h takes new held ended ends sound stroke marked begins waits completes
  have isHeld (ch : Channel) : held ch ↔ s.newlyHeld new ch = true := by simp [held, State.newlyHeld]
  have isEnded (ch : Channel) : ended ch ↔ s.HoldEnds (s.newlyHeld new) ch := and_congr_left' (isHeld ch)
  have isOver : ends ↔ s.HoldOver (s.newlyHeld new) := by simp only [ends, isEnded, State.HoldOver]
  have strikes : stroke ↔ s.Strikes (s.pressHeld new) := by
    simp only [stroke, State.Strikes, State.pressHeld, Bool.and_eq_true, Bool.not_eq_true', and_assoc]
    rfl
  obtain ⟨quiet, goes, records, ended'⟩ := State.channelsHeld_leaves (s := s) (new := new)
  have press := State.holdsSet_press (s := s) (new := new)
  have same := State.holdsSet_sameChannels (s := s) (new := new)
  have blocks (goesOn : ¬ ends) (ch : Channel) : (s.holdsSet new).blocks ch = if s.newlyHeld new ch then (s.blocks ch).underHold else s.blocks ch :=
    (same.blocks ch).trans ((goes (mt isOver.2 goesOn)).1 ch)
  have runsOn (rsq : (s.holdsSet new).rsq = (s.channelsHeld new).rsq) (goesOn : ¬ ends) : (s.holdsSet new).rsq.runState = s.rsq.runState := by
    rw [rsq]
    exact (goes (mt isOver.2 goesOn)).2.2
  have exact' : exec (.holdSet h) s = .next (s.holdsSet new) := by
    rw [exec_holdSet, execHoldSet, s.taken_act _ takes]
    rfl
  refine ⟨s.holdsSet new, exact', by simp [State.holdsSet, State.setHolds_eq, State.channelsHeld], ?_, ?_, ?_, ?_, ?_, ?_, ?_, ?_, ?_, ?_, ?_,
    fun ch isNew => ?_, fun ch other goesOn => ?_, fun isSound complete => ?_, fun isSound goesOn => ⟨?_, fun way => ?_, fun complete => ?_⟩,
    fun reporting free => State.holdsSet_empties reporting free, fun held free => press.released (by simp [State.pressHeld, new, held, free]),
    fun strokes => press.raised (strikes.1 strokes), fun ⟨strokes, op, waiting, fresh⟩ => ?_, fun ⟨strokes, op, room⟩ => ?_,
    fun ⟨strokes, complete⟩ => ?_, fun none => ?_⟩
  iterate 11 exact by simp [State.holdsSet, State.setHolds_eq, State.channelsHeld]
  · have isQuiet := quiet ch ((isHeld ch).1 isNew)
    refine ⟨(same.live ch).trans isQuiet.1, (congrArg ChannelBlocks.meter (same.blocks ch)).trans isQuiet.2, fun goesOn => ?_, fun isSound live => ?_⟩
    · have under := blocks goesOn ch
      rw [(isHeld ch).1 isNew, if_pos rfl] at under
      have engine : (s.holdsSet new).engine ch = (s.engine ch).underHold := congrArg ChannelBlocks.engine under
      refine ⟨fun runs => engine.trans (if_pos runs), fun done => ?_, fun off => ?_, congrArg ChannelBlocks.dwell under⟩
      · exact engine.trans (by simp [GateEngine.underHold, GateEngine.runs, done])
      · exact engine.trans (by simp [GateEngine.underHold, GateEngine.runs, off])
    · rw [same.ecu]
      exact records isSound ch ⟨(isHeld ch).1 isNew, live⟩
  · have left := blocks goesOn ch
    rw [if_neg (mt (isHeld ch).2 other)] at left
    exact ⟨congrArg ChannelBlocks.meter left, congrArg ChannelBlocks.engine left, congrArg ChannelBlocks.dwell left⟩
  · obtain ⟨runState, phase, channels⟩ := ended' isSound (isOver.1 complete)
    refine ⟨(press.keeps (by rw [runState]; exact nofun)).trans runState, same.phase.trans phase, fun ch => ?_⟩
    obtain ⟨live, dwell, engine⟩ := channels ch
    refine ⟨(same.live ch).trans live, (congrArg ChannelBlocks.dwell (same.blocks ch)).trans dwell,
      (congrArg ChannelBlocks.engine (same.blocks ch)).trans (engine.trans ?_)⟩
    simp only [isHeld]
  · exact same.phase.trans (goes (mt isOver.2 goesOn)).2.1
  · rcases way with none | ⟨strokes, op, waiting, fresh⟩ | ⟨strokes, op, room⟩
    · exact runsOn (press.still (mt strikes.2 none)).2.2.2 goesOn
    · exact runsOn (press.begins (strikes.1 strokes) op waiting (Bool.eq_false_iff.2 fresh)).1 goesOn
    · exact runsOn (press.waits (strikes.1 strokes) op room).1 goesOn
  · obtain ⟨-, -, -, runState⟩ := press.completes (strikes.1 complete.1) complete.2
    rw [runState, (goes (mt isOver.2 goesOn)).2.2]
  · exact (press.begins (strikes.1 strokes) op waiting (Bool.eq_false_iff.2 fresh)).2
  · exact (press.waits (strikes.1 strokes) op room).2
  · obtain ⟨rst, claim, outcome, -⟩ := press.completes (strikes.1 strokes) complete
    exact ⟨rst, outcome, by rw [claim], by rw [claim], by rw [claim]⟩
  · obtain ⟨rst, claim, outcome, -⟩ := press.still (mt strikes.2 none)
    exact ⟨rst, claim, outcome⟩
end

end Sys2Proof.Machine
end


section
/-! PROOFS. The frames of the bench controller, and the commands that they bring (R100, R102). -/

set_option Elab.async false

namespace Sys2Proof.Machine

section
variable {b : Byte} {p : List Byte}

/-- A field behind the payload's first byte. -/
theorem field_tail {off len : Nat} : field (b :: p) (off + 1) len = field p off len := rfl

theorem word_ofNat_toNat (w : Word) : BitVec.ofNat 32 (w.toNat % 4294967296) = w := by rw [word_ofNat_mod, BitVec.ofNat_toNat]; simp

theorem field_front : field (b :: p) 0 1 = b.toNat := by rw [field_byte]; rfl

end

/-- The frame of the bench controller brings the command whose fields were laid out, and has the form of its kind. -/
theorem controllerFrame_brings {c : Instr} {kind : Nat} {payload : List Byte} (x target : BitVec 6) {present : Bool}
    (frame : c.controllerFrame = some (kind, payload)) (wf : c.wf = true) (level : ∀ f l, c = .runOpen f l → l = present) :
    frameCommand present ⟨x, BitVec.ofNat 8 kind, target, payload⟩ = some c ∧ formFits kind payload = true := by
  cases c with
  | planPut payload => cases frame; exact ⟨rfl, rfl⟩
  | planTail run tail =>
    cases frame
    simpa [frameCommand, formFits, field_head, field_skip, field_front, half_ofNat_toNat, Instr.wf] using wf
  | planClear => cases frame; exact ⟨rfl, rfl⟩
  | runOpen f l =>
    cases frame
    obtain rfl := level f l rfl
    simp [frameCommand, formFits, readRunOpen, List.append_assoc, field_head, field_skip, field_tail, field_front, half_ofNat_toNat,
      word_ofNat_toNat]
  | loadReady run seq desc =>
    cases frame
    simp [frameCommand, formFits, field_head, field_skip, field_front, half_ofNat_toNat]
  | runAbort run =>
    cases frame
    simp [frameCommand, formFits, field_whole, half_ofNat_toNat]
  | runClose run =>
    cases frame
    simp [frameCommand, formFits, field_whole, half_ofNat_toNat]
  | holdSet holds =>
    cases frame
    simp [frameCommand, formFits, field_front]
  | eventClear clear mask =>
    cases frame
    simp [frameCommand, formFits, field_head, field_skip, field_whole, half_ofNat_toNat]
  | statusAsk => cases frame; exact ⟨rfl, rfl⟩
  | recordAsk n =>
    cases frame
    have selector : n.toNat < 32 ∨ n.toNat = 255 := by simpa [Instr.wf, ← BitVec.toNat_inj] using wf
    simpa [frameCommand, formFits, field_front] using selector
  | recordMark n q =>
    cases frame
    simpa [frameCommand, formFits, field_front, field_tail, field_whole, half_ofNat_toNat, Instr.wf] using wf
  | storeWipe => cases frame; exact ⟨rfl, rfl⟩
  | storeSumAsk k =>
    cases frame
    simpa [frameCommand, formFits, field_front, Instr.wf] using wf
  | restart => cases frame; exact ⟨rfl, rfl⟩
  | _ => cases frame

/-! ### A frame of the form of its kind, and its command -/

section
variable {f : RxFrame} {b : Instr} {present : Bool}

/-- Sender and kind as R95 asks for. -/
def RxFrame.Sent (f : RxFrame) : Prop := (f.sender = 0 ∧ 1 ≤ f.kind.toNat ∧ f.kind.toNat ≤ 15) ∨
  (1 ≤ f.sender.toNat ∧ f.sender.toNat ≤ 60 ∧ 32 ≤ f.kind.toNat ∧ f.kind.toNat ≤ 42)

/-- A kind that no position acts on (R95, step 6). -/
def RxFrame.Unread (f : RxFrame) : Prop := f.kind.toNat = 32 ∨ 39 ≤ f.kind.toNat

/-- A frame that is sent, not unread and of the form of its kind brings a command of its form. -/
theorem frameCommand_wf (brings : frameCommand present f = some b) (sent : f.Sent) (fits : formFits f.kind.toNat f.payload = true)
    (short : f.payload.length ≤ 48) : b.wf = true := by
  have byte (i : Nat) : (BitVec.ofNat 8 (field f.payload i 1)).toNat = field f.payload i 1 := by
    rw [BitVec.toNat_ofNat, Nat.mod_eq_of_lt (field_one_lt f.payload i)]
  have position (station : 32 ≤ f.kind.toNat) : isPosition f.sender = true := by
    rcases sent with ⟨-, -, high⟩ | ⟨low, high, -⟩
    · omega
    · simp [isPosition, low, high]
  simp only [frameCommand] at brings
  split at brings
  case h_1 => cases brings; exact decide_eq_true short
  case h_2 kind =>
    cases brings
    rw [kind] at fits
    simp only [formFits, Bool.and_eq_true, decide_eq_true_eq] at fits
    exact decide_eq_true (by rw [byte]; exact fits.2)
  case h_11 kind =>
    cases brings
    rw [kind] at fits
    simp only [formFits, Bool.and_eq_true, Bool.or_eq_true, decide_eq_true_eq] at fits
    rcases fits.2 with slot | all
    · simp [Instr.wf, byte, slot]
    · simp [Instr.wf, all]
  case h_12 kind =>
    cases brings
    rw [kind] at fits
    simp only [formFits, Bool.and_eq_true, decide_eq_true_eq] at fits
    exact decide_eq_true (by rw [byte]; exact fits.2)
  case h_14 kind =>
    cases brings
    rw [kind] at fits
    simp only [formFits, Bool.and_eq_true, decide_eq_true_eq] at fits
    exact decide_eq_true (by rw [byte]; exact fits.2)
  case h_17 kind =>
    cases brings
    have mask : (Mask.ofCode (field f.payload 4 1)).isSome = true := by
      rw [kind] at fits
      simp only [formFits] at fits
      split at fits
      next m code => simp [code]
      next => cases fits
    exact (congrArg₂ (· && ·) (position (by omega)) (by rw [byte]; exact mask)).trans rfl
  case h_18 kind =>
    cases brings
    rw [kind] at fits
    simp only [formFits, Bool.and_eq_true, decide_eq_true_eq] at fits
    exact (congrArg₂ (· && ·) (position (by omega)) fits.2).trans rfl
  case h_16 | h_19 | h_20 | h_21 => cases brings; exact position (by omega)
  case h_22 => cases brings
  all_goals
    cases brings
    rfl

theorem frameCommand_some (sent : f.Sent) (read : ¬ f.Unread) : ∃ b, frameCommand present f = some b := by
  have kind : (1 ≤ f.kind.toNat ∧ f.kind.toNat ≤ 15) ∨ (33 ≤ f.kind.toNat ∧ f.kind.toNat ≤ 38) := by
    simp only [RxFrame.Sent, RxFrame.Unread] at sent read
    omega
  simp only [frameCommand]
  generalize f.kind.toNat = k at kind
  rcases kind with ⟨low, high⟩ | ⟨low, high⟩ <;> interval_cases k <;> exact ⟨_, rfl⟩

/-- The commands that a frame's owner takes at once: all but the requests and RESTART. -/
def Owned : Instr → Prop
  | .planPut _ | .planTail _ _ | .planClear | .runOpen _ _ | .loadReady _ _ _ | .runAbort _ | .runClose _ | .holdSet _ | .eventClear _ _
  | .recordMark _ _ | .storeWipe => True
  | .enrol _ _ | .done _ _ _ _ _ | .lapse _ _ _ _ | .withdraw _ _ _ _ | .sealClaim _ _ _ | .sealVoid _ _ _ _ _ => True
  | _ => False

theorem frameCommand_owned (brings : frameCommand present f = some b) (plain : f.isRequest = false) (restart : f.kind.toNat ≠ 15) : Owned b := by
  simp only [frameCommand] at brings
  split at brings
  case h_10 kind | h_11 kind | h_14 kind => exact absurd plain (by simp [RxFrame.isRequest, isRequestKind, kind, kindStatusAsk, kindRecordAsk, kindStoreSumAsk])
  case h_15 kind => exact absurd kind restart
  case h_22 => cases brings
  all_goals
    cases brings
    trivial

/-- The owner of a frame acts on its command. -/
theorem exec_owned {c : Instr} {s : State} (takes : s.takesFrames = true) (owned : Owned c) (wf : c.wf = true)
    (other : ∀ x, c.sender = some x → x.toNat ≠ s.sys.address) : exec c s = (s.owner c).finish := by
  have controller {form : Bool} (fits : form = true) (act : State → State) : (s.taken form act).finish = (act s).finish := by
    rw [fits, s.taken_act _ takes]
  have peer {x : BitVec 6} {form : Bool} (apart : x.toNat ≠ s.sys.address) (fits : (isPosition x && form) = true) (act : State → State) :
      (s.fromPeer x form act).finish = (act s).finish := by
    simp only [State.fromPeer, takes, apart, fits, Bool.not_true, Bool.false_eq_true, if_false, if_true]
  cases c with
  | planPut | planClear | runOpen | loadReady | runAbort | runClose | holdSet | eventClear | storeWipe => exact controller rfl _
  | planTail | recordMark => exact controller wf _
  | enrol x | withdraw x | sealClaim x | sealVoid x => exact peer (other x rfl) ((Bool.and_true _).trans wf) _
  | done x | lapse x => exact peer (other x rfl) wf _
  | _ => exact owned.elim
end

end Sys2Proof.Machine
end


section
/-! PROOFS. A frame heard: its judgement, and what each judgement leaves (R90, R91, R95 to R97, R166). -/

set_option Elab.async false

namespace Sys2Proof.Machine

/-! ### The judgement (R95) -/

section
variable {s : State} {f : RxFrame}

theorem isControllerKind_iff (k : Nat) : isControllerKind k = true ↔ 1 ≤ k ∧ k ≤ 15 := by simp [isControllerKind]
theorem isStationKind_iff (k : Nat) : isStationKind k = true ↔ 32 ≤ k ∧ k ≤ 42 := by simp [isStationKind]
theorem isPosition_iff (a : BitVec 6) : isPosition a = true ↔ 1 ≤ a.toNat ∧ a.toNat ≤ 60 := by simp [isPosition]

theorem isUnreadKind_of_sent (sent : f.Sent) : isUnreadKind f.kind.toNat = true ↔ f.Unread := by
  simp only [isUnreadKind, Bool.or_eq_true, Bool.and_eq_true, decide_eq_true_eq, RxFrame.Unread]
  simp only [RxFrame.Sent] at sent
  omega

theorem State.judgeFrame_elsewhere (elsewhere : s.addressed f = false) : s.judgeFrame f = .dropped := by simp [State.judgeFrame, elsewhere]

/-- No kind is both the controller's and a station's. -/
theorem isStationKind_of_controller {k : Nat} (controller : isControllerKind k = true) : isStationKind k = false := by
  rw [isControllerKind_iff] at controller
  rw [Bool.eq_false_iff, ne_eq, isStationKind_iff]
  omega

/-- Sender and kind by the groups of kinds. -/
theorem RxFrame.sent_iff : f.Sent ↔
    (isControllerKind f.kind.toNat = true ∧ f.sender = 0) ∨ (isStationKind f.kind.toNat = true ∧ isPosition f.sender = true) := by
  simp only [RxFrame.Sent, isControllerKind_iff, isStationKind_iff, isPosition_iff]
  tauto

/-- A frame of a kind that its sender may not send is stray (R95, steps 4 and 5). -/
theorem State.judgeFrame_unsent (addressed : s.addressed f = true) (unsent : ¬ f.Sent) : s.judgeFrame f = .stray := by
  rw [RxFrame.sent_iff, not_or] at unsent
  obtain ⟨controls, stations⟩ := unsent
  cases controller : isControllerKind f.kind.toNat with
  | true =>
    have other : f.sender ≠ 0#6 := fun zero => controls ⟨controller, zero⟩
    simp [State.judgeFrame, addressed, controller, other]
  | false =>
    cases station : isStationKind f.kind.toNat with
    | true =>
      have outside : isPosition f.sender = false := Bool.eq_false_iff.2 fun inside => stations ⟨station, inside⟩
      simp [State.judgeFrame, addressed, controller, station, outside]
    | false => simp [State.judgeFrame, addressed, controller, station]

/-- A frame that is sent, by its kind and its form (R95, steps 6 and 7). -/
theorem State.judgeFrame_sent (addressed : s.addressed f = true) (sent : f.Sent) : s.judgeFrame f =
    if isUnreadKind f.kind.toNat then .dropped else if formFits f.kind.toNat f.payload then .accepted else .stray := by
  rcases RxFrame.sent_iff.1 sent with ⟨controller, zero⟩ | ⟨station, inside⟩
  · simp [State.judgeFrame, addressed, controller, zero, isStationKind_of_controller controller]
  · have controller : isControllerKind f.kind.toNat = false := Bool.eq_false_iff.2 fun controller =>
      Bool.false_ne_true ((isStationKind_of_controller controller).symm.trans station)
    simp [State.judgeFrame, addressed, controller, station, inside]

/-- A frame is stray exactly when it is addressed to the station and fails step 4, 5 or 7 (R95). -/
theorem State.judgeFrame_stray_iff : s.judgeFrame f = .stray ↔
    s.addressed f = true ∧ ¬ (f.Sent ∧ (f.Unread ∨ formFits f.kind.toNat f.payload = true)) := by
  cases addressed : s.addressed f with
  | false => simp [State.judgeFrame_elsewhere addressed]
  | true =>
    by_cases sent : f.Sent
    · rw [State.judgeFrame_sent addressed sent, ← isUnreadKind_of_sent sent]
      cases isUnreadKind f.kind.toNat <;> cases formFits f.kind.toNat f.payload <;> simp [sent]
    · simp [State.judgeFrame_unsent addressed sent, sent]

theorem State.judgeFrame_dropped (idle : s.addressed f = false ∨ (f.Sent ∧ f.Unread)) : s.judgeFrame f = .dropped := by
  cases addressed : s.addressed f with
  | false => exact State.judgeFrame_elsewhere addressed
  | true =>
    obtain ⟨sent, unread⟩ := idle.resolve_left (Bool.eq_false_iff.not_left.2 addressed)
    rw [State.judgeFrame_sent addressed sent, if_pos ((isUnreadKind_of_sent sent).2 unread)]

theorem State.judgeFrame_accepted (addressed : s.addressed f = true) (sent : f.Sent) (read : ¬ f.Unread)
    (fits : formFits f.kind.toNat f.payload = true) : s.judgeFrame f = .accepted := by
  rw [State.judgeFrame_sent addressed sent, if_neg (mt (isUnreadKind_of_sent sent).1 read), if_pos fits]

/-! ### An accepted frame (R96, R166) -/

variable {present : Bool}

theorem State.enterBuffer_restart (kind : f.kind.toNat = 15) : s.enterBuffer f present = s.takeRestart := if_pos kind

theorem State.enterBuffer_lost (kind : f.kind.toNat ≠ 15) (full : s.bli.buffer.length = 4) :
    s.enterBuffer f present = (s.mapBli fun b => { b with overruns := bump 65535 b.overruns }).raise .rxOverrun := by
  have noRoom : s.bli.hasBufferRoom = false := decide_eq_false (by omega)
  rw [State.enterBuffer, if_neg (show ¬ f.kind.toNat = kindRestart from kind), if_pos (by rw [noRoom]; rfl), State.bufferFrame,
    if_neg (by rw [noRoom]; exact Bool.false_ne_true)]

theorem State.enterBuffer_request (kind : f.kind.toNat ≠ 15) (room : s.bli.buffer.length < 4) (request : f.isRequest = true) :
    s.enterBuffer f present = s.takeRequest f := by
  have roomy : s.bli.hasBufferRoom = true := decide_eq_true room
  rw [State.enterBuffer, if_neg (show ¬ f.kind.toNat = kindRestart from kind), if_neg (by rw [roomy]; exact Bool.false_ne_true), if_pos request]

theorem State.enterBuffer_owner {b : Instr} (kind : f.kind.toNat ≠ 15) (room : s.bli.buffer.length < 4) (plain : f.isRequest = false)
    (brings : frameCommand present f = some b) : s.enterBuffer f present = s.owner b := by
  have roomy : s.bli.hasBufferRoom = true := decide_eq_true room
  rw [State.enterBuffer, if_neg (show ¬ f.kind.toNat = kindRestart from kind), if_neg (by rw [roomy]; exact Bool.false_ne_true),
    if_neg (by rw [plain]; exact Bool.false_ne_true), brings]

theorem RxFrame.isRequest_iff : f.isRequest = true ↔ f.kind.toNat = 10 ∨ f.kind.toNat = 11 ∨ f.kind.toNat = 14 := by
  rw [RxFrame.isRequest, isRequestKind, Bool.or_eq_true, Bool.or_eq_true, or_assoc]
  exact or_congr decide_eq_true_iff (or_congr decide_eq_true_iff decide_eq_true_iff)

/-- A request in the form of its kind, and its command. -/
theorem frameCommand_asks {b : Instr} (brings : frameCommand present f = some b) (request : f.isRequest = true)
    (fits : formFits f.kind.toNat f.payload = true) : f.Asks b := by
  have byte {k : Byte} (kind : f.kind.toNat = k.toNat) : f.kind = k := BitVec.eq_of_toNat_eq kind
  rcases RxFrame.isRequest_iff.1 request with kind | kind | kind <;> simp only [frameCommand, kind, Option.some.injEq] at brings <;>
    simp only [formFits, kind, Bool.and_eq_true, Bool.or_eq_true, decide_eq_true_eq] at fits
  · exact .inl ⟨byte (k := 10) kind, brings.symm⟩
  · obtain ⟨n, one⟩ := List.length_eq_one_iff.1 fits.1
    rw [one, field_front] at fits brings
    exact .inr (.inl ⟨n, byte (k := 11) kind, one, fits.2.imp_right fun all => BitVec.eq_of_toNat_eq all, by simpa using brings.symm⟩)
  · obtain ⟨n, one⟩ := List.length_eq_one_iff.1 fits.1
    rw [one, field_front] at fits brings
    exact .inr (.inr ⟨n, byte (k := 14) kind, one, fits.2, by simpa using brings.symm⟩)

/-- An accepted frame that does not wait acts as its command. -/
theorem State.enterBuffer_acts {b : Instr} (takes : s.takesFrames = true) (other : f.sender.toNat ≠ s.sys.address) (sent : f.Sent)
    (fits : formFits f.kind.toNat f.payload = true) (short : f.payload.length ≤ 48) (kind : f.kind.toNat ≠ 15) (room : s.bli.buffer.length < 4)
    (goes : f.isRequest = true → s.bli.report.length < 4) (brings : frameCommand present f = some b) :
    exec b s = (s.enterBuffer f present).finish := by
  cases request : f.isRequest with
  | true =>
    rw [State.enterBuffer_request kind room request, State.takeRequest_answers (goes request)]
    exact State.exec_asked takes (goes request) (frameCommand_asks brings request fits)
  | false =>
    rw [State.enterBuffer_owner kind room request brings]
    exact exec_owned takes (frameCommand_owned brings request kind) (frameCommand_wf brings sent fits short) fun x sender => by
      rwa [frameCommand_sender _ _ _ _ brings sender]
end

/-! ### The frame heard (R90, R91, R97) -/

section
variable {s : State} {sender kind target : Nat} {payload : List Byte} {line : List LineEdge} {present : Bool}

/-- The station that has heard a frame sent, before its judgement. -/
def State.hearing (s : State) (sender kind target : Nat) (payload : List Byte) (line : List LineEdge) : State :=
  ((s.see line).charactersEnded (frameBytes sender kind target payload) 0).mapBli fun b => { b with w := BitVec.ofNat 6 sender }

/-- What the line shows at the end of a frame heard. -/
theorem State.hearing_eq : s.hearing sender kind target payload line = s.mapBli fun b => { b with
    stage := RxStage.reset, low := false, unseen := (s.see line).bli.unseen
    quiet := recessiveTail (frameBytes sender kind target payload) * s.sys.rate.bitTime, w := BitVec.ofNat 6 sender
    afterStuck := (s.see line).bli.afterStuck && ((s.see line).bli.low ||
      decide ((s.see line).bli.quiet < 1000 + (13 + 10 * (6 + payload.length)) * s.sys.rate.bitTime)) } := by
  let bytes : List Byte := frameBytes sender kind target payload
  have ended := (s.see line).frameEnded_bli (lineTime bytes.length) (recessiveTail bytes) 0
  rw [Nat.zero_add, Nat.zero_add] at ended
  have length : bytes.length = 6 + payload.length := frameBytes_length ..
  have shown : (s.see line).bli = { s.bli with low := (s.see line).bli.low, unseen := (s.see line).bli.unseen
                                               quiet := (s.see line).bli.quiet, afterStuck := (s.see line).bli.afterStuck } := Bli.see_eq s.bli line
  have bli : (s.hearing sender kind target payload line).bli = _ := congrArg (fun b : Bli => { b with w := BitVec.ofNat 6 sender }) ended
  have only : s.hearing sender kind target payload line = s.mapBli fun _ => (s.hearing sender kind target payload line).bli := rfl
  rw [only, bli, ← length, shown]
  rfl

theorem State.exec_hearing (takes : s.takesFrames = true) (hs : sender < 64) (other : sender ≠ s.sys.address) (hk : kind < 256) (ht : target < 64)
    (hp : payload.length ≤ 48) :
    let u := s.hearing sender kind target payload line
    let f : RxFrame := ⟨BitVec.ofNat 6 sender, BitVec.ofNat 8 kind, BitVec.ofNat 6 target, payload⟩
    exec (.frameReceived ⟨frameBytes sender kind target payload, line, present⟩) s =
      (match u.judgeFrame f with | .dropped => u | .stray => u.stray | .accepted => u.enterBuffer f present).finish := by
  intro u f
  rw [State.exec_frameReceived_good takes hs hk ht hp, State.acceptFrame]
  refine congrArg State.finish (if_neg fun own => other ?_)
  simpa [Nat.mod_eq_of_lt hs] using own
end

/-- Settles O26: the controller's frames by their layout, and a frame heard by its judgement. -/
theorem acceptedFrameEntersTheBuffer : Obligations.AcceptedFrameEntersTheBuffer := by
  unfold Obligations.AcceptedFrameEntersTheBuffer
  refine ⟨fun c x target kind payload present frame wf level => controllerFrame_brings x target frame wf level, ?_⟩
  intro s sender kind target payload line present takes follows low high hs other hk ht hp bytes c f bit before heard addressed sent unread waits
  have same : s.hearing sender kind target payload line = heard := State.hearing_eq
  have kindIs : f.kind.toNat = kind := Nat.mod_eq_of_lt hk
  have senderIs : f.sender.toNat = sender := Nat.mod_eq_of_lt hs
  have isAddressed : heard.addressed f = true ↔ addressed := by
    have targetIs : f.target.toNat = target := Nat.mod_eq_of_lt ht
    simp [State.addressed, targetIs, addressed, heard]
  have isSent : f.Sent ↔ sent := by
    have zero : f.sender = 0 ↔ sender = 0 := by rw [← senderIs, ← BitVec.toNat_inj]; rfl
    simp only [RxFrame.Sent, zero, senderIs, kindIs, sent]
  have isUnread : f.Unread ↔ unread := by simp only [RxFrame.Unread, kindIs, unread]
  have lit : heard.LampsFollow := follows
  have finish (t : State) (rsq : t.rsq = s.rsq) (sys : t.sys = s.sys) (lamps : t.seu.lamps = s.seu.lamps) : t.finish = .next t :=
    State.finish_of_lamps follows rsq sys lamps
  have judged := State.exec_hearing (line := line) (present := present) takes hs other hk ht hp
  simp only [same] at judged
  refine ⟨fun idle => ?_, fun there wrong => ?_, fun there isS read fits => ?_⟩
  · have dropped : heard.judgeFrame f = .dropped := State.judgeFrame_dropped <| idle.imp
      (fun elsewhere => Bool.eq_false_iff.2 (mt isAddressed.1 elsewhere)) fun both => ⟨isSent.2 both.1, isUnread.2 both.2⟩
    rw [judged, dropped]
    exact finish _ rfl rfl rfl
  · have stray : heard.judgeFrame f = .stray := State.judgeFrame_stray_iff.2 ⟨isAddressed.2 there, fun ⟨isS, fine⟩ => by
      rcases wrong with unsent | ⟨read, misfit⟩
      · exact unsent (isSent.1 isS)
      · rw [isUnread, kindIs] at fine
        exact fine.elim read fun fits => Bool.false_ne_true (misfit.symm.trans fits)⟩
    rw [judged, stray]
    exact State.stray_finish lit
  have fine : formFits f.kind.toNat f.payload = true := by rw [kindIs]; exact fits
  have accepted : heard.judgeFrame f = .accepted :=
    State.judgeFrame_accepted (isAddressed.2 there) (isSent.2 isS) (mt isUnread.1 read) fine
  have enters : exec c s = (heard.enterBuffer f present).finish := by rw [judged, accepted]
  refine ⟨fun restart => ?_, fun notRestart => ⟨fun room few => ⟨fun waiting => ?_, fun goes => ?_⟩, fun full => ?_⟩⟩
  · rw [enters, State.enterBuffer_restart (kindIs.trans restart), exec_restart, execRestart, if_pos (show heard.takesFrames = true from takes)]
  · obtain ⟨isKind, fullReport⟩ := waiting
    rw [enters, State.enterBuffer_request (s := heard) (by rwa [kindIs]) room (RxFrame.isRequest_iff.2 (by rwa [kindIs])),
      State.takeRequest_waits (s := heard) fullReport room]
    exact finish _ rfl rfl rfl
  · obtain ⟨b, brings⟩ := frameCommand_some (present := present) (isSent.2 isS) (mt isUnread.1 read)
    refine ⟨b, brings, ?_⟩
    rw [enters]
    refine (State.enterBuffer_acts (s := heard) takes (by rw [senderIs]; exact other) (isSent.2 isS) fine hp (by rwa [kindIs]) room (fun request => ?_) brings).symm
    have isKind := RxFrame.isRequest_iff.1 request
    rw [kindIs] at isKind
    exact lt_of_le_of_ne few fun fullReport => goes ⟨isKind, fullReport⟩
  · rw [enters, State.enterBuffer_lost (s := heard) (by rwa [kindIs]) full]
    refine ⟨_, finish _ (by simp [heard]) (by simp [heard]) (by simp [heard]), by simp [heard], by simp [heard], ?_, by simp, by simp [heard], by simp [heard], by simp [heard]⟩
    simp only [State.raise_frame]
    rfl

end Sys2Proof.Machine
end


section
/-! PROOFS. The end of a reset: the straps, what the line brought in start-up, the scan and HELLO (R99, R159, R165). -/

set_option Elab.async false

namespace Sys2Proof.Machine

/-! ### The start-up scan (R159) -/

/-- A field of two bytes, low byte first. -/
theorem field_two (p : List Byte) (i : Nat) : field p i 2 = (p.getD i 0).toNat + 256 * (p.getD (i + 1) 0).toNat := by
  have low : p.getD i 0 = (p.drop i).getD 0 0 := by simp [List.getD_eq_getElem?_getD]
  have high : p.getD (i + 1) 0 = (p.drop i).getD 1 0 := by simp [List.getD_eq_getElem?_getD]
  rw [low, high, field]
  match p.drop i with
  | [] | [_] | _ :: _ :: _ => rfl

theorem Slot.scanDamaged_scannedAs (c : Slot) : c.ScannedAs c.scanDamaged := by
  have check : c.check = (c.cells.getD 28 0).toNat + 256 * (c.cells.getD 29 0).toNat := field_two c.cells 28
  have serial : c.showsSerial = (c.cells.getD 0 0).getLsbD 0 := by
    rw [Slot.showsSerial, field_byte, BitVec.testBit_toNat]
  constructor
  case empty =>
    intro first second
    simp [Slot.scanDamaged, Slot.isEmpty, first, second]
  case second =>
    intro first second
    simp [Slot.scanDamaged, Slot.isEmpty, first, second]
  case check =>
    intro first wrong
    rw [← check] at wrong
    simp [Slot.scanDamaged, Slot.isEmpty, first, Slot.checks, wrong]
  case serial =>
    intro first agrees
    rw [← check] at agrees
    simp [Slot.scanDamaged, Slot.isEmpty, first, Slot.checks, agrees, serial]

/-! ### What the line brings in STARTING (R94, R95, R99) -/

/-- The frame received correctly, if the line brought one. -/
def goodFrame : Heard → Option RxFrame
  | .frame bytes _ _ => match receiveFrame bytes with
    | .good f => some f
    | .error _ => none
  | .error _ => none

/-- Is a frame of another sender stray? -/
def State.strays (s : State) (f : RxFrame) : Bool := f.sender.toNat ≠ s.sys.address && s.judgeFrame f = .stray

/-- What the frames `frames` and so many errors leave of a station in STARTING. -/
structure State.HeardInStart (s t : State) (frames : List RxFrame) (errors : Nat) : Prop where
  sys : t.sys = s.sys
  rsq : t.rsq = s.rsq
  report : t.bli.report = s.bli.report
  raised : ∀ e : Event, e ≠ .lineError → e.isIn t.rrp.flags = e.isIn s.rrp.flags
  sender : t.bli.w = ((frames.map RxFrame.sender).getLast?).getD s.bli.w
  stray : s.bli.strays ≤ 65535 → t.bli.strays = min 65535 (s.bli.strays + (frames.filter s.strays).length)
  error : s.bli.lineErrors ≤ 65535 → t.bli.lineErrors = min 65535 (s.bli.lineErrors + errors)

section
variable {s t u : State} {frames more : List RxFrame} {m n : Nat}

theorem State.strays_congr (sys : u.sys = s.sys) : u.strays = s.strays := by
  funext f
  have addressed : u.addressed f = s.addressed f := by rw [State.addressed, State.addressed, sys]
  rw [State.strays, State.strays, sys, State.judgeFrame, State.judgeFrame, addressed]

theorem State.HeardInStart.refl (s : State) : s.HeardInStart s [] 0 :=
  ⟨rfl, rfl, rfl, fun _ _ => rfl, rfl, fun fits => by simp [fits], fun fits => by simp [fits]⟩

/-- What the line shows is nothing to what is counted of it. -/
theorem State.HeardInStart.see (s : State) (line : List LineEdge) : s.HeardInStart (s.see line) [] 0 where
  sys := by simp
  rsq := by simp
  report := by simp
  raised := by simp
  sender := by simp
  stray fits := by simp [fits]
  error fits := by simp [fits]

theorem State.HeardInStart.charactersEnded (s : State) (bytes : List Byte) (ago : Nat) : s.HeardInStart (s.charactersEnded bytes ago) [] 0 where
  sys := by simp
  rsq := by simp
  report := by simp
  raised := by simp
  sender := by simp
  stray fits := by simp [fits]
  error fits := by simp [fits]

theorem State.HeardInStart.trans (h : s.HeardInStart t frames m) (g : t.HeardInStart u more n) :
    s.HeardInStart u (frames ++ more) (m + n) where
  sys := g.sys.trans h.sys
  rsq := g.rsq.trans h.rsq
  report := g.report.trans h.report
  raised e other := (g.raised e other).trans (h.raised e other)
  sender := by
    rw [g.sender, h.sender, List.map_append, List.getLast?_append]
    cases (more.map RxFrame.sender).getLast? <;> rfl
  stray fits := by
    have first := h.stray fits
    have second := g.stray (by omega)
    rw [second, first, State.strays_congr h.sys, List.filter_append, List.length_append]
    omega
  error fits := by
    have first := h.error fits
    have second := g.error (by omega)
    omega

/-- In STARTING no event calls for a frame. -/
theorem State.raise_starting (starting : s.rsq.runState = .starting) (e : Event) : (s.raise e).bli = s.bli := by
  simp only [State.raise]
  split
  · rw [State.callStatus, if_neg (by simp [starting]), if_pos (by simp [starting])]
    rfl
  · rfl

theorem State.startingFrame_hears (f : RxFrame) : s.HeardInStart (s.startingFrame f) [f] 0 := by
  have judged : (s.heard f).judgeFrame f = s.judgeFrame f := rfl
  have frame : s.startingFrame f = if s.strays f then (s.heard f).stray else s.heard f := by
    simp only [State.startingFrame, judged, State.strays]
    by_cases own : f.sender.toNat = s.sys.address <;> simp [own]
  constructor
  case sys => simp
  case rsq => simp
  case report => simp
  case raised => simp
  case sender =>
    rw [frame]
    split
    · simp [State.heard]
    · rfl
  case stray =>
    intro fits
    rw [frame]
    split
    · next stray =>
      have counted : (s.heard f).stray.bli.strays = bump 65535 s.bli.strays := rfl
      rw [counted, bump, List.filter_cons, if_pos stray, List.filter_nil, List.length_singleton]
      split <;> omega
    · next stray => simp [State.heard, stray, fits]
  case error => simp

theorem State.receiveError_hears (starting : s.rsq.runState = .starting) : s.HeardInStart s.receiveError [] 1 := by
  have bli : s.receiveError.bli = { s.bli with stage := RxStage.reset, lineErrors := bump 65535 s.bli.lineErrors } :=
    State.raise_starting (s := (s.mapBli fun b => { b with stage := RxStage.reset }).mapBli fun b => { b with lineErrors := bump 65535 b.lineErrors })
      starting _
  constructor
  case sys => simp
  case rsq => simp
  case report => rw [bli]
  case raised =>
    intro e other
    refine (State.isIn_raise _ .lineError e).trans ?_
    rw [decide_eq_false other, Bool.or_false]
    rfl
  case sender => rw [bli]; rfl
  case stray =>
    intro fits
    rw [bli]
    simp [fits]
  case error =>
    intro fits
    rw [bli]
    simp only [bump]
    split <;> omega

theorem State.startingHears_hears (starting : s.rsq.runState = .starting) (h : Heard) :
    s.HeardInStart (s.startingHears h) (goodFrame h).toList (if (goodFrame h).isSome then 0 else 1) := by
  cases h with
  | error bad => exact (State.HeardInStart.see s bad.line).trans (State.receiveError_hears (by simpa using starting))
  | frame bytes line ago =>
    have shown := State.HeardInStart.see s line
    cases received : receiveFrame bytes with
    | error e =>
      simp only [State.startingHears, goodFrame, received]
      exact shown.trans (State.receiveError_hears (by simpa using starting))
    | good f =>
      simp only [State.startingHears, goodFrame, received]
      exact (shown.trans (State.HeardInStart.charactersEnded _ bytes ago)).trans (State.startingFrame_hears f)

theorem State.startingHears_foldl (starting : s.rsq.runState = .starting) (heard : List Heard) : ∃ errors,
    errors + (heard.filterMap goodFrame).length = heard.length ∧ s.HeardInStart (heard.foldl State.startingHears s) (heard.filterMap goodFrame) errors := by
  induction heard generalizing s with
  | nil => exact ⟨0, rfl, State.HeardInStart.refl s⟩
  | cons h rest ih =>
    have first := State.startingHears_hears starting h
    obtain ⟨errors, count, hears⟩ := ih (s := s.startingHears h) (by rw [first.rsq]; exact starting)
    refine ⟨(if (goodFrame h).isSome then 0 else 1) + errors, ?_, ?_⟩
    · cases good : goodFrame h <;> simp [good] <;> omega
    · have both := first.trans hears
      cases good : goodFrame h <;> simpa [List.filterMap_cons, good] using both
end

/-! ### The straps (R165) -/

theorem strapAddress_position {addr : BitVec 6} (h : 1 ≤ addr.toNat ∧ addr.toNat ≤ 60) : strapAddress addr = some addr.toNat :=
  if_pos ((isPosition_iff addr).2 h)

theorem strapAddress_none {addr : BitVec 6} (h : ¬ (1 ≤ addr.toNat ∧ addr.toNat ≤ 60)) : strapAddress addr = none :=
  if_neg fun inside => h ((isPosition_iff addr).1 inside)

theorem strapRate_some {rate : BitVec 2} (h : rate.toNat < 3) :
    strapRate rate = some (if rate = 0 then .r125 else if rate = 1 then .r250 else .r500) := by
  decide +revert

theorem strapRate_none {rate : BitVec 2} (h : rate.toNat = 3) : strapRate rate = none := by
  simp [strapRate, h]

theorem State.endReset_strapError {s : State} {addr : BitVec 6} {rate : BitVec 2} {heard : List Heard}
    (wrong : addr.toNat = 0 ∨ 60 < addr.toNat ∨ rate.toNat = 3) :
    s.endReset addr rate heard = (s.mapSys fun y => { y with inReset := false }).enter .strapError := by
  rw [State.endReset]
  by_cases three : rate.toNat = 3
  · rw [strapRate_none three]
    cases strapAddress addr <;> rfl
  · rw [strapAddress_none (by omega)]

/-- After a command the lamps show the condition of the station. -/
theorem State.relamp_shows (s : State) : (s.relamp.seu.lamps.green, s.relamp.seu.lamps.red, s.relamp.seu.lamps.amber) = s.lampDrives :=
  s.relamp_follows.trans s.relamp_lampDrives

/-! ### The scan, HELLO and a STATUS that is due (R137, R159, R165) -/

section
variable {s : State}

theorem State.scanStore_isIn (s : State) (e : Event) : e.isIn s.scanStore.rrp.flags = true ↔
    e.isIn s.rrp.flags = true ∨ (e = .storeDamaged ∧ ∃ c ∈ s.rst.slots, c.scanDamaged = true ∧ c.exported = false) := by
  rw [State.scanStore]
  split
  · next found =>
    have found : ∃ c ∈ s.rst.slots, c.scanDamaged = true ∧ c.exported = false := by simpa using found
    rw [State.isIn_raise]
    simp [found]
  · next none =>
    have none : ¬ ∃ c ∈ s.rst.slots, c.scanDamaged = true ∧ c.exported = false := by simpa using none
    simp [none]

theorem State.scanStore_bli (starting : s.rsq.runState = .starting) : s.scanStore.bli = s.bli := by
  rw [State.scanStore]
  split
  · exact State.raise_starting (by exact starting) _
  · rfl

theorem State.scanStore_rst (s : State) : s.scanStore.rst = { s.rst with damaged := s.rst.slots.map Slot.scanDamaged } := by
  rw [State.scanStore]
  split <;> simp

theorem State.helloFrame_congr {u : State} (rst : u.rst = s.rst) (sys : u.sys.cause = s.sys.cause) : u.helloFrame = s.helloFrame := by
  have free := State.freeCount_congr rst
  have damaged (n : Nat) : u.isDamaged n = s.isDamaged n := by simp only [State.isDamaged, rst]
  rw [State.helloFrame, State.helloFrame, free, State.damagedCount, State.damagedCount, rst, sys]
  simp only [damaged]

/-- Only the flag of a STATUS that is due, and the STATUS behind what the part holds. -/
theorem State.queueDueStatus_leaves (room : s.bli.report.length < 4) (on : s.rsq.runState ≠ .clashed) : ∃ behind due,
    (∀ f ∈ behind, f = ReportFrame.status) ∧ s.queueDueStatus = { s with
      bli := { s.bli with report := s.bli.report ++ behind }, rrp := { s.rrp with statusDue := due } } := by
  cases called : s.rrp.statusDue with
  | false =>
    refine ⟨[], s.rrp.statusDue, by simp, ?_⟩
    rw [State.queueDueStatus_none called, List.append_nil]
  | true => exact ⟨[.status], false, by simp, State.queueDueStatus_queues called room on⟩

end

/-! ### The start-up sequence (R165) -/

/-- The straps read. -/
def State.strapped (s : State) (address : Nat) (rate : LineRate) : State :=
  s.mapSys fun y => { y with inReset := false, address := address, rate := rate }

@[simp] theorem State.strapped_frame (s : State) (address : Nat) (rate : LineRate) : let t := s.strapped address rate
    t.sys = { s.sys with inReset := false, address := address, rate := rate } ∧ t.rsq = s.rsq ∧ t.bli = s.bli ∧ t.rrp = s.rrp ∧ t.rst = s.rst ∧
    t.plt = s.plt ∧ t.pfe = s.pfe ∧ t.gates = s.gates ∧ t.ecu = s.ecu :=
  ⟨rfl, rfl, rfl, rfl, rfl, rfl, rfl, rfl, rfl⟩

/-- The station before its HELLO: the straps read, the line heard, the store scanned. -/
def State.scanned (s : State) (address : Nat) (rate : LineRate) (heard : List Heard) : State :=
  let t := (heard.foldl State.startingHears (s.strapped address rate)).scanStore
  if s.sys.cause = .restartClashed then t.raise .addressClash else t

section
variable {s : State} {address : Nat} {rate : LineRate} {heard : List Heard}

@[simp] theorem State.scanned_frame (s : State) (address : Nat) (rate : LineRate) (heard : List Heard) : let u := s.scanned address rate heard
    u.rsq = s.rsq ∧ u.plt = s.plt ∧ u.pfe = s.pfe ∧ u.gates = s.gates ∧ u.ecu = s.ecu ∧
    u.sys = { s.sys with inReset := false, address := address, rate := rate } ∧
    u.rst = { s.rst with damaged := s.rst.slots.map Slot.scanDamaged } := by
  simp only [State.scanned]
  split <;> simp [State.scanStore_rst]

theorem State.scanned_isIn (starting : s.rsq.runState = .starting) (e : Event) (other : e ≠ .lineError) :
    e.isIn (s.scanned address rate heard).rrp.flags = true ↔
    e.isIn s.rrp.flags = true ∨ (e = .storeDamaged ∧ ∃ c ∈ s.rst.slots, c.scanDamaged = true ∧ c.exported = false) ∨
      (e = .addressClash ∧ s.sys.cause = .restartClashed) := by
  obtain ⟨_, _, hears⟩ := State.startingHears_foldl (s := s.strapped address rate) starting heard
  have raised := hears.raised e other
  simp only [State.scanned]
  split
  · next clashed => rw [State.isIn_raise, Bool.or_eq_true, decide_eq_true_eq, State.scanStore_isIn, raised]; simp [clashed, or_assoc]
  · next other => rw [State.scanStore_isIn, raised]; simp [other]

theorem State.scanned_bli (starting : s.rsq.runState = .starting) : (s.scanned address rate heard).bli =
    (heard.foldl State.startingHears (s.strapped address rate)).bli := by
  rw [State.scanned]
  split
  · rw [State.raise_starting (by simpa using starting), State.scanStore_bli (by simpa using starting)]
  · rw [State.scanStore_bli (by simpa using starting)]

/-- The station in IDLE, with HELLO alone in its part or before the STATUS that an event in start-up called for. -/
theorem State.startUp_leaves (starting : s.rsq.runState = .starting) (empty : s.bli.report = []) :
    let u := s.scanned address rate heard
    let t := s.startUp address rate heard
    ∃ behind, (∀ f ∈ behind, f = ReportFrame.status) ∧ t.bli = { u.bli with report := u.helloFrame :: behind } ∧
      t.rrp.flags = u.rrp.flags ∧ t.rsq = { s.rsq with runState := .idle } ∧ t.rst = u.rst ∧ t.sys = u.sys := by
  intro u t
  obtain ⟨_, _, hears⟩ := State.startingHears_foldl (s := s.strapped address rate) starting heard
  have report : (s.scanned address rate heard).bli.report = [] := by rw [State.scanned_bli starting, hears.report]; exact empty
  have hello : (s.scanned address rate heard).offerReport (s.scanned address rate heard).helloFrame =
      (s.scanned address rate heard).reported (s.scanned address rate heard).helloFrame :=
    State.offerReport_reported (by simp [starting]) (by simp [report]) _
  obtain ⟨behind, due, statuses, left⟩ := State.queueDueStatus_leaves
    (s := ((s.scanned address rate heard).reported (s.scanned address rate heard).helloFrame).enter .idle)
    (by simp [State.reported, report]) (by simp)
  have sequence : t = { (u.reported u.helloFrame).enter .idle with
      bli := { u.bli with report := u.bli.report ++ [u.helloFrame] ++ behind }, rrp := { u.rrp with statusDue := due } } :=
    (congrArg (fun w : State => (w.enter .idle).queueDueStatus) hello).trans left
  refine ⟨behind, statuses, ?_⟩
  rw [sequence]
  simp [State.reported, State.enter, report, u]

end

/-- With the address read, the frames of start-up that are stray. -/
theorem State.strays_iff {s : State} {f : RxFrame} {addr : BitVec 6} (address : s.sys.address = addr.toNat) : s.strays f = true ↔
    f.sender ≠ addr ∧ (f.target = addr ∨ f.target = 63) ∧
      ¬ (f.Sent ∧ (f.kind.toNat = 32 ∨ 39 ≤ f.kind.toNat ∨ formFits f.kind.toNat f.payload = true)) := by
  have addressed : s.addressed f = true ↔ f.target = addr ∨ f.target = 63 := by
    simp [State.addressed, address, ← BitVec.toNat_inj]
  rw [State.strays, Bool.and_eq_true, decide_eq_true_eq, decide_eq_true_eq, State.judgeFrame_stray_iff, addressed, address, ne_eq,
    BitVec.toNat_inj, RxFrame.Unread, or_assoc]

/-- Settles O4: the scan's table slot by slot; what the line brings is folded over the frames and errors heard, HELLO goes into an empty part,
and a strap error only enters its state. -/
theorem resetEndReadsTheStraps : Obligations.ResetEndReadsTheStraps := by
  refine ⟨Slot.scanDamaged_scannedAs, ?_⟩
  intro s addr rate heard inReset frames stray
  have run : exec (.resetEnd addr rate heard) s = .next (s.endReset addr rate heard).relamp := by
    show execResetEnd addr rate heard s = _
    rw [execResetEnd, if_pos inReset]
    rfl
  refine ⟨fun starting empty low high code => ?_, fun wrong => ?_⟩
  · set r : LineRate := if rate = 0 then .r125 else if rate = 1 then .r250 else .r500
    have ended : s.endReset addr rate heard = s.startUp addr.toNat r heard := by
      rw [State.endReset, strapAddress_position ⟨low, high⟩, strapRate_some code]
    obtain ⟨behind, statuses, bli, flags, rsq, rst, sys⟩ :=
      State.startUp_leaves (address := addr.toNat) (rate := r) (heard := heard) starting empty
    set u := s.scanned addr.toNat r heard
    let read := s.strapped addr.toNat r
    obtain ⟨errors, count, hears⟩ := State.startingHears_foldl (s := read) starting heard
    have line : u.bli = (heard.foldl State.startingHears read).bli := State.scanned_bli starting
    have good : frames = heard.filterMap goodFrame := by
      refine congrArg (heard.filterMap ·) (funext fun h => ?_)
      cases h <;> rfl
    have strayed : stray = read.strays :=
      funext fun f => Bool.eq_iff_iff.2 (decide_eq_true_iff.trans (State.strays_iff rfl).symm)
    have store : u.rst = { s.rst with damaged := s.rst.slots.map Slot.scanDamaged } := by simp [u]
    have identity : u.sys = { s.sys with inReset := false, address := addr.toNat, rate := r } := by simp [u]
    have hello (t : State) (kept : t.rst = u.rst) (cause : t.sys.cause = s.sys.cause) :
        u.helloFrame = .hello s.sys.cause.code t.freeCount (t.damagedCount 32) s.rst.lastRecord := by
      rw [← State.helloFrame_congr kept (by rw [cause, identity]), State.helloFrame, kept, cause, store]
    have raised (e : Event) (other : e ≠ .lineError) : e.isIn u.rrp.flags = true ↔ _ := State.scanned_isIn starting e other
    rw [run, ended]
    refine ⟨_, rfl, ?_⟩
    simp only [State.relamp_frame, rsq, sys, rst, bli, flags, identity, store, List.head?_cons, List.tail_cons, good, strayed, line]
    refine ⟨trivial, trivial, trivial, trivial, trivial, trivial, ?_, statuses, ?_, ?_, by exact hears.sender, ?_⟩
    · rw [hello (s.startUp addr.toNat r heard).relamp (by simp [rst]) (by simp)]
    · simp [raised .storeDamaged nofun]
    · simp [raised .addressClash nofun]
    · have wrong : errors = heard.length - (heard.filterMap goodFrame).length := by omega
      exact ⟨by simp [read], by simp [read], by simp [read], by simp [read], by simp [read], hears.stray, wrong ▸ hears.error,
        by simp, by simp, by simp, by simp⟩
  · rw [run, State.endReset_strapError wrong]
    refine ⟨_, rfl, ?_⟩
    rw [State.relamp_shows]
    simp [State.enter, State.lampDrives]

end Sys2Proof.Machine
end
